-- ==== Sys2Proof/Word.lean ====
section
/-! DEFINITION. Words, tables and whole-number arithmetic of the CX24 (spec 00_scope.md, R1).

Quantities of the manual are whole numbers: `Nat` where the manual says unsigned, `Int` where it says
signed. Bit vectors stand only where the manual has bits or a wrapping count: bytes of a frame or a
telegram, part time, and sets of slots written as one bit per slot. -/

namespace Sys2Proof

/-- One byte of a request frame, a reply frame or a telegram. -/
abbrev Byte := BitVec 8

/-- Part time: the unsigned 32-bit count of tenths of a second since the last reset, which wraps
(00_scope.md, Units and representations). -/
abbrev PartTime := BitVec 32

/-- A section slot, 0 to 23; fan channel F*n* has the same number. -/
abbrev Slot := Fin 24

/-- A loop, 0 to 3; pump channel P*n* has the same number. -/
abbrev LoopId := Fin 4

/-- A binding, 0 to 47. -/
abbrev BindingId := Fin 48

/-- A clear line, 0 to 3. -/
abbrev LineId := Fin 4

/-- Every slot, in ascending order. -/
def allSlots : List Slot := List.finRange 24

/-- Every loop, in ascending order. -/
def allLoops : List LoopId := List.finRange 4

/-- Every binding, in ascending order (the order of R100's search). -/
def allBindings : List BindingId := List.finRange 48

/-- Every clear line, in ascending order. -/
def allLines : List LineId := List.finRange 4

section Tables

variable {α : Type} {n : Nat}

/-- The entry of a table of `n` records at one index. -/
def tabGet (v : Vector α n) (i : Fin n) : α := v[i.val]'i.isLt

/-- The table with the record at one index replaced. -/
def tabSet (v : Vector α n) (i : Fin n) (a : α) : Vector α n := v.set i.val a i.isLt

/-- The table whose record at each index is given by a function. -/
def tabMk (f : Fin n → α) : Vector α n := Vector.ofFn f

end Tables

/-- `v` clamped to the range `lo` to `hi` (R1: a value below becomes the lowest of the range, one above
the highest). -/
def clampNat (lo hi v : Nat) : Nat := max lo (min hi v)

/-- `clampNat` for signed values. -/
def clampInt (lo hi v : Int) : Int := max lo (min hi v)

/-- The floor of `a / b` for a positive `b`: the greatest whole number not above it (R1). -/
def floorDiv (a : Int) (b : Nat) : Int := a / (b : Int)

/-- The ceiling of `a / b` for a positive `b`: the least whole number not below it (R1). -/
def ceilDiv (a : Int) (b : Nat) : Int := -((-a) / (b : Int))

/-! ### The unit of time

The model counts time in twelfths of a microsecond, the coarsest unit in which a cycle of the 4.000 MHz
part clock (3 units), a bit at 19,200 bit/s (625 units), 100 µs, 250 ms and a tenth of a second are all
whole (log entry 2). -/

/-- Units in one cycle of the 4.000 MHz part clock. -/
def unitsPerCycle : Nat := 3

/-- Units in a tenth of a second. -/
def unitsPerTenth : Nat := 1200000

/-- Units in one character time, 10 bit times at 19,200 bit/s (R89). -/
def unitsPerChar : Nat := 6250

/-- Units in 100 µs, the time in which a reply becomes ready (R176). -/
def unitsToReady : Nat := 1200

/-- Units in 250 ms, the interval of the fan and pump ramp timers (R81, R128). -/
def unitsPerRamp : Nat := 3000000

end Sys2Proof
end

