-- ==== Sys2Proof/Syntax.lean ====
section
/-! DEFINITION. The commands that reach the CX24: one constructor for each row of spec/opcode_table.json,
with the operands its rule speaks of.

* A request carries the subject byte and the payload bytes of its request frame, as sent; every check a
  rule makes on them, of length, range or code, is made by the machine (R171, R173, R174).
* `dt` is the time that has passed since the command before, in twelfths of a microsecond (Word.lean).
* The expiry of a timer, and a reply becoming ready, take no `dt`: they come at the moment the timer
  holds (log entry 4). -/

namespace Sys2Proof

/-- One character seen on the section bus (R89, R94). -/
structure BusChar where
  /-- The eight data bits. -/
  byte : Byte
  /-- Whether the stop bit was valid. -/
  stopOk : Bool
  /-- Whether the part itself sent the character (R94). -/
  own : Bool
  /-- The silence since the end of the character before it, in the units of Word.lean; of the first character of
  a fragment it is not looked at. -/
  pause : Nat := 0
  deriving DecidableEq, Repr

/-- A destination field: three for each section, four for each loop (R98, section 5.6). -/
inductive DestField where
  | outlet (n : Slot)
  | air (n : Slot)
  | valve (n : Slot)
  | loopFlow (l : LoopId)
  | loopPressure (l : LoopId)
  | loopConcentration (l : LoopId)
  | loopAir (l : LoopId)
  deriving DecidableEq, Repr

/-- A drive channel: fan channel F*n* or pump channel P*n*. -/
inductive ChannelRef where
  | fan (n : Slot)
  | pump (l : LoopId)
  deriving DecidableEq, Repr

/-- The two channel clocks (R118). -/
inductive ClockGroup where
  | fans
  | pumps
  deriving DecidableEq, Repr

/-- The commands, in the order of spec/opcode_table.json. -/
inductive Instr where
  | null (dt : Nat) (subject : Byte) (payload : List Byte)
  | enrol (dt : Nat) (subject : Byte) (payload : List Byte)
  | amendFlow (dt : Nat) (subject : Byte) (payload : List Byte)
  | amendThresholds (dt : Nat) (subject : Byte) (payload : List Byte)
  | amendStaleness (dt : Nat) (subject : Byte) (payload : List Byte)
  | amendValve (dt : Nat) (subject : Byte) (payload : List Byte)
  | amendGang (dt : Nat) (subject : Byte) (payload : List Byte)
  | amendRamp (dt : Nat) (subject : Byte) (payload : List Byte)
  | amendLimits (dt : Nat) (subject : Byte) (payload : List Byte)
  | lookup (dt : Nat) (subject : Byte) (payload : List Byte)
  | fanDemand (dt : Nat) (subject : Byte) (payload : List Byte)
  | acknowledgeTrip (dt : Nat) (subject : Byte) (payload : List Byte)
  | retire (dt : Nat) (subject : Byte) (payload : List Byte)
  | loopSetGlycol (dt : Nat) (subject : Byte) (payload : List Byte)
  | loopSetRegime (dt : Nat) (subject : Byte) (payload : List Byte)
  | loopSetPump (dt : Nat) (subject : Byte) (payload : List Byte)
  | loopSetLeak (dt : Nat) (subject : Byte) (payload : List Byte)
  | loopSetSearch (dt : Nat) (subject : Byte) (payload : List Byte)
  | loopSetUnset (dt : Nat) (subject : Byte) (payload : List Byte)
  | loopLookup (dt : Nat) (subject : Byte) (payload : List Byte)
  | pumpDemand (dt : Nat) (subject : Byte) (payload : List Byte)
  | curveLoad (dt : Nat) (subject : Byte) (payload : List Byte)
  | curveLookup (dt : Nat) (subject : Byte) (payload : List Byte)
  | bind (dt : Nat) (subject : Byte) (payload : List Byte)
  | unbind (dt : Nat) (subject : Byte) (payload : List Byte)
  | holdOn (dt : Nat) (subject : Byte) (payload : List Byte)
  | holdOff (dt : Nat) (subject : Byte) (payload : List Byte)
  | bindingLookup (dt : Nat) (subject : Byte) (payload : List Byte)
  | seenRead (dt : Nat) (subject : Byte) (payload : List Byte)
  | seenClear (dt : Nat) (subject : Byte) (payload : List Byte)
  | clearLineSet (dt : Nat) (subject : Byte) (payload : List Byte)
  | clearLineLookup (dt : Nat) (subject : Byte) (payload : List Byte)
  | searchStart (dt : Nat) (subject : Byte) (payload : List Byte)
  | searchStop (dt : Nat) (subject : Byte) (payload : List Byte)
  | searchLookup (dt : Nat) (subject : Byte) (payload : List Byte)
  | nextAttention (dt : Nat) (subject : Byte) (payload : List Byte)
  | attentionLevels (dt : Nat) (subject : Byte) (payload : List Byte)
  | partStatus (dt : Nat) (subject : Byte) (payload : List Byte)
  | partConfigure (dt : Nat) (subject : Byte) (payload : List Byte)
  | fullReset (dt : Nat) (subject : Byte) (payload : List Byte)
  /-- A falling edge of LINK_SEL_N. -/
  | transactionBegin (dt : Nat)
  /-- The rising edge of LINK_SEL_N after `bytes` whole bytes and `extra` further clock pulses. -/
  | brokenTransaction (dt : Nat) (bytes : List Byte) (extra : Nat)
  /-- The rising edge of LINK_SEL_N after the 64 bytes of `frame`, which fails a check of R169. -/
  | frameRefused (dt : Nat) (frame : List Byte)
  | notReadyTransactionEnd (dt : Nat)
  | replyReady
  /-- Power-on, with the levels the input pins have as it completes. -/
  | powerOn (stopLow selLow resetLow : Bool)
  /-- The rising edge of RESET_N that ends a reset by that pin. -/
  | pinReset
  | stopAssertion (dt : Nat)
  | stopRelease (dt : Nat)
  /-- The gap that ends the fragment made of `chars`. -/
  | fragmentEnd (dt : Nat) (chars : List BusChar)
  | transmissionBegin (dt : Nat)
  /-- The end of a transmission, with the characters read back. -/
  | transmissionEnd (dt : Nat) (readBack : List BusChar)
  | evaluationTake (dt : Nat)
  | evaluationTimerExpiry (n : Slot)
  | refreshTimerExpiry (n : Slot)
  | freshnessExpiry (d : DestField)
  | combiningWindowExpiry (d : DestField)
  | holdExpiry (d : DestField)
  | fanRampExpiry (n : Slot)
  | pumpRampExpiry (l : LoopId)
  | periodBoundary (dt : Nat) (c : ChannelRef)
  | leakWindowExpiry (l : LoopId)
  | delayTimerExpiry (k : LineId)
  | settleTimerExpiry
  | settleDeadlineExpiry
  | observeTimerExpiry
  | restTimerExpiry
  | restDeadlineExpiry
  | channelClockTick (dt : Nat) (g : ClockGroup)
  /-- The falling edge of RESET_N. -/
  | resetInputAssertion
  deriving DecidableEq, Repr

end Sys2Proof
end

