-- ==== Sys2Proof/Decode.lean ====
section
/-! DEFINITION. What arrives as bits and becomes a command: the nibble code and the telegrams of the
section bus (R89 to R95), and the frames of the request link (section 9.2, R169, R173). Every decoder is
total and rejects by name. The opcode table gives no row any bits, so `decodeTableWord` reads none. -/

namespace Sys2Proof

/-! ### The nibble code -/

/-- The coded byte of a nibble (R91): positions p1, p2, d1, p3, d2, d3, d4 in bits 0 to 6, and in bit 7 the
parity that makes the number of ones even. d1 is the nibble's most significant bit. -/
def encodeNibble (v : BitVec 4) : Byte :=
  let d1 := v.getLsbD 3
  let d2 := v.getLsbD 2
  let d3 := v.getLsbD 1
  let d4 := v.getLsbD 0
  let p1 := d1 ^^ d2 ^^ d4
  let p2 := d1 ^^ d3 ^^ d4
  let p3 := d2 ^^ d3 ^^ d4
  let parity := p1 ^^ p2 ^^ d1 ^^ p3 ^^ d2 ^^ d3 ^^ d4
  BitVec.ofBoolListLE [p1, p2, d1, p3, d2, d3, d4, parity]

/-- The syndrome of a received byte, 0 to 7 (R92); position *k* is bit *k* - 1. -/
def syndrome (b : Byte) : Nat :=
  let s1 := b.getLsbD 0 ^^ b.getLsbD 2 ^^ b.getLsbD 4 ^^ b.getLsbD 6
  let s2 := b.getLsbD 1 ^^ b.getLsbD 2 ^^ b.getLsbD 5 ^^ b.getLsbD 6
  let s3 := b.getLsbD 3 ^^ b.getLsbD 4 ^^ b.getLsbD 5 ^^ b.getLsbD 6
  s1.toNat + 2 * s2.toNat + 4 * s3.toNat

/-- Whether a byte holds an odd number of ones (R92). -/
def oddOnes (b : Byte) : Bool :=
  b.getLsbD 0 ^^ b.getLsbD 1 ^^ b.getLsbD 2 ^^ b.getLsbD 3 ^^ b.getLsbD 4 ^^ b.getLsbD 5 ^^
    b.getLsbD 6 ^^ b.getLsbD 7

/-- The data bits d1 to d4 of a coded byte, as a nibble. -/
def dataNibble (b : Byte) : BitVec 4 :=
  BitVec.ofBoolListLE [b.getLsbD 6, b.getLsbD 5, b.getLsbD 4, b.getLsbD 2]

/-- The nibble a received byte delivers, or none for a double error (R92). -/
def decodeNibble (b : Byte) : Option (BitVec 4) :=
  if syndrome b = 0 then some (dataNibble b)
  else if oddOnes b then some (dataNibble (b ^^^ (1#8 <<< (syndrome b - 1))))
  else none

/-! ### Telegrams -/

/-- The contents of a valid telegram (section 5.1): `kind` is the upper three bits of byte 3's nibble and
`command` its lowest bit. -/
structure Telegram where
  node : Byte
  kind : BitVec 3
  command : Bool
  sub : BitVec 4
  value : BitVec 16
  quality : BitVec 2
  deriving DecidableEq, Repr

/-- Why a fragment of nine good characters is not a valid telegram (R93, in the order of its checks). -/
inductive TelegramError where
  | startByte | doubleError | qualityByte | checkByte
  deriving DecidableEq, Repr

/-- The judgement of nine characters as a telegram (R90, R92, R93). -/
def decodeTelegram (b0 b1 b2 b3 b4 b5 b6 b7 b8 : Byte) : Except TelegramError Telegram :=
  if b0 ≠ 0x3C#8 then .error .startByte
  else
    match decodeNibble b1, decodeNibble b2, decodeNibble b3, decodeNibble b4 with
    | some high, some low, some kd, some sub =>
      if b7.extractLsb' 2 6 ≠ 0 then .error .qualityByte
      else if b5 + b6 + b7 + b8 ≠ 0 then .error .checkByte
      else .ok
        { node := high ++ low, kind := kd.extractLsb' 1 3, command := kd.getLsbD 0, sub := sub,
          value := b5 ++ b6, quality := b7.extractLsb' 0 2 }
    | _, _, _, _ => .error .doubleError

/-- The nine characters of a telegram (section 5.1, R91). -/
def encodeTelegram (t : Telegram) : List Byte :=
  let high := t.value.extractLsb' 8 8
  let low := t.value.extractLsb' 0 8
  let quality : Byte := t.quality.setWidth 8
  [0x3C#8, encodeNibble (t.node.extractLsb' 4 4), encodeNibble (t.node.extractLsb' 0 4),
    encodeNibble (t.kind ++ BitVec.ofBool t.command), encodeNibble t.sub, high, low, quality,
    -(high + low + quality)]

/-- The judgement of a fragment's characters: nine of them, each with its stop bit, make a telegram (R89);
any other fragment is discarded. -/
def decodeFragment (chars : List BusChar) : Option (Except TelegramError Telegram) :=
  if chars.all (·.stopOk) then
    match chars.map (·.byte) with
    | [b0, b1, b2, b3, b4, b5, b6, b7, b8] => some (decodeTelegram b0 b1 b2 b3 b4 b5 b6 b7 b8)
    | _ => none
  else none

/-! ### Request frames -/

/-- The kind codes of R173. -/
def kindCodes : List Nat :=
  [0, 1, 2, 3, 4, 5, 6, 16, 17, 18, 19, 20, 32, 33, 34, 35, 36, 37, 48, 49, 64, 65, 66, 80, 81, 96, 97, 98]

/-- Why the link refuses a complete frame (R169, in the order of its checks). -/
inductive FrameError where
  | badLength | badCheck | badKind
  deriving DecidableEq, Repr

/-- A well-formed frame's contents. -/
structure Frame where
  kind : Nat
  subject : Byte
  payload : List Byte
  deriving DecidableEq, Repr

/-- The sum of a list of bytes, modulo 256. -/
def byteSum (bs : List Byte) : Byte := bs.foldr (· + ·) 0

/-- The judgement of the 64 bytes of a complete transaction (R169). -/
def judgeFrame (frame : List Byte) : Except FrameError Frame :=
  let kind := frame.getD 0 0
  let n := (frame.getD 2 0).toNat
  if n > 60 then .error .badLength
  else if byteSum (frame.take (4 + n)) ≠ 0 then .error .badCheck
  else if kind.toNat ∉ kindCodes then .error .badKind
  else .ok { kind := kind.toNat, subject := frame.getD 1 0, payload := (frame.drop 3).take n }

/-- A 64-byte frame: three bytes of head, the payload, the check byte, and padding of 0 (section 9.2). A
request frame has its kind code first and its subject second; a reply frame has its status code first and
the echoed kind second. -/
def encodeFrame (first second : Byte) (payload : List Byte) : List Byte :=
  let head := first :: second :: BitVec.ofNat 8 payload.length :: payload
  head ++ [-(byteSum head)] ++ List.replicate (60 - payload.length) 0

/-- The AMEND command of a payload: the row its group code names, with the codes in the order in which R4's
table names the groups: FLOW 0, THRESHOLDS 1, STALENESS 2, RAMP 3, VALVE 4, GANG 5, LIMITS 6 (R171, log entry
8). A payload without a group code, or with
one the part does not define, is refused alike by every row; it is read as the first. -/
def amendCommand (dt : Nat) (subject : Byte) (payload : List Byte) : Instr :=
  match (payload.head?.map BitVec.toNat) with
  | some 1 => .amendThresholds dt subject payload
  | some 2 => .amendStaleness dt subject payload
  | some 3 => .amendRamp dt subject payload
  | some 4 => .amendValve dt subject payload
  | some 5 => .amendGang dt subject payload
  | some 6 => .amendLimits dt subject payload
  | _ => .amendFlow dt subject payload

/-- The LOOP SET command of a payload, as `amendCommand` for AMEND, with the codes in the order of R67's
table and UNSET last: GLYCOL 0, REGIME 1, PUMP 2, LEAK 3, SEARCH 4, UNSET 5 (R68, R171). -/
def loopSetCommand (dt : Nat) (subject : Byte) (payload : List Byte) : Instr :=
  match (payload.head?.map BitVec.toNat) with
  | some 1 => .loopSetRegime dt subject payload
  | some 2 => .loopSetPump dt subject payload
  | some 3 => .loopSetLeak dt subject payload
  | some 4 => .loopSetSearch dt subject payload
  | some 5 => .loopSetUnset dt subject payload
  | _ => .loopSetGlycol dt subject payload

/-- The HOLD command of a payload: the flag is coded on 0, off 1 (R108, R171, log entry 9). -/
def holdCommand (dt : Nat) (subject : Byte) (payload : List Byte) : Instr :=
  match (payload.head?.map BitVec.toNat) with
  | some 1 => .holdOff dt subject payload
  | _ => .holdOn dt subject payload

/-- The command of a well-formed frame's kind code (R173). -/
def requestCommand (dt : Nat) (kind : Nat) (subject : Byte) (payload : List Byte) : Option Instr :=
  match kind with
  | 0 => some (.null dt subject payload)
  | 1 => some (.enrol dt subject payload)
  | 2 => some (amendCommand dt subject payload)
  | 3 => some (.lookup dt subject payload)
  | 4 => some (.fanDemand dt subject payload)
  | 5 => some (.acknowledgeTrip dt subject payload)
  | 6 => some (.retire dt subject payload)
  | 16 => some (loopSetCommand dt subject payload)
  | 17 => some (.loopLookup dt subject payload)
  | 18 => some (.pumpDemand dt subject payload)
  | 19 => some (.curveLoad dt subject payload)
  | 20 => some (.curveLookup dt subject payload)
  | 32 => some (.bind dt subject payload)
  | 33 => some (.unbind dt subject payload)
  | 34 => some (holdCommand dt subject payload)
  | 35 => some (.bindingLookup dt subject payload)
  | 36 => some (.seenRead dt subject payload)
  | 37 => some (.seenClear dt subject payload)
  | 48 => some (.clearLineSet dt subject payload)
  | 49 => some (.clearLineLookup dt subject payload)
  | 64 => some (.searchStart dt subject payload)
  | 65 => some (.searchStop dt subject payload)
  | 66 => some (.searchLookup dt subject payload)
  | 80 => some (.nextAttention dt subject payload)
  | 81 => some (.attentionLevels dt subject payload)
  | 96 => some (.partStatus dt subject payload)
  | 97 => some (.partConfigure dt subject payload)
  | 98 => some (.fullReset dt subject payload)
  | _ => none

/-- The command that the end of a complete transaction is, from the 64 bytes it carried: the request, or
FRAME REFUSED (R169, R173). -/
def commandOfFrame (dt : Nat) (frame : List Byte) : Instr :=
  match judgeFrame frame with
  | .ok f => (requestCommand dt f.kind f.subject f.payload).getD (.frameRefused dt frame)
  | .error _ => .frameRefused dt frame

/-- The kind code, the elapsed time, the subject byte and the payload of a request command; none for the
other commands (R173). -/
def requestParts : Instr → Option (Nat × Nat × Byte × List Byte)
  | .null dt j p => some (0, dt, j, p)
  | .enrol dt j p => some (1, dt, j, p)
  | .amendFlow dt j p => some (2, dt, j, p)
  | .amendThresholds dt j p => some (2, dt, j, p)
  | .amendStaleness dt j p => some (2, dt, j, p)
  | .amendValve dt j p => some (2, dt, j, p)
  | .amendGang dt j p => some (2, dt, j, p)
  | .amendRamp dt j p => some (2, dt, j, p)
  | .amendLimits dt j p => some (2, dt, j, p)
  | .lookup dt j p => some (3, dt, j, p)
  | .fanDemand dt j p => some (4, dt, j, p)
  | .acknowledgeTrip dt j p => some (5, dt, j, p)
  | .retire dt j p => some (6, dt, j, p)
  | .loopSetGlycol dt j p => some (16, dt, j, p)
  | .loopSetRegime dt j p => some (16, dt, j, p)
  | .loopSetPump dt j p => some (16, dt, j, p)
  | .loopSetLeak dt j p => some (16, dt, j, p)
  | .loopSetSearch dt j p => some (16, dt, j, p)
  | .loopSetUnset dt j p => some (16, dt, j, p)
  | .loopLookup dt j p => some (17, dt, j, p)
  | .pumpDemand dt j p => some (18, dt, j, p)
  | .curveLoad dt j p => some (19, dt, j, p)
  | .curveLookup dt j p => some (20, dt, j, p)
  | .bind dt j p => some (32, dt, j, p)
  | .unbind dt j p => some (33, dt, j, p)
  | .holdOn dt j p => some (34, dt, j, p)
  | .holdOff dt j p => some (34, dt, j, p)
  | .bindingLookup dt j p => some (35, dt, j, p)
  | .seenRead dt j p => some (36, dt, j, p)
  | .seenClear dt j p => some (37, dt, j, p)
  | .clearLineSet dt j p => some (48, dt, j, p)
  | .clearLineLookup dt j p => some (49, dt, j, p)
  | .searchStart dt j p => some (64, dt, j, p)
  | .searchStop dt j p => some (65, dt, j, p)
  | .searchLookup dt j p => some (66, dt, j, p)
  | .nextAttention dt j p => some (80, dt, j, p)
  | .attentionLevels dt j p => some (81, dt, j, p)
  | .partStatus dt j p => some (96, dt, j, p)
  | .partConfigure dt j p => some (97, dt, j, p)
  | .fullReset dt j p => some (98, dt, j, p)
  | .transactionBegin _ | .brokenTransaction .. | .frameRefused .. | .notReadyTransactionEnd _
  | .replyReady | .powerOn .. | .pinReset | .stopAssertion _ | .stopRelease _ | .fragmentEnd ..
  | .transmissionBegin _ | .transmissionEnd .. | .evaluationTake _ | .evaluationTimerExpiry _
  | .refreshTimerExpiry _ | .freshnessExpiry _ | .combiningWindowExpiry _ | .holdExpiry _
  | .fanRampExpiry _ | .pumpRampExpiry _ | .periodBoundary .. | .leakWindowExpiry _
  | .delayTimerExpiry _ | .settleTimerExpiry | .settleDeadlineExpiry | .observeTimerExpiry
  | .restTimerExpiry | .restDeadlineExpiry | .channelClockTick .. | .resetInputAssertion => none

/-- The request frame of a request command (section 9.2); none for the other commands. -/
def frameOfCommand (c : Instr) : Option (List Byte) :=
  (requestParts c).map fun (kind, _, subject, payload) =>
    encodeFrame (BitVec.ofNat 8 kind) subject payload

/-- The command a word of the opcode table's bits spells: the table gives no row any bits, so none. -/
def decodeTableWord (_nbits _w : Nat) : Option Instr := none

end Sys2Proof
end

