-- ==== Sys2Proof/Machine/State.lean ====
section
/-! DEFINITION. Every piece of state the manual gives the CX24, as plain data, and the state after a
reset. INVENTORY.md lists each field with its rule and its reset value. Times at which a timer expires
are kept as tenths of a second since the last reset, not wrapped (`Option Nat`, absent while the timer
is stopped), except the ramp timers and the ready time of the reply, which are finer than a tenth and
are kept in the units of Word.lean. -/

namespace Sys2Proof.Machine

open Sys2Proof

/-! ### Section records (chapter 1) -/

/-- The states of a slot (R2). -/
inductive SlotState where
  | vacant | starting | live | retiring
  deriving DecidableEq, Repr

/-- The protection states of a section (R48). -/
inductive Protection where
  | normal | watch | defend | tripped
  deriving DecidableEq, Repr

/-- The isolation marks (R6, R136). -/
inductive Mark where
  | none | probe | held
  deriving DecidableEq, Repr

/-- How the ramp follows a lower target (R4). -/
inductive Lowering where
  | drop | slew
  deriving DecidableEq, Repr

/-- A limit set: three duties and a guard in hundredths of a kelvin (R5). -/
structure LimitSet where
  fan : Nat
  watch : Nat
  defend : Nat
  guard : Nat
  deriving DecidableEq, Repr

/-- The configuration fields of a section record (R4). -/
structure SectionConfig where
  loopOf : LoopId
  designFlow : Nat
  weight : Nat
  hardFloor : Nat
  iWatch : Nat
  iDefend : Nat
  iTrip : Nat
  penalty : Nat
  grace : Nat
  emax : Nat
  lowering : Lowering
  riseStep : Nat
  fallStep : Nat
  valveNode : Option Byte
  gangFlag : Bool
  mild : LimitSet
  frost : LimitSet
  deriving DecidableEq, Repr

/-- The six substitution flags of an evaluation (R7, section 2.3). -/
structure SubstFlags where
  outletHeld : Bool
  outletDegraded : Bool
  airSubstituted : Bool
  flowHeld : Bool
  flowZeroed : Bool
  concentrationDeclared : Bool
  deriving DecidableEq, Repr

/-- The last evaluation record (R7). -/
structure EvalRecord where
  taken : PartTime
  elapsed : Nat
  tOut : Int
  tAir : Int
  flags : SubstFlags
  share : Nat
  ratio : Nat
  coupling : Nat
  tWall : Int
  tFreeze : Int
  margin : Int
  deriving DecidableEq, Repr

/-- The statuses of a destination field (R101). -/
inductive DestStatus where
  | awaiting | fresh | stale | held
  deriving DecidableEq, Repr

/-- The quality flag a destination keeps (R101). -/
inductive Quality where
  | ok | suspect
  deriving DecidableEq, Repr

/-- What a capture stores: value, quality flag and part time (R101). -/
structure Stored where
  value : Int
  quality : Quality
  captured : PartTime
  deriving DecidableEq, Repr

/-- A destination field (R101). `staleSince` is in tenths since the reset, so that the staleness age can
saturate rather than wrap (R33). -/
structure Destination where
  status : DestStatus
  stored : Option Stored
  staleSince : Option Nat
  freshTimer : Option Nat
  combineTimer : Option Nat
  holdTimer : Option Nat
  deriving DecidableEq, Repr

/-- A section record with its destination fields, its evaluation and refresh timers, and the two drain
conditions of a retirement (R3, R6, R26, R101, R116). -/
structure SectionRecord where
  slot : SlotState
  config : SectionConfig
  active : LimitSet
  hostDemand : Nat
  protection : Protection
  integrator : Nat
  lastEval : Option EvalRecord
  mark : Mark
  evalTimer : Option Nat
  refreshTimer : Option Nat
  outlet : Destination
  air : Destination
  valve : Destination
  fanDrained : Bool
  valveDrained : Bool
  deriving DecidableEq, Repr

/-! ### Drive channels (chapter 6) -/

/-- The level a drive output is at (R120). -/
inductive Level where
  | low | high
  deriving DecidableEq, Repr

/-- Alignment of a channel group (R119). -/
inductive Alignment where
  | left | centre
  deriving DecidableEq, Repr

/-- Direction of a channel's counter (R120). -/
inductive Direction where
  | up | down
  deriving DecidableEq, Repr

/-- The PWM generator every channel holds (R120). -/
structure Channel where
  enabled : Bool
  counter : Nat
  direction : Direction
  stagedDuty : Nat
  stagedPeriod : Nat
  dutyInForce : Nat
  periodInForce : Nat
  compareInForce : Nat
  output : Level
  deriving DecidableEq, Repr

/-- A fan channel: its generator, its ramp value R, its ramp timer (in time units) and its own staged
duty (R120, R129). -/
structure FanChannel where
  gen : Channel
  ramp : Nat
  rampTimer : Option Nat
  ownStaged : Nat
  deriving DecidableEq, Repr

/-- The drive configuration of PART CONFIGURE (R119). A set polarity bit means ACTIVE LOW (R171). -/
structure DriveConfig where
  fanPrescale : Fin 8
  pumpPrescale : Fin 8
  fanAlign : Alignment
  pumpAlign : Alignment
  fanPeriod : Nat
  fanLow : BitVec 24
  pumpLow : BitVec 4
  deriving DecidableEq, Repr

/-! ### Loop records and freeze curves (chapter 4) -/

/-- The two freeze curves (R74). -/
inductive CurveName where
  | a | b
  deriving DecidableEq, Repr

/-- The regimes of a loop (R78). -/
inductive Regime where
  | mild | frost
  deriving DecidableEq, Repr

/-- The last window result of the leak monitor (R86). -/
inductive WindowResult where
  | none | invalid | rate (mbarPerHour : Nat)
  deriving DecidableEq, Repr

/-- The last auto-start outcome (R87). -/
inductive AutoOutcome where
  | none | started | noCandidates | searchBusy
  deriving DecidableEq, Repr

/-- A pressure capture and its part time (R84, R135). -/
structure PressureCapture where
  pressure : Int
  taken : PartTime
  deriving DecidableEq, Repr

/-- The captures of a leak window or of the search's observation window: a count that saturates at
65535, and the first and the last capture (R84, R135). -/
structure CaptureWindow where
  count : Nat
  first : Option PressureCapture
  last : Option PressureCapture
  deriving DecidableEq, Repr

/-- The six search parameters, in the loop record and in the search's copy (R67, R135). -/
structure SearchParams where
  settle : Nat
  observe : Nat
  rest : Nat
  quiet : Nat
  floor : Nat
  restarts : Nat
  deriving DecidableEq, Repr

/-- The configuration fields of a loop record (R67). -/
structure LoopConfig where
  curve : CurveName
  concentration : Nat
  frostAir : Int
  frostEntry : Int
  frostExit : Int
  dwell : Nat
  frostFloor : Nat
  defendFloor : Nat
  stopDuty : Nat
  riseStep : Nat
  fallStep : Nat
  period : Nat
  leakWindow : Nat
  suspect : Nat
  autoSearch : Bool
  search : SearchParams
  deriving DecidableEq, Repr

/-- A loop record with its live fields, its pump ramp, its leak window and its destination fields (R66,
R67, R81, R84, R101). The staged pump duty has its one home in the pump channel's generator. `leakLength`
is the length the window in progress began with, which a change of the record does not reach (R70, log
entry 23). -/
structure LoopRecord where
  isSet : Bool
  config : LoopConfig
  regime : Regime
  regimeEntry : PartTime
  coldest : Option Int
  hostDemand : Nat
  ramp : Nat
  rampTimer : Option Nat
  leakTimer : Option Nat
  leakLength : Nat
  leakWindow : CaptureWindow
  lastResult : WindowResult
  autoOutcome : AutoOutcome
  flow : Destination
  pressure : Destination
  concentration : Destination
  air : Destination
  deriving DecidableEq, Repr

/-! ### Bindings, the transmit queue and the receiver (chapter 5) -/

/-- The measured kinds a binding may name (R95). -/
inductive Kind where
  | outlet | air | flow | pressure | concentration | valve
  deriving DecidableEq, Repr

/-- The combine modes (R98). -/
inductive Combine where
  | replace | lowest
  deriving DecidableEq, Repr

/-- The fields of an ACTIVE or HELD binding (R98). -/
structure Binding where
  kind : Kind
  node : Byte
  sub : Nat
  careHigh : Bool
  careLow : Bool
  careSub : Bool
  dest : DestField
  combine : Combine
  freshLimit : Nat
  holdLimit : Nat
  deriving DecidableEq, Repr

/-- The states of a binding (R98). -/
inductive BindingState where
  | empty
  | active (b : Binding)
  | held (b : Binding)
  deriving DecidableEq, Repr

/-- The valve commands OPEN and CLOSED (R113). -/
inductive ValveCommand where
  | toOpen | toClosed
  deriving DecidableEq, Repr

/-- An entry of the transmit queue (R114). -/
structure QueueEntry where
  slot : Slot
  command : ValveCommand
  deriving DecidableEq, Repr

/-- A transmission in progress: the section it is sent for, the command and node fixed at its beginning,
the nine characters, the moment it began, and, where its entry was removed, the moment at which the part
stops sending, the end of the character then in progress (R115, log entry 13). -/
structure Transmission where
  slot : Slot
  command : ValveCommand
  node : Byte
  telegram : List Byte
  began : Nat
  stopAt : Option Nat
  deriving DecidableEq, Repr

/-! ### The isolation search (chapter 7) -/

/-- The states of the search (R135). -/
inductive SearchState where
  | idle | settling | observing | resting | suspended | held
  deriving DecidableEq, Repr

/-- The phase of a step (R135). -/
inductive Phase where
  | probe | confirm
  deriving DecidableEq, Repr

/-- The results of a search (R135). -/
inductive SearchResult where
  | none | found | inconclusive | preempted | valveFault | noPressure | stopped | halted
  deriving DecidableEq, Repr

/-- A unit of the candidate list: a lead slot and, for a gang, a follower slot (R135). -/
structure SearchUnit where
  lead : Slot
  follower : Option Slot
  deriving DecidableEq, Repr

/-- The search context (R135). The suspect range is the run of candidates at positions `rangeLo` to
`rangeHi - 1`; `probed` is the number of units of L, which are the first of the range (R139). The settle,
observe and rest timers are one phase timer. -/
structure SearchContext where
  state : SearchState
  phase : Option Phase
  loopOf : Option LoopId
  params : Option SearchParams
  candidates : List SearchUnit
  rangeLo : Nat
  rangeHi : Nat
  probed : Nat
  isolated : List Slot
  wait : List Slot
  steps : Nat
  repeats : Nat
  preemptions : Nat
  restartsUsed : Nat
  phaseTimer : Option Nat
  deadline : Option Nat
  window : CaptureWindow
  lastRate : Option Nat
  heldUnit : Option SearchUnit
  result : SearchResult
  deriving DecidableEq, Repr

/-! ### Clear lines and attention (chapter 8) -/

/-- The states of a clear line (R156). -/
inductive LineState where
  | asserted | released
  deriving DecidableEq, Repr

/-- A clear line; bit *k* of the mask stands for slot *k* (R156, R171). -/
structure ClearLine where
  mask : BitVec 24
  delayCode : Fin 8
  timer : Option Nat
  state : LineState
  deriving DecidableEq, Repr

/-- The attention kinds (R162). -/
inductive CauseKind where
  | restarted | stop | trip | frozenHold | valveFault | leakHeld | leakSuspect | searchEnd
  | defend | stale | watch | regime
  deriving DecidableEq, Repr

/-- A cause of the attention set: a kind and a subject index (R162). -/
structure Cause where
  kind : CauseKind
  subject : Nat
  deriving DecidableEq, Repr

/-- The level of an attention kind (R162). -/
inductive CauseLevel where
  | high | low
  deriving DecidableEq, Repr

/-! ### The request link (chapter 9) -/

/-- The status codes (R172). -/
inductive Status where
  | done | doneClamped | accepted | notReady | none | badCheck | badKind | badLength | badSubject
  | vacant | occupied | loopUnset | order | busy | held | stillCold | duplicateDest | noCandidates
  deriving DecidableEq, Repr

/-- The contents of a reply frame: status, echoed kind and payload (R170). -/
structure Reply where
  status : Status
  kind : Byte
  payload : List Byte
  deriving DecidableEq, Repr

/-- Where the link stands: no transaction; one in progress, shifting out a frame, which is a NOT_READY
frame or not; or one the part ignores because it began in or before a reset (R168, R177, R181). -/
inductive LinkPhase where
  | idle
  | answering (frame : Reply) (notReady : Bool)
  | ignored
  deriving DecidableEq, Repr

/-- The cause of the last reset (R181). -/
inductive ResetCause where
  | power | pin | request
  deriving DecidableEq, Repr

/-- RESET_N: high, or held low after power-on had completed, or held low through power-on, which records
POWER (R181). -/
inductive ResetPin where
  | released | low | lowThroughPowerOn
  deriving DecidableEq, Repr

/-- The state of the CX24 and, last, what the model itself adds: the queue of waiting commands and the
counter that picks free values. -/
structure State where
  /-- Time since the end of the last reset, in the units of Word.lean; part time is counted from it. -/
  time : Nat
  resetPin : ResetPin
  /-- The stop input: STOP_N is low (R132). -/
  stopLow : Bool
  resetCause : ResetCause
  sections : Vector SectionRecord 24
  fans : Vector FanChannel 24
  loops : Vector LoopRecord 4
  pumps : Vector Channel 4
  curveA : Vector Int 9
  curveB : Vector Int 9
  drive : DriveConfig
  /-- The evaluation queue, front first (R28). -/
  evalQueue : List Slot
  /-- The seen map: bit *k* of entry *n* is the mark of node *n* and kind *k* (R96, R97). -/
  seen : Vector Byte 256
  bindings : Vector BindingState 48
  /-- The transmit queue, front first (R114). -/
  txQueue : List QueueEntry
  transmission : Option Transmission
  /-- The time from which the bus has been silent, as far as the part knows (R115). -/
  busIdleFrom : Nat
  /-- Whether the receiver has seen a gap since the last reset (R89). -/
  receiverSynced : Bool
  search : SearchContext
  lines : Vector ClearLine 4
  /-- The attention set, in kind order and then subject order, each pair once (R162). -/
  attention : List Cause
  /-- The levels of the twelve kinds, in kind order (R162, R167). -/
  levels : Vector CauseLevel 12
  link : LinkPhase
  /-- The reply slot's frame and the time at which it becomes ready (R176). -/
  reply : Reply
  readyAt : Nat
  /-- The model's own: picks the free values of Config (log entry 3). -/
  freeCount : Nat
  /-- The model's own: the commands that wait, first in, first out (log entry 1). -/
  pending : List Instr
  deriving DecidableEq, Repr

/-! ### Reset values -/

/-- A limit set of cleared values (R3). -/
def LimitSet.cleared : LimitSet := { fan := 0, watch := 0, defend := 0, guard := 0 }

/-- The cleared configuration of a section record (R3). -/
def SectionConfig.cleared : SectionConfig :=
  { loopOf := 0, designFlow := 0, weight := 0, hardFloor := 0, iWatch := 0, iDefend := 0, iTrip := 0,
    penalty := 0, grace := 0, emax := 0, lowering := .drop, riseStep := 0, fallStep := 0,
    valveNode := none, gangFlag := false, mild := .cleared, frost := .cleared }

/-- An AWAITING destination: no value, no part times, every timer stopped (R101). -/
def Destination.awaiting : Destination :=
  { status := .awaiting, stored := none, staleSince := none, freshTimer := none, combineTimer := none,
    holdTimer := none }

/-- The cleared section record of a VACANT slot (R3). -/
def SectionRecord.cleared : SectionRecord :=
  { slot := .vacant, config := .cleared, active := .cleared, hostDemand := 0, protection := .normal,
    integrator := 0, lastEval := none, mark := .none, evalTimer := none, refreshTimer := none,
    outlet := .awaiting, air := .awaiting, valve := .awaiting, fanDrained := false,
    valveDrained := false }

/-- A disabled channel of ACTIVE HIGH polarity with the given period (R120). -/
def Channel.disabled (period : Nat) : Channel :=
  { enabled := false, counter := 0, direction := .up, stagedDuty := 0, stagedPeriod := period,
    dutyInForce := 0, periodInForce := period, compareInForce := 0, output := .low }

/-- A fan channel after reset: disabled, with the default fan period of 160 (R119, R120). -/
def FanChannel.afterReset : FanChannel :=
  { gen := .disabled 160, ramp := 0, rampTimer := none, ownStaged := 0 }

/-- The drive configuration after reset (R119); prescale code 3 is a prescale of 8 (R118). -/
def DriveConfig.afterReset : DriveConfig :=
  { fanPrescale := 3, pumpPrescale := 3, fanAlign := .left, pumpAlign := .left, fanPeriod := 160,
    fanLow := 0, pumpLow := 0 }

/-- The default configuration of a loop record (R67). -/
def LoopConfig.defaults : LoopConfig :=
  { curve := .a, concentration := 0, frostAir := -3500, frostEntry := -1500, frostExit := -1000,
    dwell := 900, frostFloor := 64, defendFloor := 128, stopDuty := 64, riseStep := 4, fallStep := 2,
    period := 255, leakWindow := 600, suspect := 40, autoSearch := false,
    search := { settle := 120, observe := 300, rest := 120, quiet := 10, floor := 500, restarts := 1 } }

/-- A window without captures (R84, R135). -/
def CaptureWindow.empty : CaptureWindow := { count := 0, first := none, last := none }

/-- A loop record after reset (R67). -/
def LoopRecord.afterReset : LoopRecord :=
  { isSet := false, config := .defaults, regime := .mild, regimeEntry := 0, coldest := none,
    hostDemand := 0, ramp := 0, rampTimer := none, leakTimer := none, leakLength := 0,
    leakWindow := .empty, lastResult := .none, autoOutcome := .none, flow := .awaiting, pressure := .awaiting,
    concentration := .awaiting, air := .awaiting }

/-- The default contents of freeze curve A (R74). -/
def defaultCurveA : Vector Int 9 := #v[0, -250, -550, -900, -1350, -1900, -2600, -3400, -4300]

/-- The default contents of freeze curve B (R74). -/
def defaultCurveB : Vector Int 9 := #v[0, -280, -620, -1050, -1600, -2300, -3100, -4000, -5000]

/-- The search context after reset (R135). -/
def SearchContext.afterReset : SearchContext :=
  { state := .idle, phase := none, loopOf := none, params := none, candidates := [], rangeLo := 0,
    rangeHi := 0, probed := 0, isolated := [], wait := [], steps := 0, repeats := 0, preemptions := 0,
    restartsUsed := 0, phaseTimer := none, deadline := none, window := .empty, lastRate := none,
    heldUnit := none, result := .none }

/-- A clear line after reset (R156). -/
def ClearLine.afterReset : ClearLine := { mask := 0, delayCode := 0, timer := none, state := .released }

/-- The default levels, in kind order: the first six kinds HIGH, the others LOW (R162). -/
def defaultLevels : Vector CauseLevel 12 :=
  #v[.high, .high, .high, .high, .high, .high, .low, .low, .low, .low, .low, .low]

/-- The part right after power-on with its input pins at rest (STOP_N, LINK_SEL_N and RESET_N high): every
slot VACANT, every loop UNSET, every binding EMPTY, both queues empty, the search IDLE, RESTARTED alone in
the attention set, and the NONE frame in the reply slot, ready after 100 µs (R3, R67, R74, R98, R119,
R135, R156, R162, R181). Log entries 5 and 6 name what the manual leaves to the pins. -/
def State.reset : State :=
  { time := 0, resetPin := .released, stopLow := false, resetCause := .power,
    sections := Vector.replicate 24 .cleared, fans := Vector.replicate 24 .afterReset,
    loops := Vector.replicate 4 .afterReset, pumps := Vector.replicate 4 (.disabled 255),
    curveA := defaultCurveA, curveB := defaultCurveB, drive := .afterReset, evalQueue := [],
    seen := Vector.replicate 256 0, bindings := Vector.replicate 48 .empty, txQueue := [],
    transmission := none, busIdleFrom := 0, receiverSynced := false, search := .afterReset,
    lines := Vector.replicate 4 .afterReset, attention := [{ kind := .restarted, subject := 0 }],
    levels := defaultLevels, link := .idle, reply := { status := .none, kind := 0, payload := [] },
    readyAt := unitsToReady, freeCount := 0, pending := [] }

/-! ### How a step can stop -/

/-- Faults: there are none. The manual describes no event that stops the part, and every command of its
table has an effect or, where it cannot occur in the state it meets, none (log entry 4). -/
inductive Fault where
  deriving DecidableEq, Repr

/-- Refusals. -/
inductive Refusal where
  /-- Raised by `exec` for a command that has no meaning in this model yet; safe, since nothing follows
  from it. No arm raises it. -/
  | notModelled (mnemonic : String)
  deriving DecidableEq, Repr

end Sys2Proof.Machine
end

