-- ==== Sys2Proof/Machine/Ops.lean ====
section
/-! DEFINITION. The named operations over the records, tables and queues of State: reading and changing one
record, time and timers, the attention set, the evaluation queue, the transmit queue, and the destination
fields. -/

namespace Sys2Proof.Machine

open Sys2Proof

/-! ### One record of a table -/

/-- The section record of a slot. -/
def State.sec (s : State) (n : Slot) : SectionRecord := tabGet s.sections n

/-- The fan channel F*n*. -/
def State.fan (s : State) (n : Slot) : FanChannel := tabGet s.fans n

/-- The loop record of a loop. -/
def State.loopRec (s : State) (l : LoopId) : LoopRecord := tabGet s.loops l

/-- The pump channel P*n*. -/
def State.pump (s : State) (l : LoopId) : Channel := tabGet s.pumps l

/-- The state of a binding. -/
def State.binding (s : State) (b : BindingId) : BindingState := tabGet s.bindings b

/-- A clear line. -/
def State.line (s : State) (k : LineId) : ClearLine := tabGet s.lines k

/-- The state with one section record changed. -/
def State.modSec (s : State) (n : Slot) (f : SectionRecord → SectionRecord) : State :=
  { s with sections := tabSet s.sections n (f (tabGet s.sections n)) }

/-- The state with one fan channel changed. -/
def State.modFan (s : State) (n : Slot) (f : FanChannel → FanChannel) : State :=
  { s with fans := tabSet s.fans n (f (tabGet s.fans n)) }

/-- The state with one loop record changed. -/
def State.modLoop (s : State) (l : LoopId) (f : LoopRecord → LoopRecord) : State :=
  { s with loops := tabSet s.loops l (f (tabGet s.loops l)) }

/-- The state with one pump channel changed. -/
def State.modPump (s : State) (l : LoopId) (f : Channel → Channel) : State :=
  { s with pumps := tabSet s.pumps l (f (tabGet s.pumps l)) }

/-- The state with one binding replaced. -/
def State.setBinding (s : State) (b : BindingId) (v : BindingState) : State :=
  { s with bindings := tabSet s.bindings b v }

/-- The state with one clear line changed. -/
def State.modLine (s : State) (k : LineId) (f : ClearLine → ClearLine) : State :=
  { s with lines := tabSet s.lines k (f (tabGet s.lines k)) }

/-- The state with the search context changed. -/
def State.modSearch (s : State) (f : SearchContext → SearchContext) : State :=
  { s with search := f s.search }

/-! ### Time and timers -/

/-- RESET_N is held low (R181). -/
def State.inReset (s : State) : Bool := s.resetPin != .released

/-- Whole tenths of a second since the last reset, not wrapped. -/
def State.tenths (s : State) : Nat := s.time / unitsPerTenth

/-- Part time: the tenths since the last reset as a 32-bit count that wraps. -/
def State.partTime (s : State) : PartTime := BitVec.ofNat 32 s.tenths

/-- Time passes. -/
def State.advance (s : State) (dt : Nat) : State := { s with time := s.time + dt }

/-- Time passes to a moment, if it has not come already. -/
def State.runTo (s : State) (moment : Nat) : State := { s with time := max s.time moment }

/-- Time passes to the start of a tenth of a second, if it has not come already. -/
def State.runToTenth (s : State) (tenth : Nat) : State := s.runTo (tenth * unitsPerTenth)

/-- The expiry of a timer of whole seconds started now, in tenths since the reset. -/
def State.expiryIn (s : State) (seconds : Nat) : Nat := s.tenths + 10 * seconds

/-- The tenths that remain on a timer, none where it is stopped. -/
def State.remaining (s : State) (timer : Option Nat) : Option Nat := timer.map (· - s.tenths)

/-- The time from one part time to a later one, modulo 2³², so that a wrap gives the true difference. -/
def partSpan (earlier later : PartTime) : Nat := (later - earlier).toNat

/-! ### The attention set -/

/-- The kind order of a kind, which is its code (R162). -/
def CauseKind.code : CauseKind → Nat
  | .restarted => 1
  | .stop => 2
  | .trip => 3
  | .frozenHold => 4
  | .valveFault => 5
  | .leakHeld => 6
  | .leakSuspect => 7
  | .searchEnd => 8
  | .defend => 9
  | .stale => 10
  | .watch => 11
  | .regime => 12

/-- The place of a kind in a table of twelve levels. -/
def CauseKind.index (k : CauseKind) : Fin 12 :=
  match k with
  | .restarted => 0
  | .stop => 1
  | .trip => 2
  | .frozenHold => 3
  | .valveFault => 4
  | .leakHeld => 5
  | .leakSuspect => 6
  | .searchEnd => 7
  | .defend => 8
  | .stale => 9
  | .watch => 10
  | .regime => 11

/-- The order in which the set is kept: kind order, then subject index (R166); no subject reaches 64. -/
def Cause.key (c : Cause) : Nat := c.kind.code * 64 + c.subject

/-- A set of causes with one cause in it as well, in the order of `Cause.key`; unchanged where the cause is
present (R163). -/
def insertCause (c : Cause) : List Cause → List Cause
  | [] => [c]
  | d :: rest =>
    if c = d then d :: rest
    else if c.key < d.key then c :: d :: rest
    else d :: insertCause c rest

/-- Posting of a cause (R163). -/
def State.post (s : State) (kind : CauseKind) (subject : Nat) : State :=
  { s with attention := insertCause { kind, subject } s.attention }

/-- Posting of one kind for each of several sections. -/
def State.postAll (s : State) (kind : CauseKind) (slots : List Slot) : State :=
  slots.foldl (fun s n => s.post kind n.val) s

/-- Removal of every cause that meets a condition (R164). -/
def State.dropCauses (s : State) (p : Cause → Bool) : State :=
  { s with attention := s.attention.filter fun c => !p c }

/-- A kind whose subject is a section (R162). -/
def CauseKind.isSectionKind : CauseKind → Bool
  | .trip | .frozenHold | .valveFault | .leakHeld | .defend | .watch => true
  | .restarted | .stop | .leakSuspect | .searchEnd | .stale | .regime => false

/-- Removal of every cause whose subject is a section (R24). -/
def State.dropSectionCauses (s : State) (n : Slot) : State :=
  s.dropCauses fun c => c.kind.isSectionKind && c.subject == n.val

/-- Removal of the STALE cause of a binding (R106, R107, R24). -/
def State.dropStale (s : State) (b : BindingId) : State :=
  s.dropCauses fun c => c.kind == .stale && c.subject == b.val

/-- Removal of LEAK_SUSPECT and REGIME of a loop (R71). -/
def State.dropLoopCauses (s : State) (l : LoopId) : State :=
  s.dropCauses fun c => (c.kind == .leakSuspect || c.kind == .regime) && c.subject == l.val

/-! ### The evaluation queue -/

/-- A slot joins the tail of the evaluation queue, unless it is in it already (R28). -/
def State.joinQueue (s : State) (n : Slot) : State :=
  { s with evalQueue := if n ∈ s.evalQueue then s.evalQueue else s.evalQueue ++ [n] }

/-- A slot leaves the evaluation queue from wherever it stands (R24, R28). -/
def State.leaveQueue (s : State) (n : Slot) : State :=
  { s with evalQueue := s.evalQueue.filter (· != n) }

/-! ### The transmit queue -/

/-- A queue with a command posted for a section: its entry's command replaced in place, or a new entry at
the tail (R114). -/
def postEntry (n : Slot) (c : ValveCommand) : List QueueEntry → List QueueEntry
  | [] => [{ slot := n, command := c }]
  | e :: rest => if e.slot = n then { slot := n, command := c } :: rest else e :: postEntry n c rest

/-- Posting of a valve command for a section (R114). -/
def State.postValve (s : State) (n : Slot) (c : ValveCommand) : State :=
  { s with txQueue := postEntry n c s.txQueue }

/-- The end of the character in progress at a moment, of the nine that a transmission sends back to back
(R89, R115). -/
def Transmission.charEnd (t : Transmission) (now : Nat) : Nat :=
  t.began + min 9 ((now - t.began) / unitsPerChar + 1) * unitsPerChar

/-- A transmission whose entry is removed: the part stops sending after the character in progress (R115). One
that is stopping already goes on so. -/
def Transmission.remove (t : Transmission) (now : Nat) : Transmission :=
  { t with stopAt := some (t.stopAt.getD (t.charEnd now)) }

/-- Removal of a section's entry without transmission; a transmission of it stops (R17, R25, R115). -/
def State.removeEntry (s : State) (n : Slot) : State :=
  { s with
    txQueue := s.txQueue.filter (·.slot != n)
    transmission := s.transmission.map fun t => if t.slot = n then t.remove s.time else t }

/-- The valve command of an isolation mark (R116). -/
def Mark.command : Mark → ValveCommand
  | .none => .toOpen
  | .probe | .held => .toClosed

/-! ### Destination fields -/

/-- A destination field (R101). -/
def State.dest (s : State) : DestField → Destination
  | .outlet n => (s.sec n).outlet
  | .air n => (s.sec n).air
  | .valve n => (s.sec n).valve
  | .loopFlow l => (s.loopRec l).flow
  | .loopPressure l => (s.loopRec l).pressure
  | .loopConcentration l => (s.loopRec l).concentration
  | .loopAir l => (s.loopRec l).air

/-- The state with one destination field replaced. -/
def State.setDest (s : State) (d : DestField) (v : Destination) : State :=
  match d with
  | .outlet n => s.modSec n fun r => { r with outlet := v }
  | .air n => s.modSec n fun r => { r with air := v }
  | .valve n => s.modSec n fun r => { r with valve := v }
  | .loopFlow l => s.modLoop l fun r => { r with flow := v }
  | .loopPressure l => s.modLoop l fun r => { r with pressure := v }
  | .loopConcentration l => s.modLoop l fun r => { r with concentration := v }
  | .loopAir l => s.modLoop l fun r => { r with air := v }

/-- The kind of a destination field (R98, R105). -/
def fieldKind : DestField → Kind
  | .outlet _ => .outlet
  | .air _ => .air
  | .valve _ => .valve
  | .loopFlow _ => .flow
  | .loopPressure _ => .pressure
  | .loopConcentration _ => .concentration
  | .loopAir _ => .air

/-- The section a destination field belongs to, if it is a section's. -/
def fieldSlot : DestField → Option Slot
  | .outlet n | .air n | .valve n => some n
  | .loopFlow _ | .loopPressure _ | .loopConcentration _ | .loopAir _ => none

/-- The section whose OUTLET a destination field is, if it is one. -/
def outletSlot : DestField → Option Slot
  | .outlet n => some n
  | .air _ | .valve _ | .loopFlow _ | .loopPressure _ | .loopConcentration _ | .loopAir _ => none

/-- The fields of a binding that is ACTIVE or HELD. -/
def BindingState.fields : BindingState → Option Binding
  | .empty => none
  | .active b | .held b => some b

/-- Whether a binding, ACTIVE or HELD, feeds a destination field. -/
def BindingState.feeds (b : BindingState) (d : DestField) : Bool :=
  match b.fields with
  | some f => f.dest == d
  | none => false

/-- The binding that feeds a destination field: at most one does (R98). -/
def State.feeder (s : State) (d : DestField) : Option BindingId :=
  allBindings.find? fun b => (s.binding b).feeds d

/-- A VALVE destination reads a position: it is FRESH with that value (R138, R140, R144). -/
def Destination.reads (d : Destination) (v : Int) : Bool :=
  d.status == .fresh && (d.stored.map (·.value)) == some v

end Sys2Proof.Machine
end

