-- ==== Sys2Proof/Machine/Flags.lean ====
section
/-! DEFINITION. What the part reads off its state: gang formation (R11), the fan ceiling (R56), flow (R39),
the running leak monitor (R84), the condition of a clear line (R157), the attention order (R166), the output
level of a channel (R121 to R125), and the levels on the pins (R120, R156, R165, R168). -/

namespace Sys2Proof.Machine

open Sys2Proof

/-! ### Slots and gangs -/

/-- A slot that is STARTING or LIVE. -/
def SlotState.inService : SlotState → Bool
  | .starting | .live => true
  | .vacant | .retiring => false

/-- A slot that is STARTING, LIVE or RETIRING. -/
def SlotState.enrolled : SlotState → Bool
  | .starting | .live | .retiring => true
  | .vacant => false

/-- The even slot of a slot's pair. -/
def leadOf (n : Slot) : Slot := ⟨n.val - n.val % 2, by omega⟩

/-- The slot after an even slot, the odd one of its pair. -/
def followerOf (n : Slot) : Slot := ⟨n.val - n.val % 2 + 1, by omega⟩

/-- The other slot of a slot's pair. -/
def neighbourOf (n : Slot) : Slot := if n.val % 2 = 0 then followerOf n else leadOf n

/-- The gang of a slot's pair is formed: the lead's flag is on and both slots are STARTING or LIVE (R11). -/
def State.gangFormed (s : State) (n : Slot) : Bool :=
  (s.sec (leadOf n)).config.gangFlag && (s.sec (leadOf n)).slot.inService &&
    (s.sec (followerOf n)).slot.inService

/-- The other member of a formed gang (R11). -/
def State.partner (s : State) (n : Slot) : Option Slot :=
  if s.gangFormed n then some (neighbourOf n) else none

/-! ### The fan ceiling -/

/-- The ceiling of a protection state (R56). -/
def Protection.ceiling (p : Protection) (active : LimitSet) : Nat :=
  match p with
  | .normal => 255
  | .watch => active.watch
  | .defend => active.defend
  | .tripped => 0

/-- The fan ceiling of a section (R56); a VACANT slot has none and its channel is disabled. -/
def fanCeiling (r : SectionRecord) : Nat :=
  match r.slot with
  | .vacant => 0
  | .starting => r.active.defend
  | .live => if r.mark = .none then r.protection.ceiling r.active else 0
  | .retiring => 0

/-! ### Flow, regime and the leak monitor -/

/-- A section is in flow: STARTING, LIVE or RETIRING and not isolated (R39). -/
def SectionRecord.inFlow (r : SectionRecord) : Bool := r.slot.enrolled && r.mark == .none

/-- Σw of a loop (R39). -/
def State.weightSum (s : State) (l : LoopId) : Nat :=
  (allSlots.map fun n =>
    if (s.sec n).config.loopOf = l ∧ (s.sec n).inFlow then (s.sec n).config.weight else 0).sum

/-- The lower of a value and one there may be. -/
def lowerOf (a : Int) : Option Int → Int
  | none => a
  | some b => min a b

/-- The lowest of a list of values, none of an empty list. -/
def lowest : List Int → Option Int
  | [] => none
  | a :: rest => some (lowerOf a (lowest rest))

/-- The T_air used of each LIVE section of a loop that holds an evaluation record (R77). -/
def State.memberAir (s : State) (l : LoopId) : List Int :=
  allSlots.filterMap fun n =>
    if (s.sec n).slot = .live ∧ (s.sec n).config.loopOf = l then (s.sec n).lastEval.map (·.tAir)
    else none

/-- The stored limit set of a regime (R5). -/
def SectionConfig.stored (c : SectionConfig) : Regime → LimitSet
  | .mild => c.mild
  | .frost => c.frost

/-- The search is in SETTLING, OBSERVING, RESTING or SUSPENDED. -/
def SearchState.probing : SearchState → Bool
  | .settling | .observing | .resting | .suspended => true
  | .idle | .held => false

/-- The leak monitor of a loop runs: the loop is SET, and the search is not in one of its four probing
states in this loop (R84). -/
def State.monitorRuns (s : State) (l : LoopId) : Bool :=
  (s.loopRec l).isSet && !(s.search.state.probing && s.search.loopOf == some l)

/-- A section of a loop that is STARTING, LIVE or RETIRING. -/
def SectionRecord.memberOf (r : SectionRecord) (l : LoopId) : Bool :=
  r.slot.enrolled && r.config.loopOf == l

/-- Some STARTING or LIVE section of a loop is in a protection state (R82). -/
def State.anyMemberIn (s : State) (l : LoopId) (p : Protection) : Bool :=
  allSlots.any fun n =>
    (s.sec n).slot.inService && (s.sec n).config.loopOf == l && (s.sec n).protection == p

/-! ### Clear lines -/

/-- The delay of a delay code, in seconds (R156). -/
def delaySeconds (code : Fin 8) : Nat :=
  match code with
  | 0 => 0
  | 1 => 5
  | 2 => 10
  | 3 => 20
  | 4 => 40
  | 5 => 80
  | 6 => 160
  | 7 => 320

/-- A member is safe to load (R157). -/
def SectionRecord.safe (r : SectionRecord) : Bool :=
  r.slot == .live && (r.protection == .normal || r.protection == .watch) && r.mark == .none &&
    r.outlet.status == .fresh && (r.outlet.stored.map (·.quality)) == some .ok

/-- The members of a mask, in ascending order. -/
def maskSlots (mask : BitVec 24) : List Slot := allSlots.filter fun n => mask.getLsbD n.val

/-- The set of slots as a mask: bit *k* for slot *k* (R171). -/
def slotMask (slots : List Slot) : BitVec 24 :=
  slots.foldr (fun n m => m ||| (1#24 <<< n.val)) 0

/-- The condition of a line with a given mask holds (R157). -/
def State.maskSafe (s : State) (mask : BitVec 24) : Bool :=
  mask != 0 && (maskSlots mask).all fun n => (s.sec n).safe

/-- The failing set of a line (R160). -/
def State.failingSet (s : State) (mask : BitVec 24) : List Slot :=
  (maskSlots mask).filter fun n => !(s.sec n).safe

/-- What a line's condition was at its last evaluation: it holds exactly while the line is ASSERTED or its
delay timer runs (R158, log entry 21). -/
def ClearLine.wasTrue (c : ClearLine) : Bool := c.state == .asserted || c.timer.isSome

/-! ### Attention -/

/-- The level of a kind (R162, R167). -/
def State.levelOf (s : State) (k : CauseKind) : CauseLevel := tabGet s.levels k.index

/-- The first pair of the attention set: HIGH before LOW, then kind order, then subject index, the order in
which the set is kept (R166). -/
def State.firstCause (s : State) : Option Cause :=
  match s.attention.find? (fun c => s.levelOf c.kind == .high) with
  | some c => some c
  | none => s.attention.head?

/-! ### Channels -/

/-- The active level of a polarity; the idle level is the other (R120). -/
def activeLevel (activeLow : Bool) : Level := if activeLow then .low else .high

/-- The idle level of a polarity (R120). -/
def idleLevel (activeLow : Bool) : Level := if activeLow then .high else .low

/-- The compare value of a duty and a period (R123). -/
def compareOf (duty period : Nat) : Nat := (duty * period + 127) / 255

/-- An enabled channel's output is at its active level: the counter is below the compare in force, which
also holds throughout where the compare is the period or more, and never where the compare or the period
is 0 (R121, R122, R123, R125). -/
def Channel.isActive (c : Channel) : Bool :=
  c.enabled && c.periodInForce != 0 && c.compareInForce != 0 &&
    (decide (c.periodInForce ≤ c.compareInForce) || decide (c.counter < c.compareInForce))

/-- The level a channel drives (R120 to R125); a disabled channel drives its idle level. -/
def Channel.level (c : Channel) (activeLow : Bool) : Level :=
  if c.isActive then activeLevel activeLow else idleLevel activeLow

/-- Whether a fan channel is ACTIVE LOW. -/
def State.fanActiveLow (s : State) (n : Slot) : Bool := s.drive.fanLow.getLsbD n.val

/-- Whether a pump channel is ACTIVE LOW. -/
def State.pumpActiveLow (s : State) (l : LoopId) : Bool := s.drive.pumpLow.getLsbD l.val

/-! ### Pins -/

/-- What a pin of the part is at: driven low, driven high, or high impedance. -/
inductive PinLevel where
  | low | high | highImpedance
  deriving DecidableEq, Repr

/-- FAN*n*: the output of the channel's generator, and low while RESET_N is low (R120). -/
def State.fanPin (s : State) (n : Slot) : PinLevel :=
  if !s.inReset && (s.fan n).gen.output == .high then .high else .low

/-- PUMP*n*: the output of the channel's generator, and low while RESET_N is low (R120). -/
def State.pumpPin (s : State) (l : LoopId) : PinLevel :=
  if !s.inReset && (s.pump l).output == .high then .high else .low

/-- CLEAR*k*_N: driven low while the line is ASSERTED, and high impedance otherwise and while RESET_N is low
(R156). -/
def State.clearPin (s : State) (k : LineId) : PinLevel :=
  if !s.inReset && (s.line k).state == .asserted then .low else .highImpedance

/-- ATTN_N: driven low while the attention set is not empty, and high impedance otherwise and while RESET_N
is low (R165). -/
def State.attentionPin (s : State) : PinLevel :=
  if !s.inReset && !s.attention.isEmpty then .low else .highImpedance

/-- The part is sending: a transmission is in progress which has not stopped for the removal of its entry
(R94, R115). -/
def State.sending (s : State) : Bool :=
  match s.transmission with
  | some t =>
    match t.stopAt with
    | some m => decide (s.time < m)
    | none => true
  | none => false

/-- BUS_DRV: high while the part transmits; a reset lowers it at once (R89, R115). -/
def State.busDrivePin (s : State) : PinLevel :=
  if !s.inReset && s.sending then .high else .low

/-- LINK_DO is driven: a transaction the part answers is in progress (R168, R181). -/
def State.linkDriven (s : State) : Bool :=
  match s.link with
  | .answering .. => !s.inReset
  | .idle | .ignored => false

end Sys2Proof.Machine
end

