-- ==== Sys2Proof/Machine/Drive.lean ====
section
/-! DEFINITION. The drive channels: the PWM generator (R120 to R127), the staged duty of fan channels and
gangs (R129, R131), and the staged pump duty (R82, R83). -/

namespace Sys2Proof.Machine

open Sys2Proof

/-! ### The generator -/

/-- The channel with its output at the level it drives (R120). -/
def Channel.drive (c : Channel) (activeLow : Bool) : Channel := { c with output := c.level activeLow }

/-- A period boundary: the staged duty and period are taken into force together (R124). -/
def Channel.boundary (c : Channel) : Channel :=
  { c with
    periodInForce := c.stagedPeriod
    dutyInForce := if c.stagedPeriod = 0 then 0 else c.stagedDuty
    compareInForce := compareOf c.stagedDuty c.stagedPeriod
    counter := 0
    direction := .up }

/-- Whether the next tick of its clock is a period boundary of an enabled channel: at every tick while the
period in force is 0 (R125); else the tick at which the counter returns to 0 (R121, R122). -/
def Channel.boundaryNext (c : Channel) (align : Alignment) : Bool :=
  c.periodInForce == 0 ||
    match align with
    | .left => decide (c.periodInForce ≤ c.counter + 1)
    | .centre =>
      match c.direction with
      | .up => decide (c.periodInForce ≤ c.counter) && decide (c.periodInForce ≤ 1)
      | .down => decide (c.counter ≤ 1)

/-- A tick of the channel clock that is no period boundary: in LEFT alignment the counter goes up; in CENTRE
alignment it goes up to the period and then down (R121, R122). -/
def Channel.count (c : Channel) (align : Alignment) : Channel :=
  match align with
  | .left => { c with counter := c.counter + 1 }
  | .centre =>
    match c.direction with
    | .up =>
      if c.counter < c.periodInForce then { c with counter := c.counter + 1 }
      else { c with counter := c.counter - 1, direction := .down }
    | .down => { c with counter := c.counter - 1 }

/-- A tick of the channel clock: nothing for a disabled channel (R127). -/
def Channel.tick (c : Channel) (align : Alignment) (activeLow : Bool) : Channel :=
  if c.enabled then
    (if c.boundaryNext align then c.boundary else c.count align).drive activeLow
  else c

/-- Enabling with a period and a duty, both taken into force at once (R126, R127). -/
def Channel.enable (duty period : Nat) (activeLow : Bool) : Channel :=
  (Channel.boundary
    { enabled := true, counter := 0, direction := .up, stagedDuty := duty, stagedPeriod := period,
      dutyInForce := 0, periodInForce := period, compareInForce := 0, output := .low }).drive activeLow

/-- Disabling: the counter held at 0, the duties and the compare 0, the output idle at once, and the period
in force as the staged period (R120, R126, R127). -/
def Channel.disable (period : Nat) (activeLow : Bool) : Channel :=
  { Channel.disabled period with output := idleLevel activeLow }

/-- The assertion of the stop input on an enabled fan channel's generator: the duty and compare in force
become 0 and the output idle at once, and the counter goes on (R132). -/
def Channel.force (c : Channel) (activeLow : Bool) : Channel :=
  { c with dutyInForce := 0, compareInForce := 0, stagedDuty := 0 }.drive activeLow

/-! ### Staged fan duty -/

/-- A channel's own staged duty: the lower of R and the section's fan ceiling (R129). -/
def State.ownStagedOf (s : State) (n : Slot) : Nat := min (s.fan n).ramp (fanCeiling (s.sec n))

/-- The own staged duty of F*n* is formed again (R129). -/
def State.formOwn (s : State) (n : Slot) : State :=
  s.modFan n fun f => { f with ownStaged := s.ownStagedOf n }

/-- A duty handed to the generator of F*n*: 0 while the stop input is asserted (R129, R132). -/
def State.handFan (s : State) (n : Slot) (duty : Nat) : State :=
  s.modFan n fun f => { f with gen := { f.gen with stagedDuty := if s.stopLow then 0 else duty } }

/-- What F*n* hands its generator: its own staged duty, or in a formed gang the lower of the two (R131). -/
def State.handAll (s : State) (n : Slot) : State :=
  match s.partner n with
  | none => s.handFan n (s.fan n).ownStaged
  | some p =>
    let duty := min (s.fan n).ownStaged (s.fan p).ownStaged
    (s.handFan n duty).handFan p duty

/-- F*n* restages: it forms its own staged duty again and hands the result to its generator, and in a formed
gang the other member restages at the same event (R57, R129, R131). -/
def State.restage (s : State) (n : Slot) : State := (s.formOwn n).handAll n

/-- The members of a pair restage together, at the formation or the dissolution of their gang (R131). -/
def State.restagePair (s : State) (n : Slot) : State := (s.restage (leadOf n)).restage (followerOf n)

/-- A fan channel is enabled: duty 0 and the fan period in force at once, R 0, the ramp timer started (R126). -/
def State.enableFan (s : State) (n : Slot) : State :=
  s.modFan n fun _ =>
    { gen := Channel.enable 0 s.drive.fanPeriod (s.fanActiveLow n), ramp := 0,
      rampTimer := some (s.time + unitsPerRamp), ownStaged := 0 }

/-- A fan channel is disabled (R126). -/
def State.disableFan (s : State) (n : Slot) : State :=
  s.modFan n fun _ =>
    { gen := Channel.disable s.drive.fanPeriod (s.fanActiveLow n), ramp := 0, rampTimer := none,
      ownStaged := 0 }

/-! ### Staged pump duty -/

/-- The largest floor demanded by a loop's regime and its member sections (R58, R82). -/
def State.pumpFloor (s : State) (l : LoopId) : Nat :=
  let c := (s.loopRec l).config
  max (if (s.loopRec l).regime = .frost then c.frostFloor else 0)
    (max (if s.anyMemberIn l .defend then c.defendFloor else 0)
      (if s.anyMemberIn l .tripped then 255 else 0))

/-- The staged pump duty of a SET loop (R82). -/
def State.pumpDuty (s : State) (l : LoopId) : Nat :=
  if s.stopLow then (s.loopRec l).config.stopDuty else max (s.loopRec l).ramp (s.pumpFloor l)

/-- The staged pump duty of a loop is decided again and handed to its channel; an UNSET loop has none
(R82, R83). -/
def State.decidePump (s : State) (l : LoopId) : State :=
  if (s.loopRec l).isSet then s.modPump l fun c => { c with stagedDuty := s.pumpDuty l } else s

/-- The staged pump duty of every SET loop is decided again (R133, R134). -/
def State.decidePumps (s : State) : State := allLoops.foldl State.decidePump s

/-! ### Retirement's end -/

/-- A RETIRING slot whose two drain conditions are both met becomes VACANT: its fan channel is disabled and
its record returns to the cleared values (R26). -/
def State.drain (s : State) (n : Slot) : State :=
  if (s.sec n).slot = .retiring ∧ (s.sec n).fanDrained ∧ (s.sec n).valveDrained then
    (s.disableFan n).modSec n fun _ => SectionRecord.cleared
  else s

/-- The fan drain condition of a RETIRING slot is met once the duty in force on its channel is 0 (R26). -/
def State.checkFanDrain (s : State) (n : Slot) : State :=
  if (s.sec n).slot = .retiring ∧ (s.fan n).gen.dutyInForce = 0 then
    (s.modSec n fun r => { r with fanDrained := true }).drain n
  else s

/-- The valve drain condition of a RETIRING slot is met (R25, R26). -/
def State.meetValveDrain (s : State) (n : Slot) : State :=
  if (s.sec n).slot = .retiring then
    (s.modSec n fun r => { r with valveDrained := true }).drain n
  else s

/-! ### Clear lines -/

/-- A line acts on its condition, according to what the condition was before (R158). -/
def ClearLine.act (c : ClearLine) (holds : Bool) (expiry : Nat) : ClearLine :=
  if holds then
    if c.wasTrue then c
    else if c.delayCode = 0 then { c with state := .asserted }
    else { c with timer := some expiry }
  else { c with state := .released, timer := none }

/-- The condition of a line is evaluated (R157, R158). -/
def State.evalLine (s : State) (k : LineId) : State :=
  s.modLine k fun c =>
    c.act (s.maskSafe c.mask) (s.expiryIn (delaySeconds c.delayCode))

/-- The condition of every line whose mask holds a section is evaluated (R157). -/
def State.evalLines (s : State) (n : Slot) : State :=
  allLines.foldl (fun s k => if (s.line k).mask.getLsbD n.val then s.evalLine k else s) s

/-- The lines of a section are evaluated where a destination field that changed is its OUTLET (R157). -/
def State.evalLinesOf (s : State) (d : DestField) : State :=
  match outletSlot d with
  | some n => s.evalLines n
  | none => s

/-- A member leaves the mask of every line that holds it, and each line whose mask changed is evaluated
(R24, R161). -/
def State.leaveMasks (s : State) (n : Slot) : State :=
  allLines.foldl
    (fun s k =>
      if (s.line k).mask.getLsbD n.val then
        (s.modLine k fun c => { c with mask := c.mask &&& ~~~(1#24 <<< n.val) }).evalLine k
      else s) s

end Sys2Proof.Machine
end

