-- ==== Sys2Proof/Machine/Search.lean ====
section
/-! DEFINITION. The isolation search (chapter 7), the windows of pressure captures (R84 to R86, R141, R142),
and the changes of protection state that the search answers to (R57 to R62, R146). -/

namespace Sys2Proof.Machine

open Sys2Proof

/-! ### Windows of pressure captures -/

/-- A capture enters a window (R85, R141). -/
def CaptureWindow.enter (w : CaptureWindow) (c : PressureCapture) : CaptureWindow :=
  { count := min 65535 (w.count + 1)
    first := if w.count = 0 then some c else w.first
    last := some c }

/-- The span of a window in tenths of a second, modulo 2³²; 0 without captures (R86, R142). -/
def CaptureWindow.span (w : CaptureWindow) : Nat :=
  match w.first, w.last with
  | some a, some b => partSpan a.taken b.taken
  | _, _ => 0

/-- A window over a time of `seconds` is valid: at least 3 captures, over at least half of it (R86, R142). -/
def CaptureWindow.valid (w : CaptureWindow) (seconds : Nat) : Bool :=
  decide (3 ≤ w.count) && decide (5 * seconds ≤ w.span)

/-- The rate of pressure fall in mbar/h, 0 for a rising pressure (R86, R142). -/
def CaptureWindow.rate (w : CaptureWindow) : Nat :=
  match w.first, w.last with
  | some a, some b => (floorDiv ((a.pressure - b.pressure) * 36000) w.span).toNat
  | _, _ => 0

/-- A leak window begins (R84). -/
def State.beginWindow (s : State) (l : LoopId) : State :=
  s.modLoop l fun r =>
    { r with
      leakTimer := some (s.expiryIn r.config.leakWindow), leakLength := r.config.leakWindow,
      leakWindow := .empty }

/-- The window in progress is abandoned: its timer stops and its data is discarded (R84). -/
def State.abandonWindow (s : State) (l : LoopId) : State :=
  s.modLoop l fun r => { r with leakTimer := none, leakLength := 0, leakWindow := .empty }

/-! ### Isolation marks -/

/-- A change of a section's isolation mark: the command for the new mark is posted and the refresh timer
restarted where the section has a valve node, the fan ceiling is formed again, and each clear line that
holds the section is evaluated (R116, R136). -/
def State.setMark (s : State) (m : Mark) (n : Slot) : State :=
  let s := s.modSec n fun r => { r with mark := m }
  let s :=
    if (s.sec n).config.valveNode.isSome then
      (s.postValve n m.command).modSec n fun r => { r with refreshTimer := some (s.expiryIn 10) }
    else s
  (s.restage n).evalLines n

/-- Several sections' marks change alike. -/
def State.setMarks (s : State) (m : Mark) (slots : List Slot) : State :=
  slots.foldl (fun s n => s.setMark m n) s

/-- A release: every section of the isolated set becomes NONE, and the set becomes empty (R136). -/
def State.release (s : State) : State :=
  (s.setMarks .none s.search.isolated).modSearch fun c => { c with isolated := [] }

/-- The leak monitor of the search's loop leaves its pause and begins a window (R84). -/
def State.resumeMonitor (s : State) : State :=
  match s.search.loopOf with
  | some l => s.beginWindow l
  | none => s

/-- The search becomes IDLE: both timers stop, the observation window is discarded, and the isolated set and
the wait set become empty (R135). -/
def SearchContext.toIdle (c : SearchContext) : SearchContext :=
  { c with
    state := .idle, isolated := [], wait := [], phaseTimer := none, deadline := none, window := .empty }

/-- An ending (R148). -/
def State.endSearch (s : State) (result : SearchResult) : State :=
  ((s.release.modSearch fun c => { c.toIdle with result := result }).post .searchEnd 0).resumeMonitor

/-- An ending with VALVE_FAULT, posted for the sections its rule names (R148). -/
def State.valveFault (s : State) (slots : List Slot) : State :=
  (s.endSearch .valveFault).postAll .valveFault slots

/-! ### Units and isolation -/

/-- The members of a unit. -/
def SearchUnit.members (u : SearchUnit) : List Slot := u.lead :: u.follower.toList

/-- The units of the suspect range. -/
def SearchContext.range (c : SearchContext) : List SearchUnit :=
  (c.candidates.take c.rangeHi).drop c.rangeLo

/-- Whether a section meets the candidacy conditions (R138). -/
def candidateMember (r : SectionRecord) (floor : Nat) : Bool :=
  r.slot == .live && r.protection == .normal && r.config.valveNode.isSome && r.valve.reads 0 &&
    match r.lastEval with
    | some e => decide ((floor : Int) ≤ e.margin)
    | none => false

/-- The unit that a slot leads, if it leads one: itself and its follower where it leads a formed gang, and
none where it follows in one (R138). -/
def State.unitOf (s : State) (n : Slot) : Option SearchUnit :=
  if s.gangFormed n then
    if n = leadOf n then some { lead := n, follower := some (followerOf n) } else none
  else some { lead := n, follower := none }

/-- The candidate list of a loop, in ascending order of lead slot (R138). -/
def State.candidateList (s : State) (l : LoopId) : List SearchUnit :=
  (allSlots.filterMap s.unitOf).filter fun u =>
    u.members.all fun n =>
      (s.sec n).config.loopOf == l &&
        candidateMember (s.sec n) (s.loopRec l).config.search.floor

/-- The rest timer of a wait: a rest time of 0 counts as expired already (R143, R147). -/
def State.restTimer (s : State) : Option Nat :=
  match s.search.params with
  | some p => if p.rest = 0 then none else some (s.expiryIn p.rest)
  | none => none

/-- The search parameter a rule names, of the copy taken at the start. -/
def SearchContext.param (c : SearchContext) (f : SearchParams → Nat) : Nat :=
  match c.params with
  | some p => f p
  | none => 0

/-- An isolation (R139): the first half of the suspect range, rounded up, is marked PROBE and the search
settles; or it is suspended by a member not in NORMAL, or ends at a member without a valve node. -/
def State.isolate (s : State) : State :=
  let n := s.search.range.length
  let count := (n + 1) / 2
  let members := (s.search.range.take count).flatMap SearchUnit.members
  let s := s.modSearch fun c =>
    { c with phase := some (if n = 1 then .confirm else .probe), probed := count }
  if members.any fun m => (s.sec m).protection != .normal then
    s.modSearch fun c =>
      { c with state := .suspended, wait := members, phaseTimer := s.restTimer, deadline := none }
  else if members.any fun m => (s.sec m).config.valveNode.isNone then
    s.valveFault (members.filter fun m => (s.sec m).config.valveNode.isNone)
  else
    (s.setMarks .probe members).modSearch fun c =>
      { c with
        state := .settling, isolated := members, wait := [], repeats := 0, window := .empty,
        phaseTimer := some (s.expiryIn (c.param (·.settle))),
        deadline := some (s.expiryIn (c.param (·.settle) + 60)) }

/-- An isolation that begins a new step: the step count increases, saturating (R135, R139). -/
def State.newStep (s : State) : State :=
  (s.modSearch fun c => { c with steps := min 255 (c.steps + 1) }).isolate

/-- The acceptance of a start in a loop, whose candidate list is not empty (R137). -/
def State.startSearch (s : State) (l : LoopId) : State :=
  let list := s.candidateList l
  let s := s.modSearch fun c =>
    { c with
      loopOf := some l, params := some (s.loopRec l).config.search, result := .none, steps := 0,
      repeats := 0, preemptions := 0, restartsUsed := 0, lastRate := none, heldUnit := none,
      window := .empty, candidates := list, rangeLo := 0, rangeHi := list.length, isolated := [],
      wait := [] }
  (s.abandonWindow l).newStep

/-! ### The waits -/

/-- Every section of a list reads a position on its VALVE destination. -/
def State.allRead (s : State) (slots : List Slot) (v : Int) : Bool :=
  slots.all fun n => (s.sec n).valve.reads v

/-- The sections of a list that do not read a position. -/
def State.notReading (s : State) (slots : List Slot) (v : Int) : List Slot :=
  slots.filter fun n => !(s.sec n).valve.reads v

/-- The settling wait is judged: once the settle timer has expired and every isolated section reads closed,
the search observes (R140). -/
def State.judgeSettling (s : State) : State :=
  if s.search.phaseTimer = none ∧ s.allRead s.search.isolated 1 then
    s.modSearch fun c =>
      { c with
        state := .observing, deadline := none, window := .empty,
        phaseTimer := some (s.expiryIn (c.param (·.observe))) }
  else s

/-- The rest wait is judged: once the rest timer has expired and every section of the wait set reads open, a
new step begins (R144). -/
def State.judgeResting (s : State) : State :=
  if s.search.phaseTimer = none ∧ s.allRead s.search.wait 0 then
    (s.modSearch fun c => { c with deadline := none, wait := [] }).newStep
  else s

/-- The resumption conditions are judged; a resumption repeats the step (R147). -/
def State.judgeSuspended (s : State) : State :=
  if s.search.phaseTimer = none ∧ (s.search.wait.all fun n => (s.sec n).protection == .normal) ∧
      s.allRead s.search.wait 0 then
    (s.modSearch fun c => { c with wait := [] }).isolate
  else s

/-- The wait of RESTING or of SUSPENDED is judged (R152). -/
def State.judgeWait (s : State) : State :=
  match s.search.state with
  | .resting => s.judgeResting
  | .suspended => s.judgeSuspended
  | .idle | .settling | .observing | .held => s

/-- The release into RESTING (R143): the sections released become the wait set, the rest timer and the rest
deadline start, and a rest time of 0 counts as a timer expired at this event. The phase of the step just decided
is kept (log entry 17). -/
def State.enterResting (s : State) : State :=
  let released := s.search.isolated
  let s := s.release.modSearch fun c =>
    { c with
      state := .resting, wait := released, phaseTimer := s.restTimer,
      deadline := some (s.expiryIn (c.param (·.rest) + 60)) }
  if s.search.phaseTimer = none then s.judgeResting else s

/-- A valid window of a PROBE step moves the suspect range (R143). -/
def State.decideProbe (s : State) (quiet : Bool) : State :=
  let s := s.modSearch fun c =>
    if quiet then { c with rangeHi := c.rangeLo + c.probed }
    else { c with rangeLo := c.rangeLo + c.probed }
  if s.search.rangeHi ≤ s.search.rangeLo then s.endSearch .inconclusive else s.enterResting

/-- A quiet window of a CONFIRM step: the unit is found and held (R145); the phase is kept (log entry 17). -/
def State.holdUnit (s : State) : State :=
  let members := s.search.isolated
  let s := (s.setMarks .held members).modSearch fun c =>
    { c with
      state := .held, result := .found, heldUnit := c.range.head?, phaseTimer := none, deadline := none,
      window := .empty }
  ((s.postAll .leakHeld members).post .searchEnd 0).resumeMonitor

/-- A valid window of a CONFIRM step decides the search (R145). -/
def State.decideConfirm (s : State) (quiet : Bool) : State :=
  if quiet then s.holdUnit
  else if s.search.restartsUsed < s.search.param (·.restarts) then
    (s.modSearch fun c =>
      { c with
        restartsUsed := c.restartsUsed + 1, rangeLo := 0, rangeHi := c.candidates.length }).enterResting
  else s.endSearch .inconclusive

/-- The observe timer has expired: the observation window is judged (R142). -/
def State.judgeObservation (s : State) : State :=
  let c := s.search
  if c.window.valid (c.param (·.observe)) then
    let rate := c.window.rate
    let quiet := decide (rate ≤ c.param (·.quiet))
    let s := s.modSearch fun c => { c with lastRate := some rate, phaseTimer := none }
    match c.phase with
    | some .confirm => s.decideConfirm quiet
    | _ => s.decideProbe quiet
  else if c.repeats < 2 then
    s.modSearch fun c =>
      { c with
        repeats := c.repeats + 1, window := .empty,
        phaseTimer := some (s.expiryIn (c.param (·.observe))) }
  else s.endSearch .noPressure

/-! ### What reaches the search from other blocks -/

/-- A capture into a section's VALVE destination (R140, R141, R144, R147). The value is the reading's (log
entry 11). -/
def State.searchValveCapture (s : State) (n : Slot) (value : Int) : State :=
  match s.search.state with
  | .settling =>
    if n ∈ s.search.isolated then
      if value = 3 then s.valveFault [n] else s.judgeSettling
    else s
  | .observing => if n ∈ s.search.isolated ∧ value ≠ 1 then s.valveFault [n] else s
  | .resting =>
    if n ∈ s.search.wait then if value = 3 then s.valveFault [n] else s.judgeResting else s
  | .suspended =>
    if n ∈ s.search.wait then if value = 3 then s.valveFault [n] else s.judgeSuspended else s
  | .idle | .held => s

/-- A capture into a loop's PRESSURE destination, with the value the destination holds after it, enters the
leak window if the monitor runs, and the observation window if the search observes in this loop (R85, R141). -/
def State.pressureCapture (s : State) (l : LoopId) (value : Int) : State :=
  let entry : PressureCapture := { pressure := value, taken := s.partTime }
  if s.monitorRuns l then
    s.modLoop l fun r => { r with leakWindow := r.leakWindow.enter entry }
  else if s.search.state = .observing ∧ s.search.loopOf = some l then
    s.modSearch fun c => { c with window := c.window.enter entry }
  else s

/-- A section marked PROBE enters DEFEND or TRIPPED: the search is pre-empted (R146). -/
def State.preempt (s : State) : State :=
  if s.search.preemptions < 3 then
    let released := s.search.isolated
    s.release.modSearch fun c =>
      { c with
        state := .suspended, preemptions := c.preemptions + 1, window := .empty, wait := released,
        phaseTimer := s.restTimer, deadline := none }
  else s.endSearch .preempted

/-- The search is told a section's new protection state (R60, R61, R147). -/
def State.tellSearch (s : State) (n : Slot) (p : Protection) : State :=
  let deep := p = .defend ∨ p = .tripped
  match (s.sec n).mark with
  | .probe =>
    if deep ∧ (s.search.state = .settling ∨ s.search.state = .observing) then s.preempt else s
  | .held => if deep then s.post .frozenHold n.val else s
  | .none => if s.search.state = .suspended ∧ n ∈ s.search.wait then s.judgeSuspended else s

/-- The cause posted on entry into a protection state (R62). -/
def State.postEntry (s : State) (n : Slot) : Protection → State
  | .normal => s
  | .watch => s.post .watch n.val
  | .defend => s.post .defend n.val
  | .tripped => s.post .trip n.val

/-- A change of a section's protection state, with its hand-offs to the fan channel, the loop's pump, the
clear lines, the search and the attention set (section 3.4). -/
def State.changeProtection (s : State) (n : Slot) (p : Protection) : State :=
  let s := s.modSec n fun r => { r with protection := p }
  let s := (s.restage n).decidePump (s.sec n).config.loopOf
  ((s.evalLines n).postEntry n p).tellSearch n p

/-! ### Retirement of a candidate member -/

/-- A unit without one of its members, none where no member is left (R152). -/
def SearchUnit.without (u : SearchUnit) (n : Slot) : Option SearchUnit :=
  if u.lead = n then u.follower.map fun f => { lead := f, follower := none }
  else if u.follower = some n then some { u with follower := none }
  else some u

/-- A bound of the suspect range after the unit at one position has left the list. -/
def shiftBound (position bound : Nat) : Nat := if position < bound then bound - 1 else bound

/-- The candidate list and the suspect range without a retired section (R152). -/
def SearchContext.without (c : SearchContext) (n : Slot) : SearchContext :=
  match c.candidates.findIdx? (fun u => u.members.contains n) with
  | none => c
  | some i =>
    let list := c.candidates.filterMap fun u => u.without n
    if list.length < c.candidates.length then
      { c with
        candidates := list, rangeLo := shiftBound i c.rangeLo, rangeHi := shiftBound i c.rangeHi,
        probed := if c.rangeLo ≤ i ∧ i < c.rangeLo + c.probed then c.probed - 1 else c.probed }
    else { c with candidates := list }

/-- Acceptance of RETIRE of a member of a candidate unit while the search is not IDLE (R152). -/
def State.retireFromSearch (s : State) (n : Slot) : State :=
  if s.search.state = .idle ∨ s.search.candidates.all (fun u => !u.members.contains n) then s
  else
    let waited := n ∈ s.search.wait
    let s := s.modSearch fun c => { c.without n with wait := c.wait.filter (· != n) }
    if s.search.rangeHi ≤ s.search.rangeLo then s.endSearch .inconclusive
    else if waited then s.judgeWait
    else s

end Sys2Proof.Machine
end

