-- ==== Sys2Proof/Machine/Margin.lean ====
section
/-! DEFINITION. The margin engine (chapter 2), the protection decision (R50 to R52), and the loop block's
coldest air and regime (R77 to R79). -/

namespace Sys2Proof.Machine

open Sys2Proof

/-! ### Stage 0: inputs and their substitutes -/

/-- The value of a usable destination, one that is FRESH or HELD (R33). -/
def Destination.usable (d : Destination) : Option Int :=
  match d.status with
  | .fresh | .held => d.stored.map (·.value)
  | .awaiting | .stale => none

/-- The last value of a STALE destination (R33). -/
def Destination.lastValue (d : Destination) : Option Int :=
  match d.status with
  | .stale => d.stored.map (·.value)
  | .awaiting | .fresh | .held => none

/-- The staleness age of a destination in tenths, saturating at 2³² - 1 (R33). -/
def Destination.staleAge (d : Destination) (now : Nat) : Nat :=
  match d.staleSince with
  | some t => min (2 ^ 32 - 1) (now - t)
  | none => 0

/-- The last value of a destination whose staleness age is at most a limit (R34, R35, R36). -/
def Destination.lastWithin (d : Destination) (now limit : Nat) : Option Int :=
  if d.staleAge now ≤ limit then d.lastValue else none

/-- The lower of two values that may be absent. -/
def lowerOption : Option Int → Option Int → Option Int
  | some a, some b => some (min a b)
  | some a, none => some a
  | none, b => b

/-- T_air used, and whether the design frost air stands in (R34). -/
def airUsed (own loopAir : Destination) (frostAir : Int) (now : Nat) : Int × Bool :=
  match lowerOption own.usable loopAir.usable with
  | some t => (t, false)
  | none =>
    match lowerOption (own.lastWithin now 3000) (loopAir.lastWithin now 3000) with
    | some t => (t, false)
    | none => (frostAir, true)

/-- The outlet value a section uses: the value, and whether it is held or degraded (R35). -/
structure OutletUsed where
  value : Int
  held : Bool
  degraded : Bool
  deriving DecidableEq, Repr

/-- T_out used (R35). -/
def outletUsed (d : Destination) (tAir : Int) (grace penalty now : Nat) : OutletUsed :=
  match d.usable with
  | some t => { value := t, held := false, degraded := false }
  | none =>
    match d.lastValue with
    | some t =>
      if d.staleAge now ≤ 10 * grace then { value := t, held := true, degraded := false }
      else
        { value := max tAir (t - ((d.staleAge now - 10 * grace) * penalty / 100 : Nat)),
          held := false, degraded := true }
    | none => { value := tAir, held := false, degraded := true }

/-- The loop flow a section uses, and whether it is held or zeroed (R36). -/
structure FlowUsed where
  value : Nat
  held : Bool
  zeroed : Bool
  deriving DecidableEq, Repr

/-- Qloop (R36). -/
def flowUsed (d : Destination) (now : Nat) : FlowUsed :=
  match d.usable with
  | some q => { value := q.toNat, held := false, zeroed := false }
  | none =>
    match d.lastWithin now 600 with
    | some q => { value := q.toNat, held := true, zeroed := false }
    | none => { value := 0, held := false, zeroed := true }

/-- c_used, and whether the declared concentration stands in (R37). -/
def concentrationUsed (d : Destination) (declared : Nat) : Nat × Bool :=
  match d.usable with
  | some c => (clampNat 0 600 (min declared c.toNat), false)
  | none => (clampNat 0 600 declared, true)

/-! ### Stages 1 to 8 -/

/-- Stage 1: the flow share (R39). -/
def flowShare (mark : Mark) (qloop weight weightSum : Nat) : Nat :=
  match mark with
  | .none => qloop * weight / weightSum
  | .probe | .held => 0

/-- Stage 2: the flow ratio q (R40). -/
def flowRatio (share designFlow : Nat) : Nat := min 512 (share * 256 / designFlow)

/-- Stage 3: the wall coupling W (R41). -/
def wallCoupling (duty ratio : Nat) : Nat := min 240 (64 * (duty + 16) / (ratio + 32))

/-- Stage 4: T_wall (R42). -/
def wallTemperature (tOut tAir : Int) (coupling : Nat) : Int :=
  tOut - floorDiv ((tOut - tAir) * coupling + 128) 256

/-- The point of a curve at one of its nine places; the last one beyond them. -/
def curvePoint (curve : Vector Int 9) (i : Nat) : Int :=
  if h : i < 9 then curve[i] else curve[8]

/-- Stage 5: the freeze point, interpolated and rounded up (R43). -/
def freezePoint (curve : Vector Int 9) (c : Nat) : Int :=
  if 600 ≤ c then curvePoint curve 8
  else
    let i := c / 75
    let r := c - 75 * i
    curvePoint curve i + ceilDiv ((curvePoint curve (i + 1) - curvePoint curve i) * r) 75

/-- Stage 7: the elapsed time since the previous evaluation, capped at 300 tenths; 0 for the first of an
enrolment (R45). -/
def elapsedSince (previous : Option EvalRecord) (now : PartTime) : Nat :=
  match previous with
  | none => 0
  | some e => min 300 (partSpan e.taken now)

/-- Stage 8: the integrator (R46). -/
def integrate (i : Nat) (margin : Int) (guard elapsed : Nat) : Nat :=
  if margin < guard then clampNat 0 4000000 (i + ((guard - margin) * elapsed / 10).toNat)
  else clampNat 0 4000000 (i - ((margin - guard) * elapsed / 40).toNat)

/-- The freeze curve a loop selects (R43, R74). -/
def State.curveOf (s : State) : CurveName → Vector Int 9
  | .a => s.curveA
  | .b => s.curveB

/-- Stages 0 to 7 of an evaluation of a section taken now: its evaluation record (R7, R31 to R45). -/
def State.evaluation (s : State) (n : Slot) : EvalRecord :=
  let r := s.sec n
  let lp := s.loopRec r.config.loopOf
  let (tAir, substituted) := airUsed r.air lp.air lp.config.frostAir s.tenths
  let out := outletUsed r.outlet tAir r.config.grace r.config.penalty s.tenths
  let flow := flowUsed lp.flow s.tenths
  let (c, declared) := concentrationUsed lp.concentration lp.config.concentration
  let share := flowShare r.mark flow.value r.config.weight (s.weightSum r.config.loopOf)
  let ratio := flowRatio share r.config.designFlow
  let coupling := wallCoupling (s.fan n).gen.dutyInForce ratio
  let tWall := wallTemperature out.value tAir coupling
  let tFreeze := freezePoint (s.curveOf lp.config.curve) c
  { taken := s.partTime
    elapsed := elapsedSince r.lastEval s.partTime
    tOut := out.value
    tAir := tAir
    flags :=
      { outletHeld := out.held, outletDegraded := out.degraded, airSubstituted := substituted,
        flowHeld := flow.held, flowZeroed := flow.zeroed, concentrationDeclared := declared }
    share := share
    ratio := ratio
    coupling := coupling
    tWall := tWall
    tFreeze := tFreeze
    margin := tWall - tFreeze }

/-! ### The protection decision -/

/-- The exit level of a threshold: three quarters of it, rounded down (R50). -/
def exitLevel (threshold : Nat) : Nat := 3 * threshold / 4

/-- The decision of R51, down the rows of the current state. -/
def decideProtection (p : Protection) (c : SectionConfig) (margin : Int) (i : Nat) : Protection :=
  match p with
  | .normal =>
    if margin < -(c.hardFloor : Int) then .tripped
    else if c.iTrip ≤ i then .tripped
    else if c.iDefend ≤ i then .defend
    else if c.iWatch ≤ i then .watch
    else .normal
  | .watch =>
    if margin < -(c.hardFloor : Int) then .tripped
    else if c.iTrip ≤ i then .tripped
    else if c.iDefend ≤ i then .defend
    else if i ≤ exitLevel c.iWatch then .normal
    else .watch
  | .defend =>
    if margin < -(c.hardFloor : Int) then .tripped
    else if c.iTrip ≤ i then .tripped
    else if i ≤ exitLevel c.iWatch then .normal
    else if i ≤ exitLevel c.iDefend then .watch
    else .defend
  | .tripped => .tripped

/-- The decision for a section from the margin and the integrator of the evaluation just made; a decision
that keeps the state hands nothing on (R50, R51). -/
def State.decideSection (s : State) (n : Slot) (margin : Int) : State :=
  let r := s.sec n
  let p := decideProtection r.protection r.config margin r.integrator
  if p = r.protection then s else s.changeProtection n p

/-! ### Coldest air and regime -/

/-- Coldest air is formed again (R77). -/
def State.formColdest (s : State) (l : LoopId) : State :=
  s.modLoop l fun r => { r with coldest := lowest (s.memberAir l) }

/-- The regime decided from coldest air (R78). -/
def decideRegime (r : LoopRecord) (coldest : Int) (now : PartTime) : Regime :=
  match r.regime with
  | .mild => if coldest < r.config.frostEntry then .frost else .mild
  | .frost =>
    if r.config.frostExit < coldest ∧ 10 * r.config.dwell ≤ partSpan r.regimeEntry now then .mild
    else .frost

/-- ACTIVE of a STARTING or LIVE section of a loop becomes a copy of its stored set for a regime, and its
channel restages (R79, steps 2 and 3). -/
def State.copyActive (s : State) (l : LoopId) (g : Regime) (n : Slot) : State :=
  if (s.sec n).slot.inService ∧ (s.sec n).config.loopOf = l then
    (s.modSec n fun r => { r with active := r.config.stored g }).restage n
  else s

/-- A change of a loop's regime (R79). -/
def State.changeRegime (s : State) (l : LoopId) (g : Regime) : State :=
  let s := s.modLoop l fun r => { r with regime := g, regimeEntry := s.partTime }
  let s := allSlots.foldl (fun s n => s.copyActive l g n) s
  (s.post .regime l.val).decidePump l

/-- The regime decision after a member's evaluation; none where coldest air is none (R78). -/
def State.decideLoopRegime (s : State) (l : LoopId) : State :=
  match (s.loopRec l).coldest with
  | none => s
  | some t =>
    let g := decideRegime (s.loopRec l) t s.partTime
    if g = (s.loopRec l).regime then s else s.changeRegime l g

/-! ### The take -/

/-- What the take writes into the section record (R30, R32). -/
def SectionRecord.evaluated (r : SectionRecord) (e : EvalRecord) (now : Nat) : SectionRecord :=
  { r with
    lastEval := some e
    integrator := integrate r.integrator e.margin r.active.guard e.elapsed
    evalTimer := some (now + 10 * r.config.emax) }

/-- The evaluation of a section, taken whole: record, integrator and timer, then the protection decision and
the loop's regime decision (R31, R32). -/
def State.evaluate (s : State) (n : Slot) : State :=
  let e := s.evaluation n
  let l := (s.sec n).config.loopOf
  let s := s.modSec n fun r => r.evaluated e s.tenths
  let s := s.decideSection n e.margin
  if (s.loopRec l).isSet then (s.formColdest l).decideLoopRegime l else s

end Sys2Proof.Machine
end

