-- ==== Sys2Proof/Machine/Capture.lean ====
section
/-! DEFINITION. Readings and destination fields (sections 5.3 to 5.6): interpretation, matching, delivery and
capture, and the entries into AWAITING, STALE and HELD. -/

namespace Sys2Proof.Machine

open Sys2Proof

/-! ### Readings -/

/-- The quality a reading arrives with (R95). -/
inductive ReadingQuality where
  | ok | suspect | fault
  deriving DecidableEq, Repr

/-- A reading, its value interpreted and clamped by its kind (R95). -/
structure Reading where
  node : Byte
  kind : Kind
  sub : Nat
  value : Int
  quality : ReadingQuality
  deriving DecidableEq, Repr

/-- The bindable kind of a kind code; 6 and 7 are unbindable (R95). -/
def kindOfCode (k : BitVec 3) : Option Kind :=
  match k.toNat with
  | 0 => some .outlet
  | 1 => some .air
  | 2 => some .flow
  | 3 => some .pressure
  | 4 => some .concentration
  | 5 => some .valve
  | _ => none

/-- The quality of a quality code (R95). -/
def qualityOfCode (q : BitVec 2) : ReadingQuality :=
  match q.toNat with
  | 0 => .ok
  | 1 => .suspect
  | _ => .fault

/-- The value of a reading, read as its kind says and clamped to the range kept (R95). -/
def readValue (k : Kind) (v : BitVec 16) : Int :=
  match k with
  | .outlet | .air => clampInt (-5000) 8000 v.toInt
  | .flow => min 65000 v.toNat
  | .pressure => min 10000 v.toNat
  | .concentration => min 600 v.toNat
  | .valve => v.toNat

/-- The reading of a valid telegram with direction 0, none for an unbindable kind (R93, R95). A VALVE value
above 3 takes FAULT quality. -/
def readingOf (t : Telegram) : Option Reading :=
  (kindOfCode t.kind).map fun k =>
    { node := t.node, kind := k, sub := t.sub.toNat, value := readValue k t.value,
      quality := if k = .valve ∧ 3 < t.value.toNat then .fault else qualityOfCode t.quality }

/-- The seen mark of a node and kind is set (R96). -/
def State.markSeen (s : State) (node : Byte) (kind : BitVec 3) : State :=
  { s with
    seen := tabSet s.seen node.toFin (tabGet s.seen node.toFin ||| (1#8 <<< kind.toNat)) }

/-! ### Matching -/

/-- A reading matches the pattern of a binding (R99). -/
def Binding.covers (b : Binding) (r : Reading) : Bool :=
  r.kind == b.kind &&
    (!b.careHigh || r.node.extractLsb' 4 4 == b.node.extractLsb' 4 4) &&
    (!b.careLow || r.node.extractLsb' 0 4 == b.node.extractLsb' 0 4) &&
    (!b.careSub || r.sub == b.sub)

/-- A reading matches a binding: it is ACTIVE and its pattern covers the reading (R99). -/
def BindingState.matchesReading (b : BindingState) (r : Reading) : Bool :=
  match b with
  | .active f => f.covers r
  | .empty | .held _ => false

/-- The binding a reading is delivered to: the first it matches, in ascending order (R100). -/
def State.matchingBinding (s : State) (r : Reading) : Option BindingId :=
  allBindings.find? fun b => (s.binding b).matchesReading r

/-! ### Capture -/

/-- What a destination holds after a capture (R102, R103). -/
def Destination.capture (d : Destination) (b : Binding) (value : Int) (q : Quality) (taken : PartTime)
    (expiry : Nat) : Destination :=
  let restart : Stored := { value := value, quality := q, captured := taken }
  let combined : Stored :=
    match d.stored with
    | some old =>
      { value := min old.value value
        quality := if old.quality = .suspect ∨ q = .suspect then .suspect else .ok
        captured := taken }
    | none => restart
  match b.combine with
  | .replace =>
    { status := .fresh, stored := some restart, staleSince := none, freshTimer := some expiry,
      combineTimer := d.combineTimer, holdTimer := none }
  | .lowest =>
    { status := .fresh
      stored := some (if d.combineTimer.isSome then combined else restart)
      staleSince := none
      freshTimer := some expiry
      combineTimer := if d.combineTimer.isSome then d.combineTimer else some expiry
      holdTimer := none }

/-- A STARTING section becomes LIVE: its fan ceiling changes and its channel restages (R10). -/
def State.becomeLive (s : State) (n : Slot) : State :=
  if (s.sec n).slot = .starting then
    (s.modSec n fun r => { r with slot := .live }).restage n
  else s

/-- The hand-off of a capture to the readers of the field (R10, R29, R102). -/
def State.handOff (s : State) (d : DestField) (value : Int) : State :=
  match d with
  | .outlet n =>
    let s := s.becomeLive n
    (if (s.sec n).slot = .live then s.joinQueue n else s).evalLines n
  | .valve n => s.searchValveCapture n value
  | .loopPressure l =>
    match (s.loopRec l).pressure.stored with
    | some v => s.pressureCapture l v.value
    | none => s
  | .air _ | .loopFlow _ | .loopConcentration _ | .loopAir _ => s

/-- The capture of a value into a binding's destination (R102, R103). -/
def State.capture (s : State) (b : Binding) (value : Int) (q : Quality) : State :=
  (s.setDest b.dest
      ((s.dest b.dest).capture b value q s.partTime (s.expiryIn b.freshLimit))).handOff b.dest value

/-- The delivery of a reading to a binding: OK or SUSPECT is captured, FAULT stores nothing (R100). -/
def State.deliverTo (s : State) (b : Binding) (r : Reading) : State :=
  match r.quality with
  | .ok => s.capture b r.value .ok
  | .suspect => s.capture b r.value .suspect
  | .fault => s

/-- The delivery of a reading to the first binding it matches (R100). -/
def State.deliver (s : State) (r : Reading) : State :=
  match s.matchingBinding r with
  | some i =>
    match (s.binding i).fields with
    | some b => s.deliverTo b r
    | none => s
  | none => s

/-- The arrival of a valid telegram: a reading sets its seen mark and is delivered; a command to a node is
neither marked nor delivered (R93, R96, R100). -/
def State.arrive (s : State) (t : Telegram) : State :=
  if t.command then s
  else
    let s := s.markSeen t.node t.kind
    match readingOf t with
    | some r => s.deliver r
    | none => s

/-! ### Leaving FRESH -/

/-- A destination field becomes AWAITING; the clear lines of an OUTLET's section are evaluated (R101, R106,
R107, R110). -/
def State.makeAwaiting (s : State) (d : DestField) : State :=
  (s.setDest d .awaiting).evalLinesOf d

/-- A destination enters STALE, keeping its last value (R104, R109). -/
def Destination.toStale (d : Destination) (now : Nat) : Destination :=
  { d with status := .stale, staleSince := some now, freshTimer := none, holdTimer := none }

/-- A destination field goes STALE: STALE is posted for its binding, and the clear lines of an OUTLET's
section are evaluated (R104, R109). -/
def State.goStale (s : State) (d : DestField) : State :=
  let s := s.setDest d ((s.dest d).toStale s.tenths)
  let s :=
    match s.feeder d with
    | some b => s.post .stale b.val
    | none => s
  s.evalLinesOf d

/-- What HOLD on does to a destination: FRESH and STALE become HELD with the hold timer started, and
AWAITING stays (R108). -/
def Destination.hold (d : Destination) (expiry : Nat) : Destination :=
  match d.status with
  | .fresh | .stale =>
    { d with
      status := .held, staleSince := none, freshTimer := none, combineTimer := none,
      holdTimer := some expiry }
  | .awaiting | .held => d

/-- The destinations of a section become AWAITING and the bindings that feed them EMPTY, with their STALE
causes removed (R24). -/
def State.unbindSection (s : State) (n : Slot) : State :=
  let s := allBindings.foldl
    (fun s b =>
      match (s.binding b).fields with
      | some f =>
        if fieldSlot f.dest = some n then (s.setBinding b .empty).dropStale b else s
      | none => s) s
  s.modSec n fun r => { r with outlet := .awaiting, air := .awaiting, valve := .awaiting }

end Sys2Proof.Machine
end

