-- ==== Sys2Proof/Machine/Operands.lean ====
section
/-! DEFINITION. The operand forms of requests and replies (R4, R67, R171): reading the fields of a payload,
clamping them, and writing the fields of a reply. -/

namespace Sys2Proof.Machine

open Sys2Proof

/-! ### Reading a payload -/

/-- The one-byte field at a place of a payload. -/
def field8 (p : List Byte) (i : Nat) : Nat := (p.getD i 0).toNat

/-- The two-byte unsigned field at a place, high byte first (R171). -/
def field16 (p : List Byte) (i : Nat) : Nat := field8 p i * 256 + field8 p (i + 1)

/-- The two-byte two's complement field at a place (R171). -/
def fieldSigned (p : List Byte) (i : Nat) : Int := (BitVec.ofNat 16 (field16 p i)).toInt

/-- The four-byte unsigned field at a place (R171). -/
def field32 (p : List Byte) (i : Nat) : Nat := field16 p i * 65536 + field16 p (i + 2)

/-- The three-byte set of slots at a place (R171). -/
def fieldMask (p : List Byte) (i : Nat) : BitVec 24 :=
  BitVec.ofNat 24 (field8 p i * 65536 + field16 p (i + 1))

/-- The enumerated field at a place holds a code that is not defined, where `count` codes are. A place the
payload does not reach holds no code (R13, log entry 10). -/
def undefinedCode (p : List Byte) (i count : Nat) : Bool :=
  match p[i]? with
  | some b => decide (count ≤ b.toNat)
  | none => false

/-- A flag named "on or off" is on: the first value named has code 0 (R171, log entry 9). -/
def fieldOn (p : List Byte) (i : Nat) : Bool := field8 p i == 0

/-- The code of a flag named "on or off" (R171, log entry 9). -/
def onCode (on : Bool) : Nat := if on then 0 else 1

/-- An optional node: a presence byte and the node (R171). The byte after a presence byte 0 is not looked at (log
entry 10). -/
def fieldNode (p : List Byte) (i : Nat) : Option Byte :=
  if field8 p i = 1 then some (p.getD (i + 1) 0) else none

/-! ### Clamping -/

/-- A value taken into a record: what is stored, and whether clamping changed it (R4). -/
structure Clamped (α : Type) where
  value : α
  changed : Bool
  deriving DecidableEq, Repr

/-- A scalar clamped to its range (R4). -/
def clampField (lo hi v : Nat) : Clamped Nat :=
  { value := clampNat lo hi v, changed := clampNat lo hi v != v }

/-- A scalar for which 0 selects a default, which is no clamping (R4). -/
def clampOrDefault (default lo hi v : Nat) : Clamped Nat :=
  if v = 0 then { value := default, changed := false } else clampField lo hi v

/-- A signed scalar clamped to its range (R68). -/
def clampSigned (lo hi v : Int) : Clamped Int :=
  { value := clampInt lo hi v, changed := clampInt lo hi v != v }

/-- A limit set of five bytes at a place, its guard clamped (R5). -/
def fieldLimits (p : List Byte) (i : Nat) : Clamped LimitSet :=
  let g := clampField 0 2000 (field16 p (i + 3))
  { value := { fan := field8 p i, watch := field8 p (i + 1), defend := field8 p (i + 2), guard := g.value }
    changed := g.changed }

/-- The ordering of a limit set (R5). -/
def LimitSet.ordered (m : LimitSet) : Bool := decide (m.defend ≤ m.watch) && decide (m.watch ≤ m.fan)

/-- The ordering of the thresholds (R5). -/
def SectionConfig.thresholdsOrdered (c : SectionConfig) : Bool :=
  decide (c.iWatch < c.iDefend) && decide (c.iDefend < c.iTrip)

/-! ### Writing a reply -/

/-- A one-byte field. -/
def put8 (n : Nat) : List Byte := [BitVec.ofNat 8 n]

/-- A two-byte unsigned field, high byte first. -/
def put16 (n : Nat) : List Byte := put8 (n / 256) ++ put8 n

/-- A two-byte two's complement field. -/
def putSigned (z : Int) : List Byte := put16 (BitVec.ofInt 16 z).toNat

/-- A four-byte unsigned field. -/
def put32 (n : Nat) : List Byte := put16 (n / 65536) ++ put16 n

/-- A set of slots, three bytes. -/
def putMask (m : BitVec 24) : List Byte := put8 (m.toNat / 65536) ++ put16 m.toNat

/-- A yes-or-no field: 0 no, 1 yes (log entry 10). -/
def putBool (b : Bool) : List Byte := put8 b.toNat

/-- An optional field: a presence byte, then the field, 0 where absent (R171). -/
def putOption {α : Type} (width : Nat) (put : α → List Byte) : Option α → List Byte
  | none => put8 0 ++ List.replicate width 0
  | some a => put8 1 ++ put a

/-- A limit set (R5). -/
def putLimits (m : LimitSet) : List Byte := put8 m.fan ++ put8 m.watch ++ put8 m.defend ++ put16 m.guard

/-- The six search parameters: eleven bytes (R67, R155). -/
def SearchParams.bytes (p : SearchParams) : List Byte :=
  put16 p.settle ++ put16 p.observe ++ put16 p.rest ++ put16 p.quiet ++ put16 p.floor ++ put8 p.restarts

/-! ### Codes of enumerated fields: the first value named where the field is defined has code 0 (R171) -/

/-- VACANT, STARTING, LIVE, RETIRING (R2). -/
def SlotState.code : SlotState → Nat
  | .vacant => 0
  | .starting => 1
  | .live => 2
  | .retiring => 3

/-- NORMAL, WATCH, DEFEND, TRIPPED (R6). -/
def Protection.code : Protection → Nat
  | .normal => 0
  | .watch => 1
  | .defend => 2
  | .tripped => 3

/-- NONE, PROBE, HELD (R6). -/
def Mark.code : Mark → Nat
  | .none => 0
  | .probe => 1
  | .held => 2

/-- DROP, SLEW (R4). -/
def Lowering.code : Lowering → Nat
  | .drop => 0
  | .slew => 1

/-- A, B (R67). -/
def CurveName.code : CurveName → Nat
  | .a => 0
  | .b => 1

/-- MILD, FROST (R78). -/
def Regime.code : Regime → Nat
  | .mild => 0
  | .frost => 1

/-- NONE, STARTED, NO_CANDIDATES, SEARCH_BUSY (R87). -/
def AutoOutcome.code : AutoOutcome → Nat
  | .none => 0
  | .started => 1
  | .noCandidates => 2
  | .searchBusy => 3

/-- OUTLET, AIR, FLOW, PRESSURE, CONCENTRATION, VALVE (R95). -/
def Kind.code : Kind → Nat
  | .outlet => 0
  | .air => 1
  | .flow => 2
  | .pressure => 3
  | .concentration => 4
  | .valve => 5

/-- REPLACE, LOWEST (R98). -/
def Combine.code : Combine → Nat
  | .replace => 0
  | .lowest => 1

/-- AWAITING, FRESH, STALE, HELD (R101). -/
def DestStatus.code : DestStatus → Nat
  | .awaiting => 0
  | .fresh => 1
  | .stale => 2
  | .held => 3

/-- OK, SUSPECT (R101). -/
def Quality.code : Quality → Nat
  | .ok => 0
  | .suspect => 1

/-- EMPTY, ACTIVE, HELD (R98). -/
def BindingState.code : BindingState → Nat
  | .empty => 0
  | .active _ => 1
  | .held _ => 2

/-- IDLE, SETTLING, OBSERVING, RESTING, SUSPENDED, HELD (R135). -/
def SearchState.code : SearchState → Nat
  | .idle => 0
  | .settling => 1
  | .observing => 2
  | .resting => 3
  | .suspended => 4
  | .held => 5

/-- PROBE, CONFIRM (R135). -/
def Phase.code : Phase → Nat
  | .probe => 0
  | .confirm => 1

/-- NONE, FOUND, INCONCLUSIVE, PREEMPTED, VALVE_FAULT, NO_PRESSURE, STOPPED, HALTED (R135). -/
def SearchResult.code : SearchResult → Nat
  | .none => 0
  | .found => 1
  | .inconclusive => 2
  | .preempted => 3
  | .valveFault => 4
  | .noPressure => 5
  | .stopped => 6
  | .halted => 7

/-- ASSERTED, RELEASED (R156). -/
def LineState.code : LineState → Nat
  | .asserted => 0
  | .released => 1

/-- HIGH, LOW (R167). -/
def CauseLevel.code : CauseLevel → Nat
  | .high => 0
  | .low => 1

/-- LEFT, CENTRE (R119). -/
def Alignment.code : Alignment → Nat
  | .left => 0
  | .centre => 1

/-- POWER, PIN, REQUEST (R179). -/
def ResetCause.code : ResetCause → Nat
  | .power => 0
  | .pin => 1
  | .request => 2

/-- The status codes of R172. -/
def Status.code : Status → Nat
  | .done => 1
  | .doneClamped => 2
  | .accepted => 3
  | .notReady => 4
  | .none => 5
  | .badCheck => 6
  | .badKind => 7
  | .badLength => 8
  | .badSubject => 9
  | .vacant => 10
  | .occupied => 11
  | .loopUnset => 12
  | .order => 13
  | .busy => 14
  | .held => 15
  | .stillCold => 16
  | .duplicateDest => 17
  | .noCandidates => 18

/-- The six substitution flags in one byte, the first in bit 0, set 1 (log entry 10). -/
def SubstFlags.byte (f : SubstFlags) : Nat :=
  f.outletHeld.toNat + 2 * f.outletDegraded.toNat + 4 * f.airSubstituted.toNat + 8 * f.flowHeld.toNat +
    16 * f.flowZeroed.toNat + 32 * f.concentrationDeclared.toNat

/-- The three do-care flags of a binding in one byte: node high nibble in bit 0, node low nibble in bit 1, sub
in bit 2 (log entry 10). -/
def Binding.careByte (b : Binding) : Nat := b.careHigh.toNat + 2 * b.careLow.toNat + 4 * b.careSub.toNat

/-- The owner type, owner index and field code of a destination (R105). -/
def putDest : DestField → List Byte
  | .outlet n => put8 0 ++ put8 n.val ++ put8 0
  | .air n => put8 0 ++ put8 n.val ++ put8 1
  | .valve n => put8 0 ++ put8 n.val ++ put8 2
  | .loopFlow l => put8 1 ++ put8 l.val ++ put8 0
  | .loopPressure l => put8 1 ++ put8 l.val ++ put8 1
  | .loopConcentration l => put8 1 ++ put8 l.val ++ put8 2
  | .loopAir l => put8 1 ++ put8 l.val ++ put8 3

end Sys2Proof.Machine
end

