-- ==== Sys2Proof/Machine/Link.lean ====
section
/-! DEFINITION. The request link (chapter 9): what a block answers a request, the end of a transaction, the
reply slot, and the state after a reset. -/

namespace Sys2Proof.Machine

open Sys2Proof

/-- What the block that owns a request makes of it (R175): a refusal, which leaves the part as it was; an
acceptance, with the state it leaves and the reply; or a reset, which composes no reply (R180). A refusal
carries a payload only for PART CONFIGURE and ATTENTION LEVELS (R170). -/
inductive Verdict where
  | refuse (status : Status) (payload : List Byte)
  | accept (after : State) (status : Status) (payload : List Byte)
  | restart (after : State)
  deriving DecidableEq, Repr

/-- A refusal without a payload. -/
def Verdict.no (status : Status) : Verdict := .refuse status []

/-- An acceptance answered DONE without a payload. -/
def Verdict.ok (after : State) : Verdict := .accept after .done []

/-- An acceptance answered DONE_CLAMPED where a value was clamped, and DONE otherwise (R4, R68). -/
def Verdict.okClamped (after : State) (clamped : Bool) : Verdict :=
  .accept after (if clamped then .doneClamped else .done) []

/-- An acceptance answered DONE with a payload. -/
def Verdict.answer (after : State) (payload : List Byte) : Verdict := .accept after .done payload

/-- A frame put into the reply slot at the end of a transaction; it becomes ready 100 µs later (R176). -/
def State.putReply (s : State) (r : Reply) : State :=
  { s with reply := r, readyAt := s.time + unitsToReady }

/-- The reply slot's frame is ready (R176). -/
def State.replyIsReady (s : State) : Bool := decide (s.readyAt ≤ s.time)

/-- The end of a transaction that is judged. Where the part ignored the transaction or answered it NOT_READY,
nothing it carried is judged or taken (R177, R181); otherwise `judge` acts. -/
def State.endTransaction (s : State) (judge : State → State) : State :=
  match s.link with
  | .ignored | .answering _ true => { s with link := .idle }
  | .idle | .answering _ false => if s.inReset then s else judge { s with link := .idle }

/-- The taking of a request: the owner's verdict, and the reply it earns (R173, R175, R176). -/
def State.take (s : State) (kind : Nat) (v : Verdict) : State :=
  match v with
  | .refuse status payload =>
    s.putReply { status := status, kind := BitVec.ofNat 8 kind, payload := payload }
  | .accept after status payload =>
    after.putReply { status := status, kind := BitVec.ofNat 8 kind, payload := payload }
  | .restart after => after

/-- The end of a transaction that carries a well-formed request: the owner takes it (R173). -/
def State.request (s : State) (dt kind : Nat) (owner : State → Verdict) : State :=
  (s.advance dt).endTransaction fun s => s.take kind (owner s)

/-- A command that is no request: time passes and its event acts, unless RESET_N is held low (log entry 5). -/
def State.event (s : State) (dt : Nat) (act : State → State) : State :=
  if s.inReset then s else act (s.advance dt)

/-- The event of a timer that expires at a moment of its own, unless RESET_N is held low (log entry 4). -/
def State.occur (s : State) (act : State → State) : State := if s.inReset then s else act s

/-- A frame with status NOT_READY and the echoed kind of the pending frame (R170, R177). -/
def State.notReadyReply (s : State) : Reply := { status := .notReady, kind := s.reply.kind, payload := [] }

/-- The beginning of a transaction: it is ignored while RESET_N is low, and otherwise shifts out the ready
frame or NOT_READY (R176, R177, R181). -/
def State.beginTransaction (s : State) : State :=
  match s.link with
  | .idle =>
    if s.inReset then { s with link := .ignored }
    else if s.replyIsReady then { s with link := .answering s.reply false }
    else { s with link := .answering s.notReadyReply true }
  | .answering .. | .ignored => s

/-- The 64 bytes of a reply frame (section 9.2, R170). -/
def Reply.bytes (r : Reply) : List Byte := encodeFrame (BitVec.ofNat 8 r.status.code) r.kind r.payload

/-- The byte shifted out at a place of the transaction in progress: of the frame, and 0 after the 64th; none
while LINK_DO is not driven (R168). -/
def State.shiftedOut (s : State) (i : Nat) : Option Byte :=
  match s.link with
  | .answering frame _ => if s.inReset then none else some (frame.bytes.getD i 0)
  | .idle | .ignored => none

/-- The status of a link refusal (R169). -/
def statusOfError : FrameError → Status
  | .badLength => .badLength
  | .badCheck => .badCheck
  | .badKind => .badKind

/-! ### The link's refusals -/

/-- The end of a broken transaction: BAD_LENGTH, with the first byte received as the echoed kind, or 0 (R168). -/
def State.endBroken (s : State) (bytes : List Byte) : State :=
  s.endTransaction fun s =>
    s.putReply { status := .badLength, kind := bytes.headD 0, payload := [] }

/-- The end of a complete transaction whose frame fails a check of R169: the refusal takes the slot. A frame
that passes is a request, and this command none of its kind (log entry 4). -/
def State.endRefused (s : State) (frame : List Byte) : State :=
  match judgeFrame frame with
  | .error e =>
    s.endTransaction fun s =>
      s.putReply { status := statusOfError e, kind := frame.headD 0, payload := [] }
  | .ok _ => s

/-! ### Resets -/

/-- The part after a reset: the reset state, with the cause recorded and the level of STOP_N as it stands; a
STOP_N that is low at the end of the reset counts as an assertion taken then, which on a part whose channels
are disabled leaves the attention cause (R132, R162, R181). The queue of commands is kept. -/
def State.restarted (s : State) (cause : ResetCause) (stopLow : Bool) : State :=
  let fresh : State :=
    { State.reset with
      resetCause := cause, stopLow := stopLow, freeCount := s.freeCount, pending := s.pending }
  if stopLow then fresh.post .stop 0 else fresh

end Sys2Proof.Machine
end

