-- ==== Sys2Proof/Machine/BindingRequests.lean ====
section
/-! DEFINITION. The binding requests (section 5.7) and the seen map's requests (R97): BIND, UNBIND, HOLD,
BINDING LOOKUP, SEEN READ and SEEN CLEAR. -/

namespace Sys2Proof.Machine

open Sys2Proof

/-- A binding request: a subject of 48 or above is refused, and otherwise it names a binding (section 5.7). -/
def onBinding (subject : Byte) (owner : BindingId → Verdict) : Verdict :=
  if h : subject.toNat < 48 then owner ⟨subject.toNat, h⟩ else .no .badSubject

/-! ### BIND -/

/-- How many field codes an owner type has: three for a section, four for a loop (R105). -/
def fieldCodes (ownerType : Nat) : Nat := if ownerType = 0 then 3 else 4

/-- An enumerated field of a BIND payload holds an undefined code, or its do-care flags lie outside the three
defined (R105, step 2). -/
def bindUndefined (p : List Byte) : Bool :=
  undefinedCode p 3 8 || undefinedCode p 4 2 || undefinedCode p 6 (fieldCodes (field8 p 4)) ||
    undefinedCode p 7 2

/-- The destination a BIND payload names, none where its owner index is out of range (R105). -/
def fieldDest (p : List Byte) : Option DestField :=
  let i := field8 p 5
  if field8 p 4 = 0 then
    if h : i < 24 then
      match field8 p 6 with
      | 0 => some (.outlet ⟨i, h⟩)
      | 1 => some (.air ⟨i, h⟩)
      | _ => some (.valve ⟨i, h⟩)
    else none
  else if h : i < 4 then
    match field8 p 6 with
    | 0 => some (.loopFlow ⟨i, h⟩)
    | 1 => some (.loopPressure ⟨i, h⟩)
    | 2 => some (.loopConcentration ⟨i, h⟩)
    | _ => some (.loopAir ⟨i, h⟩)
  else none

/-- The destination of a BIND payload whose pattern kind is the field's kind and whose sub is at most 15; none
where one of these fails (R105, step 4). -/
def bindDest (p : List Byte) : Option DestField :=
  match fieldDest p with
  | some d => if field8 p 0 = (fieldKind d).code ∧ field8 p 2 ≤ 15 then some d else none
  | none => none

/-- The binding a BIND payload carries to a destination, its two limits clamped (R105, step 8). -/
def bindFields (p : List Byte) (d : DestField) : Clamped Binding :=
  let fresh := clampField 2 600 (field16 p 8)
  let hold := clampField 60 3600 (field16 p 10)
  let care := p.getD 3 0
  { value :=
      { kind := fieldKind d, node := p.getD 1 0, sub := field8 p 2, careHigh := care.getLsbD 0,
        careLow := care.getLsbD 1, careSub := care.getLsbD 2, dest := d,
        combine := if field8 p 7 = 0 then .replace else .lowest, freshLimit := fresh.value,
        holdLimit := hold.value }
    changed := fresh.changed || hold.changed }

/-- A binding is HELD (R98). -/
def BindingState.isHeld : BindingState → Bool
  | .held _ => true
  | .empty | .active _ => false

/-- A destination belongs to a section slot that is VACANT or RETIRING (R105, step 6). -/
def State.outOfService (s : State) (d : DestField) : Bool :=
  match fieldSlot d with
  | some n => !(s.sec n).slot.inService
  | none => false

/-- A destination is fed by an ACTIVE or HELD binding other than the one named (R105, step 7). -/
def State.fedByOther (s : State) (b : BindingId) (d : DestField) : Bool :=
  allBindings.any fun i => i != b && (s.binding i).feeds d

/-- The acceptance of BIND (R106): a rebind loses its STALE cause and leaves its former destination AWAITING;
the new destination becomes AWAITING. -/
def State.bindTo (s : State) (b : BindingId) (f : Binding) : State :=
  let former := (s.binding b).fields
  let s := s.setBinding b (.active f)
  let s :=
    match former with
    | some old => (s.dropStale b).makeAwaiting old.dest
    | none => s
  s.makeAwaiting f.dest

/-- BIND, with the checks of R105 in their order. -/
def bindRequest (subject : Byte) (p : List Byte) (s : State) : Verdict :=
  onBinding subject fun b =>
    if bindUndefined p then .no .badKind
    else if p.length ≠ 12 then .no .badLength
    else
      match bindDest p with
      | none => .no .badSubject
      | some d =>
        if (s.binding b).isHeld then .no .occupied
        else if s.outOfService d then .no .vacant
        else if s.fedByOther b d then .no .duplicateDest
        else .okClamped (s.bindTo b (bindFields p d).value) (bindFields p d).changed

/-! ### UNBIND and HOLD -/

/-- UNBIND of an ACTIVE or HELD binding (R107). -/
def State.unbind (s : State) (b : BindingId) : State :=
  match (s.binding b).fields with
  | some f => ((s.setBinding b .empty).dropStale b).makeAwaiting f.dest
  | none => s

/-- UNBIND (R107). -/
def unbindRequest (subject : Byte) (p : List Byte) (s : State) : Verdict :=
  onBinding subject fun b => if p.length ≠ 0 then .no .badLength else .ok (s.unbind b)

/-- HOLD on of an ACTIVE binding (R108). -/
def State.holdBinding (s : State) (b : BindingId) (f : Binding) : State :=
  let s := s.setBinding b (.held f)
  (s.setDest f.dest ((s.dest f.dest).hold (s.expiryIn f.holdLimit))).evalLinesOf f.dest

/-- HOLD off of a HELD binding (R110). -/
def State.releaseBinding (s : State) (b : BindingId) (f : Binding) : State :=
  (s.setBinding b (.active f)).makeAwaiting f.dest

/-- HOLD: the subject, the length and the flag (R108, R110, R174), and then the binding's state. -/
def holdRequest (subject : Byte) (p : List Byte) (s : State) : Verdict :=
  onBinding subject fun b =>
    if p.length ≠ 1 then .no .badLength
    else if undefinedCode p 0 2 then .no .badKind
    else
      match s.binding b, fieldOn p 0 with
      | .empty, _ => .no .vacant
      | .active f, true => .ok (s.holdBinding b f)
      | .held f, false => .ok (s.releaseBinding b f)
      | .active _, false | .held _, true => .ok s

/-! ### BINDING LOOKUP -/

/-- The value and the quality flag of a destination (R111). The value has two bytes whatever its kind, as two's
complement: R171 names no one width for a field that holds values of six kinds (log entry 10). -/
def Stored.bytes (v : Stored) : List Byte := putSigned v.value ++ put8 v.quality.code

/-- A destination as BINDING LOOKUP shows it (R111). -/
def State.destView (s : State) (d : Destination) : List Byte :=
  put8 d.status.code ++ putOption 3 Stored.bytes d.stored ++
    putOption 4 (fun v => put32 v.captured.toNat) d.stored ++ putOption 4 put32 d.staleSince ++
    putOption 2 put16 (s.remaining d.freshTimer) ++ putOption 2 put16 (s.remaining d.combineTimer) ++
    putOption 2 put16 (s.remaining d.holdTimer)

/-- The fields of a binding (R98, R105). -/
def Binding.bytes (f : Binding) : List Byte :=
  put8 f.kind.code ++ [f.node] ++ put8 f.sub ++ put8 f.careByte ++ putDest f.dest ++
    put8 f.combine.code ++ put16 f.freshLimit ++ put16 f.holdLimit

/-- What BINDING LOOKUP shows: the state alone of an EMPTY binding (R111). -/
def State.bindingView (s : State) (b : BindingId) : List Byte :=
  match (s.binding b).fields with
  | none => put8 (s.binding b).code
  | some f => put8 (s.binding b).code ++ f.bytes ++ s.destView (s.dest f.dest)

/-- BINDING LOOKUP (R111). -/
def bindingLookupRequest (subject : Byte) (p : List Byte) (s : State) : Verdict :=
  onBinding subject fun b =>
    if p.length ≠ 0 then .no .badLength else .answer s (s.bindingView b)

/-! ### The seen map -/

/-- The sixteen entries of a group of nodes (R97). -/
def State.seenGroup (s : State) (g : Nat) : List Byte := (s.seen.toList.drop (16 * g)).take 16

/-- SEEN READ (R97). -/
def seenReadRequest (subject : Byte) (p : List Byte) (s : State) : Verdict :=
  if 16 ≤ subject.toNat then .no .badSubject
  else if p.length ≠ 0 then .no .badLength
  else .answer s (s.seenGroup subject.toNat)

/-- SEEN CLEAR (R97). -/
def seenClearRequest (subject : Byte) (p : List Byte) (s : State) : Verdict :=
  if subject.toNat ≠ 0 then .no .badSubject
  else if p.length ≠ 0 then .no .badLength
  else .ok { s with seen := Vector.replicate 256 0 }

/-! ### The commands -/

/-- BIND (R105, R106). -/
def execBind (dt : Nat) (subject : Byte) (payload : List Byte) (s : State) :
    Host.Outcome State Fault Refusal := .next (s.request dt 32 (bindRequest subject payload))

/-- UNBIND (R107). -/
def execUnbind (dt : Nat) (subject : Byte) (payload : List Byte) (s : State) :
    Host.Outcome State Fault Refusal := .next (s.request dt 33 (unbindRequest subject payload))

/-- HOLD on (R108). -/
def execHoldOn (dt : Nat) (subject : Byte) (payload : List Byte) (s : State) :
    Host.Outcome State Fault Refusal := .next (s.request dt 34 (holdRequest subject payload))

/-- HOLD off (R110). -/
def execHoldOff (dt : Nat) (subject : Byte) (payload : List Byte) (s : State) :
    Host.Outcome State Fault Refusal := .next (s.request dt 34 (holdRequest subject payload))

/-- BINDING LOOKUP (R111). -/
def execBindingLookup (dt : Nat) (subject : Byte) (payload : List Byte) (s : State) :
    Host.Outcome State Fault Refusal := .next (s.request dt 35 (bindingLookupRequest subject payload))

/-- SEEN READ (R97). -/
def execSeenRead (dt : Nat) (subject : Byte) (payload : List Byte) (s : State) :
    Host.Outcome State Fault Refusal := .next (s.request dt 36 (seenReadRequest subject payload))

/-- SEEN CLEAR (R97). -/
def execSeenClear (dt : Nat) (subject : Byte) (payload : List Byte) (s : State) :
    Host.Outcome State Fault Refusal := .next (s.request dt 37 (seenClearRequest subject payload))

end Sys2Proof.Machine
end

