-- ==== Sys2Proof/Machine/BusEvents.lean ====
section
/-! DEFINITION. The section bus: the gap that ends a fragment (R89, R93, R94) and the transmitter (R113 to
R115). -/

namespace Sys2Proof.Machine

open Sys2Proof

/-! ### The receiver -/

/-- The time a first fragment after a reset takes: the gap before it, its characters with the silences between
them, and the gap that ends it (R89). -/
def fragmentSpan (chars : List BusChar) : Nat :=
  (chars.length + 4) * unitsPerChar + (chars.tail.map (·.pause)).sum

/-- The receiver accepts the fragment: it has seen a gap since the last reset, or the fragment began at least a
gap after it (R89, log entry 12). -/
def State.hears (s : State) (chars : List BusChar) : Bool :=
  s.receiverSynced || decide (fragmentSpan chars ≤ s.time)

/-- The moment from which the bus has been silent as far as the part knows; one at which it stops sending counts
(R115, log entry 13). -/
def State.silentFrom (s : State) : Nat :=
  match s.transmission.bind (·.stopAt) with
  | some m => max s.busIdleFrom m
  | none => s.busIdleFrom

/-- A fragment has ended in a gap of two character times: the receiver has seen a gap, the bus has been silent
since the fragment's last character, and a transmission that has stopped is over (R89, R115, log entry 13). -/
def State.gap (s : State) : State :=
  { s with
    receiverSynced := true
    busIdleFrom := max s.silentFrom (s.time - 2 * unitsPerChar)
    transmission := if s.sending then s.transmission else none }

/-- The gap that ends a fragment (R89, R93, R94): a telegram is judged and, if valid, arrives. A fragment that
ends while the part transmits, or that contains a character of its own, belongs to the echo check. -/
def State.endFragment (s : State) (chars : List BusChar) : State :=
  if s.sending || chars.any (·.own) || !s.hears chars then s.gap
  else
    match decodeFragment chars with
    | some (.ok t) => s.gap.arrive t
    | some (.error _) | none => s.gap

/-- The gap that ends a fragment (R89). -/
def execFragmentEnd (dt : Nat) (chars : List BusChar) (s : State) : Host.Outcome State Fault Refusal :=
  .next (s.event dt fun s => s.endFragment chars)

/-! ### The transmitter -/

/-- The value a valve command carries (R113). -/
def ValveCommand.value : ValveCommand → BitVec 16
  | .toOpen => 0
  | .toClosed => 1

/-- The telegram of a valve command (R113). -/
def commandTelegram (node : Byte) (c : ValveCommand) : Telegram :=
  { node := node, kind := 5, command := true, sub := 0, value := c.value, quality := 0 }

/-- The transmission of an entry to a node begins: command and node are fixed (R113, R115). -/
def State.beginSending (s : State) (e : QueueEntry) (node : Byte) : State :=
  { s with
    transmission := some
      { slot := e.slot, command := e.command, node := node,
        telegram := encodeTelegram (commandTelegram node e.command), began := s.time, stopAt := none } }

/-- The entry at the front is sent once the bus has been silent for 3 character times (R115). There is none to
send on an empty queue or while one is being sent (log entry 4). -/
def State.beginTransmission (s : State) : State :=
  match s.txQueue.head? with
  | some e =>
    match (s.sec e.slot).config.valveNode with
    | some node =>
      if s.transmission.any (·.stopAt.isNone) then s
      else (s.runTo (s.silentFrom + 3 * unitsPerChar)).beginSending e node
    | none => s
  | none => s

/-- The beginning of a transmission (R115). -/
def execTransmissionBegin (dt : Nat) (s : State) : Host.Outcome State Fault Refusal :=
  .next (s.event dt State.beginTransmission)

/-- How a transmission ended (R115). -/
inductive EchoResult where
  | transmitted | dropped
  deriving DecidableEq, Repr

/-- The echo check: every character reads back as sent, with its stop bit (R115). -/
def Transmission.echo (t : Transmission) (readBack : List BusChar) : EchoResult :=
  if readBack.map (·.byte) = t.telegram ∧ readBack.all (·.stopOk) then .transmitted else .dropped

/-- How many characters were sent: up to the first that did not read back as sent, with its stop bit, or all
(R115). -/
def echoLength : List Byte → List BusChar → Nat
  | sent :: telegram, read :: readBack =>
    if read.byte = sent ∧ read.stopOk then echoLength telegram readBack + 1 else 1
  | _ :: _, [] => 1
  | [], _ => 0

/-- The moment a transmission ends: the end of the last character sent (R115). -/
def Transmission.endsAt (t : Transmission) (readBack : List BusChar) : Nat :=
  t.began + echoLength t.telegram readBack * unitsPerChar

/-- The front entry leaves the queue if its command is the one sent, and stays with its new command otherwise;
one replaced and replaced back leaves (log entry 24). An OPEN entry that leaves meets the valve drain condition
of a RETIRING slot (R25, R115). -/
def State.settleEntry (s : State) (t : Transmission) : State :=
  match s.txQueue with
  | [] => s
  | e :: rest =>
    if e.slot = t.slot ∧ e.command = t.command then
      let s := { s with txQueue := rest }
      match t.command with
      | .toOpen => s.meetValveDrain t.slot
      | .toClosed => s
    else s

/-- The end of a transmission (R115), no earlier than that of its last character: a transmitted entry and a
dropped one leave the queue alike; for a removed one nothing more is done (log entry 13). -/
def State.endTransmission (s : State) (t : Transmission) (readBack : List BusChar) : State :=
  match t.stopAt with
  | some m =>
    let s := s.runTo m
    { s with transmission := none, busIdleFrom := s.silentFrom }
  | none =>
    let s := s.runTo (t.endsAt readBack)
    let s := { s with transmission := none, busIdleFrom := s.time }
    match t.echo readBack with
    | .transmitted => s.settleEntry t
    | .dropped => s.settleEntry t

/-- The end of a transmission (R115); none where there is none in progress (log entry 4). -/
def execTransmissionEnd (dt : Nat) (readBack : List BusChar) (s : State) :
    Host.Outcome State Fault Refusal :=
  .next
    (match s.transmission with
     | some t => s.event dt fun s => s.endTransmission t readBack
     | none => s)

end Sys2Proof.Machine
end

