-- ==== Sys2Proof/Machine/ChannelEvents.lean ====
section
/-! DEFINITION. The drive channels' events: ramp expiries (R81, R128), period boundaries (R124) and ticks of the
channel clocks (R118, R121, R122, R125). -/

namespace Sys2Proof.Machine

open Sys2Proof

/-! ### Ramps -/

/-- The ramp's step upward: the lower of the target and the value plus the rise step (R81, R128). -/
def rampUp (value target rise : Nat) : Nat := min target (value + rise)

/-- The ramp's step downward: the larger of the target and the value minus the fall step (R81, R128). -/
def rampDown (value target fall : Nat) : Nat := max target (value - fall)

/-- R after a ramp expiry (R128). -/
def nextRamp (c : SectionConfig) (value target : Nat) : Nat :=
  if value < target then rampUp value target c.riseStep
  else if target < value then
    match c.lowering with
    | .drop => target
    | .slew => rampDown value target c.fallStep
  else value

/-- The ramp target of a section (R128). -/
def SectionRecord.rampTarget (r : SectionRecord) : Nat := min r.hostDemand r.active.fan

/-- Expiry of a fan channel's ramp timer: the timer starts again, R moves unless the stop input is asserted, and
the channel restages (R128, R132). -/
def State.expireFanRamp (s : State) (n : Slot) : State :=
  match (s.fan n).rampTimer with
  | some t =>
    let s := s.runTo t
    let r := s.sec n
    (s.modFan n fun f =>
      { f with
        ramp := if s.stopLow then f.ramp else nextRamp r.config f.ramp r.rampTarget
        rampTimer := some (s.time + unitsPerRamp) }).restage n
  | none => s

/-- Expiry of a fan channel's ramp timer (R128). -/
def execFanRampExpiry (n : Slot) (s : State) : Host.Outcome State Fault Refusal :=
  .next (s.occur fun s => s.expireFanRamp n)

/-- Rp after a ramp expiry (R81). -/
def nextPumpRamp (c : LoopConfig) (value demand : Nat) : Nat :=
  if value < demand then rampUp value demand c.riseStep
  else if demand < value then rampDown value demand c.fallStep
  else value

/-- Expiry of a pump channel's ramp timer: the timer starts again, Rp moves, and the staged pump duty is decided
again (R81). -/
def State.expirePumpRamp (s : State) (l : LoopId) : State :=
  match (s.loopRec l).rampTimer with
  | some t =>
    let s := s.runTo t
    (s.modLoop l fun r =>
      { r with
        ramp := nextPumpRamp r.config r.ramp r.hostDemand
        rampTimer := some (s.time + unitsPerRamp) }).decidePump l
  | none => s

/-- Expiry of a pump channel's ramp timer (R81). -/
def execPumpRampExpiry (l : LoopId) (s : State) : Host.Outcome State Fault Refusal :=
  .next (s.occur fun s => s.expirePumpRamp l)

/-! ### Period boundaries -/

/-- A period boundary of a fan channel; the duty it takes into force may meet a retirement's fan condition (R26,
R124). A disabled channel has none. -/
def State.fanBoundary (s : State) (n : Slot) : State :=
  if (s.fan n).gen.enabled then
    (s.modFan n fun f => { f with gen := f.gen.boundary.drive (s.fanActiveLow n) }).checkFanDrain n
  else s

/-- A period boundary of a pump channel (R124). A disabled channel has none. -/
def State.pumpBoundary (s : State) (l : LoopId) : State :=
  if (s.pump l).enabled then s.modPump l fun c => c.boundary.drive (s.pumpActiveLow l) else s

/-- A period boundary of a channel. -/
def State.boundaryOf (s : State) : ChannelRef → State
  | .fan n => s.fanBoundary n
  | .pump l => s.pumpBoundary l

/-- A period boundary of a channel, at a moment the command's time gives (R124, log entry 7). -/
def execPeriodBoundary (dt : Nat) (c : ChannelRef) (s : State) : Host.Outcome State Fault Refusal :=
  .next (s.event dt fun s => s.boundaryOf c)

/-! ### Ticks -/

/-- The prescale of a code (R118). -/
def prescaleOf (code : Fin 8) : Nat := 2 ^ code.val

/-- The time between two ticks of a channel clock (R118). -/
def State.tickInterval (s : State) : ClockGroup → Nat
  | .fans => prescaleOf s.drive.fanPrescale * unitsPerCycle
  | .pumps => prescaleOf s.drive.pumpPrescale * unitsPerCycle

/-- The first moment, from a given one on, at which a clock of a given interval ticks (R118). A tick given at a moment
at which the clock has just ticked is one more tick (log entry 7). -/
def tickMoment (moment interval : Nat) : Nat := (moment + interval - 1) / interval * interval

/-- A tick reaches one fan channel: it counts, or takes a period boundary (R121, R122, R124, R125). -/
def State.tickFan (s : State) (n : Slot) : State :=
  let due := (s.fan n).gen.enabled && (s.fan n).gen.boundaryNext s.drive.fanAlign
  let s := s.modFan n fun f => { f with gen := f.gen.tick s.drive.fanAlign (s.fanActiveLow n) }
  if due then s.checkFanDrain n else s

/-- A tick reaches one pump channel (R121, R122, R124, R125). -/
def State.tickPump (s : State) (l : LoopId) : State :=
  s.modPump l fun c => c.tick s.drive.pumpAlign (s.pumpActiveLow l)

/-- A tick reaches every channel of its group (R118). -/
def State.tickGroup (s : State) : ClockGroup → State
  | .fans => allSlots.foldl State.tickFan s
  | .pumps => allLoops.foldl State.tickPump s

/-- A tick of a channel clock, at the next moment its prescale gives (R118, log entry 7). -/
def execChannelClockTick (dt : Nat) (g : ClockGroup) (s : State) : Host.Outcome State Fault Refusal :=
  .next (s.event dt fun s => (s.runTo (tickMoment s.time (s.tickInterval g))).tickGroup g)

end Sys2Proof.Machine
end

