-- ==== Sys2Proof/Config.lean ====
section
/-! DEFINITION. What the manual leaves open: values that no rule of spec/ states. Each is an opaque
constant, so nothing can be proved of it, and a statement that holds here holds whatever the part sends
(log entry 3). -/

namespace Sys2Proof

/-- A reply byte whose value no rule states: the level byte of NEXT ATTENTION on an empty set (R166),
the parameter bytes of SEARCH LOOKUP before any search has started (R135 gives none), and the two
positions of an empty suspect range (R155). The argument is `State.freeCount` plus the byte's place. -/
opaque Config.freeByte : Nat → Byte

end Sys2Proof
end

