-- ==== Sys2Proof/Machine/LineRequests.lean ====
section
/-! DEFINITION. The requests of the clear lines (R159, R160), of the isolation search (R137, R150, R155) and
of the attention set (R166, R167). -/

namespace Sys2Proof.Machine

open Sys2Proof

/-! ### Clear lines -/

/-- A clear-line request: a subject of 4 or above is refused, and otherwise it names a line (R159, R160). -/
def onLine (subject : Byte) (owner : LineId → Verdict) : Verdict :=
  if h : subject.toNat < 4 then owner ⟨subject.toNat, h⟩ else .no .badSubject

/-- The acceptance of CLEAR LINE SET: the line released and its timer stopped, the mask and the delay code
replaced, and the condition evaluated as one that was false before (R159). -/
def State.setLine (s : State) (k : LineId) (mask : BitVec 24) (delayCode : Fin 8) : State :=
  (s.modLine k fun _ =>
    { mask := mask, delayCode := delayCode, timer := none, state := .released }).evalLine k

/-- CLEAR LINE SET, with the checks of R159 in their order. -/
def clearLineSetRequest (subject : Byte) (p : List Byte) (s : State) : Verdict :=
  onLine subject fun k =>
    if undefinedCode p 3 8 then .no .badKind
    else if p.length ≠ 4 then .no .badLength
    else if (maskSlots (fieldMask p 0)).any fun n => !(s.sec n).slot.inService then .no .vacant
    else .ok (s.setLine k (fieldMask p 0) ⟨field8 p 3 % 8, Nat.mod_lt _ (by decide)⟩)

/-- What CLEAR LINE LOOKUP shows (R160). -/
def State.lineView (s : State) (k : LineId) : List Byte :=
  let c := s.line k
  putMask c.mask ++ put8 c.delayCode.val ++ put8 c.state.code ++ putBool (s.maskSafe c.mask) ++
    putOption 2 put16 (s.remaining c.timer) ++ putMask (slotMask (s.failingSet c.mask))

/-- CLEAR LINE LOOKUP (R160). -/
def clearLineLookupRequest (subject : Byte) (p : List Byte) (s : State) : Verdict :=
  onLine subject fun k => if p.length ≠ 0 then .no .badLength else .answer s (s.lineView k)

/-! ### The isolation search -/

/-- SEARCH START, with the checks of R137 in their order. -/
def searchStartRequest (subject : Byte) (p : List Byte) (s : State) : Verdict :=
  if h : subject.toNat < 4 then
    let l : LoopId := ⟨subject.toNat, h⟩
    if p.length ≠ 0 then .no .badLength
    else if !(s.loopRec l).isSet then .no .loopUnset
    else if s.search.state ≠ .idle then .no .busy
    else if (s.candidateList l).isEmpty then .no .noCandidates
    else .accept (s.startSearch l) .accepted []
  else .no .badSubject

/-- The effect of SEARCH STOP by the state of the search (R150): from HELD the unit is released with FOUND kept
and no SEARCH_END, and the leak monitor goes on with its window. -/
def State.stopSearch (s : State) : State :=
  match s.search.state with
  | .idle => s
  | .held => s.release.modSearch SearchContext.toIdle
  | .settling | .observing | .resting | .suspended => s.endSearch .stopped

/-- SEARCH STOP (R150). -/
def searchStopRequest (subject : Byte) (p : List Byte) (s : State) : Verdict :=
  if subject.toNat ≠ 0 then .no .badSubject
  else if p.length ≠ 0 then .no .badLength
  else .ok s.stopSearch

/-- A byte whose value no rule states (log entry 3). -/
def State.freeByte (s : State) (i : Nat) : Byte := Config.freeByte (s.freeCount + i)

/-- The next free values differ from those drawn here. -/
def State.drawFree (s : State) (n : Nat) : State := { s with freeCount := s.freeCount + n }

/-- The parameters of the search's copy; no rule gives them before the first start (R135, R155). -/
def State.paramsView (s : State) : List Byte :=
  match s.search.params with
  | some p => p.bytes
  | none => (List.range 11).map s.freeByte

/-- The positions of the suspect range's first unit and of the unit after its last; no rule gives them for an
empty range (R155). -/
def State.rangeView (s : State) : List Byte :=
  if s.search.rangeLo < s.search.rangeHi then put8 s.search.rangeLo ++ put8 s.search.rangeHi
  else [s.freeByte 11, s.freeByte 12]

/-- The candidate list as a count, the leads and the followers (R171). -/
def SearchContext.listView (c : SearchContext) : List Byte :=
  put8 c.candidates.length ++ putMask (slotMask (c.candidates.map (·.lead))) ++
    putMask (slotMask (c.candidates.filterMap (·.follower)))

/-- The pressure of a capture, 0 where it is absent (R155). -/
def pressureOf (c : Option PressureCapture) : Int :=
  match c with
  | some c => c.pressure
  | none => 0

/-- The observation window as SEARCH LOOKUP carries it (R155). -/
def CaptureWindow.view (w : CaptureWindow) : List Byte :=
  put16 w.count ++ putSigned (pressureOf w.first) ++ putSigned (pressureOf w.last) ++ put16 w.span

/-- The sections of the held unit, none where there is none (R155). -/
def SearchContext.heldSlots (c : SearchContext) : List Slot :=
  match c.heldUnit with
  | some u => u.members
  | none => []

/-- What SEARCH LOOKUP shows: 58 bytes (R155). -/
def State.searchView (s : State) : List Byte :=
  let c := s.search
  put8 c.state.code ++ putOption 1 (fun p => put8 p.code) c.phase ++
    putOption 1 (fun l => put8 l.val) c.loopOf ++ s.paramsView ++ c.listView ++ s.rangeView ++
    putMask (slotMask c.isolated) ++ putMask (slotMask c.wait) ++ put8 c.steps ++ put8 c.repeats ++
    put8 c.preemptions ++ put8 c.restartsUsed ++ putOption 2 put16 (s.remaining c.phaseTimer) ++
    putOption 2 put16 (s.remaining c.deadline) ++ c.window.view ++ putOption 4 put32 c.lastRate ++
    putMask (slotMask c.heldSlots) ++ put8 c.result.code

/-- SEARCH LOOKUP (R155). -/
def searchLookupRequest (subject : Byte) (p : List Byte) (s : State) : Verdict :=
  if subject.toNat ≠ 0 then .no .badSubject
  else if p.length ≠ 0 then .no .badLength
  else .answer (s.drawFree 13) s.searchView

/-! ### The attention set -/

/-- NEXT ATTENTION (R166): the first pair leaves the set and is returned; an empty set answers kind 0, subject 0
and 0 left, with a level that no rule gives. -/
def nextAttentionRequest (subject : Byte) (p : List Byte) (s : State) : Verdict :=
  if subject.toNat ≠ 0 then .no .badSubject
  else if p.length ≠ 0 then .no .badLength
  else
    match s.firstCause with
    | some c =>
      let after := s.dropCauses (· == c)
      .answer after
        (put8 c.kind.code ++ put8 c.subject ++ put8 (s.levelOf c.kind).code ++
          put8 after.attention.length)
    | none => .answer (s.drawFree 1) (put8 0 ++ put8 0 ++ [s.freeByte 0] ++ put8 0)

/-- The twelve levels, in kind order (R167). -/
def State.levelsView (s : State) : List Byte := s.levels.toList.flatMap fun l => put8 l.code

/-- The level of a code. -/
def levelOfCode (b : Byte) : CauseLevel := if b.toNat = 0 then .high else .low

/-- The levels an ATTENTION LEVELS payload carries. -/
def fieldLevels (p : List Byte) : Vector CauseLevel 12 := tabMk fun i => levelOfCode (p.getD i.val 0)

/-- ATTENTION LEVELS (R167): whatever its status, the reply carries the levels as they stand after it. -/
def attentionLevelsRequest (subject : Byte) (p : List Byte) (s : State) : Verdict :=
  if subject.toNat ≠ 0 then .refuse .badSubject s.levelsView
  else if p.length = 0 then .answer s s.levelsView
  else if p.length ≠ 12 then .refuse .badLength s.levelsView
  else if p.any fun b => 2 ≤ b.toNat then .refuse .badKind s.levelsView
  else
    let after := { s with levels := fieldLevels p }
    .answer after after.levelsView

/-! ### The commands -/

/-- CLEAR LINE SET (R159). -/
def execClearLineSet (dt : Nat) (subject : Byte) (payload : List Byte) (s : State) :
    Host.Outcome State Fault Refusal := .next (s.request dt 48 (clearLineSetRequest subject payload))

/-- CLEAR LINE LOOKUP (R160). -/
def execClearLineLookup (dt : Nat) (subject : Byte) (payload : List Byte) (s : State) :
    Host.Outcome State Fault Refusal := .next (s.request dt 49 (clearLineLookupRequest subject payload))

/-- SEARCH START (R137). -/
def execSearchStart (dt : Nat) (subject : Byte) (payload : List Byte) (s : State) :
    Host.Outcome State Fault Refusal := .next (s.request dt 64 (searchStartRequest subject payload))

/-- SEARCH STOP (R150). -/
def execSearchStop (dt : Nat) (subject : Byte) (payload : List Byte) (s : State) :
    Host.Outcome State Fault Refusal := .next (s.request dt 65 (searchStopRequest subject payload))

/-- SEARCH LOOKUP (R155). -/
def execSearchLookup (dt : Nat) (subject : Byte) (payload : List Byte) (s : State) :
    Host.Outcome State Fault Refusal := .next (s.request dt 66 (searchLookupRequest subject payload))

/-- NEXT ATTENTION (R166). -/
def execNextAttention (dt : Nat) (subject : Byte) (payload : List Byte) (s : State) :
    Host.Outcome State Fault Refusal := .next (s.request dt 80 (nextAttentionRequest subject payload))

/-- ATTENTION LEVELS (R167). -/
def execAttentionLevels (dt : Nat) (subject : Byte) (payload : List Byte) (s : State) :
    Host.Outcome State Fault Refusal := .next (s.request dt 81 (attentionLevelsRequest subject payload))

end Sys2Proof.Machine
end

