-- ==== Sys2Proof/Machine/LinkEvents.lean ====
section
/-! DEFINITION. The events of the request link that carry no request: the beginning of a transaction, the ends
of transactions that take none, and a reply becoming ready (R168, R169, R176, R177). -/

namespace Sys2Proof.Machine

open Sys2Proof

/-- The falling edge of LINK_SEL_N (R168, R176, R177). -/
def execTransactionBegin (dt : Nat) (s : State) : Host.Outcome State Fault Refusal :=
  .next (s.advance dt).beginTransaction

/-- The end of a broken transaction (R168). A transaction of exactly 64 bytes is none (log entry 4). -/
def execBrokenTransaction (dt : Nat) (bytes : List Byte) (extra : Nat) (s : State) :
    Host.Outcome State Fault Refusal :=
  .next (if bytes.length = 64 ∧ extra = 0 then s else (s.advance dt).endBroken bytes)

/-- The end of a complete transaction whose frame the link refuses (R169). Anything but 64 bytes is none (log
entry 4). -/
def execFrameRefused (dt : Nat) (frame : List Byte) (s : State) : Host.Outcome State Fault Refusal :=
  .next (if frame.length = 64 then (s.advance dt).endRefused frame else s)

/-- The end of a transaction that was answered NOT_READY, or that the part ignored: nothing is judged or taken
(R177, R181). -/
def State.endUnjudged (s : State) (dt : Nat) : State :=
  match s.link with
  | .answering _ true | .ignored => { s.advance dt with link := .idle }
  | .idle | .answering _ false => s

/-- The end of a transaction answered NOT_READY (R177). -/
def execNotReadyTransactionEnd (dt : Nat) (s : State) : Host.Outcome State Fault Refusal :=
  .next (s.endUnjudged dt)

/-- The pending frame becomes ready (R176). -/
def execReplyReady (s : State) : Host.Outcome State Fault Refusal :=
  .next (s.occur fun s => s.runTo s.readyAt)

end Sys2Proof.Machine
end

