-- ==== Sys2Proof/Machine/LoopRequests.lean ====
section
/-! DEFINITION. The loop requests (section 4.2, 4.3): LOOP SET, LOOP LOOKUP, PUMP DEMAND, CURVE LOAD and
CURVE LOOKUP. -/

namespace Sys2Proof.Machine

open Sys2Proof

/-- A loop request: a subject of 4 or above is refused, and otherwise it names a loop (R68, R72, R73). -/
def onLoop (subject : Byte) (owner : LoopId → Verdict) : Verdict :=
  if h : subject.toNat < 4 then owner ⟨subject.toNat, h⟩ else .no .badSubject

/-! ### LOOP SET -/

/-- An UNSET loop becomes SET (R69): its regime MILD from now on, its live fields at their first values, its
pump channel enabled, and its first leak window begun. -/
def State.becomeSet (s : State) (l : LoopId) (c : LoopConfig) : State :=
  let s := s.modLoop l fun r =>
    { r with
      isSet := true, config := c, regime := .mild, regimeEntry := s.partTime, coldest := none,
      hostDemand := 0, ramp := 0, rampTimer := some (s.time + unitsPerRamp), lastResult := .none,
      autoOutcome := .none }
  let s := s.modPump l fun _ => Channel.enable (s.pumpDuty l) c.period (s.pumpActiveLow l)
  s.beginWindow l

/-- LOOP SET of GLYCOL (R69, R70). -/
def loopSetGlycol (l : LoopId) (p : List Byte) (s : State) : Verdict :=
  if undefinedCode p 1 2 then .no .badKind
  else if p.length ≠ 6 then .no .badLength
  else
    let r := s.loopRec l
    let conc := clampField 0 600 (field16 p 2)
    let air := clampSigned (-5000) 0 (fieldSigned p 4)
    let c : LoopConfig :=
      { r.config with
        curve := if field8 p 1 = 0 then .a else .b, concentration := conc.value, frostAir := air.value }
    .okClamped (if r.isSet then s.modLoop l fun r => { r with config := c } else s.becomeSet l c)
      (conc.changed || air.changed)

/-- LOOP SET of REGIME: the exit temperature stands at least 100 above the entry temperature (R68, R70). -/
def loopSetRegime (l : LoopId) (p : List Byte) (s : State) : Verdict :=
  if p.length ≠ 7 then .no .badLength
  else if !(s.loopRec l).isSet then .no .loopUnset
  else
    let entry := clampSigned (-5000) 0 (fieldSigned p 1)
    let leave := clampSigned (-5000) 1000 (fieldSigned p 3)
    let dwell := clampField 0 3600 (field16 p 5)
    if leave.value < entry.value + 100 then .no .order
    else
      .okClamped
        (s.modLoop l fun r =>
          { r with
            config :=
              { r.config with
                frostEntry := entry.value, frostExit := leave.value, dwell := dwell.value } })
        (entry.changed || leave.changed || dwell.changed)

/-- LOOP SET of PUMP: the staged pump duty is decided again at once, and the period is staged (R70). -/
def loopSetPump (l : LoopId) (p : List Byte) (s : State) : Verdict :=
  if p.length ≠ 7 then .no .badLength
  else if !(s.loopRec l).isSet then .no .loopUnset
  else
    let rise := clampField 1 64 (field8 p 4)
    let fall := clampField 1 64 (field8 p 5)
    let s := s.modLoop l fun r =>
      { r with
        config :=
          { r.config with
            frostFloor := field8 p 1, defendFloor := field8 p 2, stopDuty := field8 p 3,
            riseStep := rise.value, fallStep := fall.value, period := field8 p 6 } }
    let s := s.modPump l fun c => { c with stagedPeriod := field8 p 6 }
    .okClamped (s.decidePump l) (rise.changed || fall.changed)

/-- LOOP SET of LEAK: the quiet threshold stays below the suspect threshold (R68, R70). -/
def loopSetLeak (l : LoopId) (p : List Byte) (s : State) : Verdict :=
  if undefinedCode p 5 2 then .no .badKind
  else if p.length ≠ 6 then .no .badLength
  else if !(s.loopRec l).isSet then .no .loopUnset
  else
    let window := clampField 60 3600 (field16 p 1)
    let suspect := clampField 1 2000 (field16 p 3)
    if suspect.value ≤ (s.loopRec l).config.search.quiet then .no .order
    else
      .okClamped
        (s.modLoop l fun r =>
          { r with
            config :=
              { r.config with
                leakWindow := window.value, suspect := suspect.value, autoSearch := fieldOn p 5 } })
        (window.changed || suspect.changed)

/-- LOOP SET of SEARCH (R68, R70). -/
def loopSetSearch (l : LoopId) (p : List Byte) (s : State) : Verdict :=
  if p.length ≠ 12 then .no .badLength
  else if !(s.loopRec l).isSet then .no .loopUnset
  else
    let settle := clampField 10 600 (field16 p 1)
    let observe := clampField 30 1800 (field16 p 3)
    let rest := clampField 0 600 (field16 p 5)
    let quiet := clampField 0 2000 (field16 p 7)
    let floor := clampField 0 5000 (field16 p 9)
    let restarts := clampField 0 3 (field8 p 11)
    if (s.loopRec l).config.suspect ≤ quiet.value then .no .order
    else
      .okClamped
        (s.modLoop l fun r =>
          { r with
            config :=
              { r.config with
                search :=
                  { settle := settle.value, observe := observe.value, rest := rest.value,
                    quiet := quiet.value, floor := floor.value, restarts := restarts.value } } })
        (settle.changed || observe.changed || rest.changed || quiet.changed || floor.changed ||
          restarts.changed)

/-- Some section slot is STARTING, LIVE or RETIRING with a loop as its loop (R71). -/
def State.loopHasMembers (s : State) (l : LoopId) : Bool := allSlots.any fun n => (s.sec n).memberOf l

/-- A SET loop is unset (R71): its record returns to the values of R67, its pump channel is disabled, its leak
window is abandoned, and its causes are removed; its destination fields stay. -/
def State.unsetLoop (s : State) (l : LoopId) : State :=
  let s := s.modLoop l fun r =>
    { LoopRecord.afterReset with
      flow := r.flow, pressure := r.pressure, concentration := r.concentration, air := r.air }
  let s := s.modPump l fun _ => Channel.disable LoopConfig.defaults.period (s.pumpActiveLow l)
  s.dropLoopCauses l

/-- LOOP SET of UNSET (R68, R71). -/
def loopSetUnset (l : LoopId) (p : List Byte) (s : State) : Verdict :=
  if p.length ≠ 1 then .no .badLength
  else if !(s.loopRec l).isSet then .ok s
  else if s.loopHasMembers l || (s.search.state != .idle && s.search.loopOf == some l) then .no .busy
  else .ok (s.unsetLoop l)

/-- LOOP SET: the subject, the group code and then the group's own checks (R68). A payload without a group code
has the wrong length (log entry 10). -/
def loopSetRequest (subject : Byte) (p : List Byte) (s : State) : Verdict :=
  onLoop subject fun l =>
    match p.head?.map BitVec.toNat with
    | none => .no .badLength
    | some 0 => loopSetGlycol l p s
    | some 1 => loopSetRegime l p s
    | some 2 => loopSetPump l p s
    | some 3 => loopSetLeak l p s
    | some 4 => loopSetSearch l p s
    | some 5 => loopSetUnset l p s
    | some _ => .no .badKind

/-! ### LOOP LOOKUP -/

/-- The code of a loop state: UNSET 0, SET 1 (R66). -/
def LoopRecord.stateCode (r : LoopRecord) : Nat := r.isSet.toNat

/-- The CONFIG view of a SET loop (R67, R72). -/
def LoopRecord.configView (r : LoopRecord) : List Byte :=
  let c := r.config
  put8 r.stateCode ++ put8 c.curve.code ++ put16 c.concentration ++ putSigned c.frostAir ++
    putSigned c.frostEntry ++ putSigned c.frostExit ++ put16 c.dwell ++ put8 c.frostFloor ++
    put8 c.defendFloor ++ put8 c.stopDuty ++ put8 c.riseStep ++ put8 c.fallStep ++ put8 c.period ++
    put16 c.leakWindow ++ put16 c.suspect ++ put8 (onCode c.autoSearch) ++ c.search.bytes

/-- How many member sections of a loop meet a condition; members are STARTING, LIVE and RETIRING (R72, log entry
15). -/
def State.countMembers (s : State) (l : LoopId) (p : SectionRecord → Bool) : Nat :=
  (allSlots.filter fun n => (s.sec n).memberOf l && p (s.sec n)).length

/-- A pressure capture: its pressure and its part time. -/
def PressureCapture.bytes (c : PressureCapture) : List Byte := putSigned c.pressure ++ put32 c.taken.toNat

/-- The last window result: one byte of code and four of rate (R72). -/
def WindowResult.bytes : WindowResult → List Byte
  | .none => put8 0 ++ put32 0
  | .invalid => put8 1 ++ put32 0
  | .rate v => put8 2 ++ put32 v

/-- The LIVE view of a SET loop (R72). -/
def State.loopLiveView (s : State) (l : LoopId) : List Byte :=
  let r := s.loopRec l
  let g := s.pump l
  put8 r.stateCode ++ put8 r.regime.code ++ put32 r.regimeEntry.toNat ++ putOption 2 putSigned r.coldest ++
    put8 r.hostDemand ++ put8 r.ramp ++ put8 g.stagedDuty ++ put8 g.dutyInForce ++
    put8 (s.countMembers l fun m => m.slot == .starting) ++
    put8 (s.countMembers l fun m => m.slot == .live) ++
    put8 (s.countMembers l fun m => m.slot == .retiring) ++
    put8 (s.countMembers l fun m => m.protection == .defend) ++
    put8 (s.countMembers l fun m => m.protection == .tripped) ++ put16 r.leakWindow.count ++
    putOption 6 PressureCapture.bytes r.leakWindow.first ++
    putOption 6 PressureCapture.bytes r.leakWindow.last ++ putOption 4 put32 r.leakTimer ++
    r.lastResult.bytes ++ put8 r.autoOutcome.code

/-- LOOP LOOKUP: an UNSET loop shows its state alone (R72). -/
def loopLookupRequest (subject : Byte) (p : List Byte) (s : State) : Verdict :=
  onLoop subject fun l =>
    if p.length ≠ 1 then .no .badLength
    else if undefinedCode p 0 2 then .no .badKind
    else if !(s.loopRec l).isSet then .answer s (put8 (s.loopRec l).stateCode)
    else if field8 p 0 = 0 then .answer s (s.loopRec l).configView
    else .answer s (s.loopLiveView l)

/-! ### PUMP DEMAND, CURVE LOAD and CURVE LOOKUP -/

/-- PUMP DEMAND (R73). -/
def pumpDemandRequest (subject : Byte) (p : List Byte) (s : State) : Verdict :=
  onLoop subject fun l =>
    if p.length ≠ 1 then .no .badLength
    else if !(s.loopRec l).isSet then .no .loopUnset
    else .ok (s.modLoop l fun r => { r with hostDemand := field8 p 0 })

/-- The nine points a CURVE LOAD carries. -/
def fieldCurve (p : List Byte) : Vector Int 9 := tabMk fun i => fieldSigned p (2 * i.val)

/-- A curve's points lie in -6000 to 0 and none is higher than the point before it (R74, R75). -/
def curveOrdered (c : Vector Int 9) : Bool :=
  (List.finRange 9).all (fun i => decide (-6000 ≤ tabGet c i) && decide (tabGet c i ≤ 0)) &&
    (List.finRange 8).all fun i => decide (tabGet c i.succ ≤ tabGet c i.castSucc)

/-- CURVE LOAD (R75). -/
def curveLoadRequest (subject : Byte) (p : List Byte) (s : State) : Verdict :=
  if 2 ≤ subject.toNat then .no .badSubject
  else if p.length ≠ 18 then .no .badLength
  else if !curveOrdered (fieldCurve p) then .no .order
  else if subject.toNat = 0 then .ok { s with curveA := fieldCurve p }
  else .ok { s with curveB := fieldCurve p }

/-- CURVE LOOKUP (R76). -/
def curveLookupRequest (subject : Byte) (p : List Byte) (s : State) : Verdict :=
  if 2 ≤ subject.toNat then .no .badSubject
  else if p.length ≠ 0 then .no .badLength
  else
    let c := if subject.toNat = 0 then s.curveA else s.curveB
    .answer s (c.toList.flatMap putSigned)

/-! ### The commands -/

/-- LOOP SET of GLYCOL (R69). -/
def execLoopSetGlycol (dt : Nat) (subject : Byte) (payload : List Byte) (s : State) :
    Host.Outcome State Fault Refusal := .next (s.request dt 16 (loopSetRequest subject payload))

/-- LOOP SET of REGIME (R70). -/
def execLoopSetRegime (dt : Nat) (subject : Byte) (payload : List Byte) (s : State) :
    Host.Outcome State Fault Refusal := .next (s.request dt 16 (loopSetRequest subject payload))

/-- LOOP SET of PUMP (R70). -/
def execLoopSetPump (dt : Nat) (subject : Byte) (payload : List Byte) (s : State) :
    Host.Outcome State Fault Refusal := .next (s.request dt 16 (loopSetRequest subject payload))

/-- LOOP SET of LEAK (R70). -/
def execLoopSetLeak (dt : Nat) (subject : Byte) (payload : List Byte) (s : State) :
    Host.Outcome State Fault Refusal := .next (s.request dt 16 (loopSetRequest subject payload))

/-- LOOP SET of SEARCH (R70). -/
def execLoopSetSearch (dt : Nat) (subject : Byte) (payload : List Byte) (s : State) :
    Host.Outcome State Fault Refusal := .next (s.request dt 16 (loopSetRequest subject payload))

/-- LOOP SET of UNSET (R71). -/
def execLoopSetUnset (dt : Nat) (subject : Byte) (payload : List Byte) (s : State) :
    Host.Outcome State Fault Refusal := .next (s.request dt 16 (loopSetRequest subject payload))

/-- LOOP LOOKUP (R72). -/
def execLoopLookup (dt : Nat) (subject : Byte) (payload : List Byte) (s : State) :
    Host.Outcome State Fault Refusal := .next (s.request dt 17 (loopLookupRequest subject payload))

/-- PUMP DEMAND (R73). -/
def execPumpDemand (dt : Nat) (subject : Byte) (payload : List Byte) (s : State) :
    Host.Outcome State Fault Refusal := .next (s.request dt 18 (pumpDemandRequest subject payload))

/-- CURVE LOAD (R75). -/
def execCurveLoad (dt : Nat) (subject : Byte) (payload : List Byte) (s : State) :
    Host.Outcome State Fault Refusal := .next (s.request dt 19 (curveLoadRequest subject payload))

/-- CURVE LOOKUP (R76). -/
def execCurveLookup (dt : Nat) (subject : Byte) (payload : List Byte) (s : State) :
    Host.Outcome State Fault Refusal := .next (s.request dt 20 (curveLookupRequest subject payload))

end Sys2Proof.Machine
end

