-- ==== Sys2Proof/Machine/PartRequests.lean ====
section
/-! DEFINITION. The part requests (section 9.5, R119): NULL, PART STATUS, PART CONFIGURE and FULL RESET. -/

namespace Sys2Proof.Machine

open Sys2Proof

/-- NULL, whatever its subject and length (R178). -/
def nullRequest (s : State) : Verdict := .ok s

/-- Slots that are STARTING, LIVE or RETIRING (R179). -/
def State.enrolledSlots (s : State) : List Slot := allSlots.filter fun n => (s.sec n).slot.enrolled

/-- What PART STATUS shows (R179). -/
def State.statusView (s : State) : List Byte :=
  put8 68 ++ put8 1 ++ put8 s.resetCause.code ++ putBool s.stopLow ++ put8 s.attention.length ++
    put8 s.evalQueue.length ++ put8 s.txQueue.length ++ put8 s.search.state.code ++
    put8 s.enrolledSlots.length ++ put32 s.partTime.toNat

/-- PART STATUS (R174, R179). -/
def partStatusRequest (subject : Byte) (p : List Byte) (s : State) : Verdict :=
  if subject.toNat ≠ 0 then .no .badSubject
  else if p.length ≠ 0 then .no .badLength
  else .answer s s.statusView

/-! ### PART CONFIGURE -/

/-- The alignment of a code (R119). -/
def alignmentOfCode (code : Nat) : Alignment := if code = 0 then .left else .centre

/-- The drive configuration a PART CONFIGURE payload carries (R119, R171). -/
def fieldDrive (p : List Byte) : DriveConfig :=
  { fanPrescale := ⟨field8 p 0 % 8, Nat.mod_lt _ (by decide)⟩
    pumpPrescale := ⟨field8 p 1 % 8, Nat.mod_lt _ (by decide)⟩
    fanAlign := alignmentOfCode (field8 p 2)
    pumpAlign := alignmentOfCode (field8 p 3)
    fanPeriod := field8 p 4
    fanLow := fieldMask p 5
    pumpLow := BitVec.ofNat 4 (field8 p 8) }

/-- A code of a PART CONFIGURE payload that is not defined: a prescale code above 7, an alignment above CENTRE,
or a pump polarity bit beyond the four channels (R119, step 1; log entry 10). -/
def driveUndefined (p : List Byte) : Bool :=
  undefinedCode p 0 8 || undefinedCode p 1 8 || undefinedCode p 2 2 || undefinedCode p 3 2 ||
    undefinedCode p 8 16

/-- The drive configuration as the replies carry it: nine bytes (R119, R171). -/
def DriveConfig.bytes (c : DriveConfig) : List Byte :=
  put8 c.fanPrescale.val ++ put8 c.pumpPrescale.val ++ put8 c.fanAlign.code ++ put8 c.pumpAlign.code ++
    put8 c.fanPeriod ++ putMask c.fanLow ++ put8 c.pumpLow.toNat

/-- A fan channel under a new configuration: disabled, with the new period and the idle level of its new
polarity (R119). -/
def State.configureFan (s : State) (n : Slot) : State :=
  s.modFan n fun f => { f with gen := Channel.disable s.drive.fanPeriod (s.fanActiveLow n) }

/-- A pump channel under a new configuration: an enabled one restarts as at a period boundary, and a disabled
one takes its new idle level (R119, R127). -/
def State.configurePump (s : State) (l : LoopId) : State :=
  s.modPump l fun c =>
    if c.enabled then c.boundary.drive (s.pumpActiveLow l)
    else { c with output := idleLevel (s.pumpActiveLow l) }

/-- The acceptance of PART CONFIGURE (R119). -/
def State.configure (s : State) (c : DriveConfig) : State :=
  let s := { s with drive := c }
  let s := allSlots.foldl State.configureFan s
  allLoops.foldl State.configurePump s

/-- PART CONFIGURE, with the checks of R174 and R119 in their order; every reply carries the configuration as it
stands after the request. -/
def partConfigureRequest (subject : Byte) (p : List Byte) (s : State) : Verdict :=
  if subject.toNat ≠ 0 then .refuse .badSubject s.drive.bytes
  else if driveUndefined p then .refuse .badKind s.drive.bytes
  else if p.length ≠ 9 then .refuse .badLength s.drive.bytes
  else if !s.enrolledSlots.isEmpty then .refuse .busy s.drive.bytes
  else .answer (s.configure (fieldDrive p)) (fieldDrive p).bytes

/-! ### FULL RESET -/

/-- FULL RESET: the part resets with cause REQUEST at the take (R174, R180). -/
def fullResetRequest (subject : Byte) (p : List Byte) (s : State) : Verdict :=
  if subject.toNat ≠ 0 then .no .badSubject
  else if p.length ≠ 0 then .no .badLength
  else .restart (s.restarted .request s.stopLow)

/-! ### The commands -/

/-- NULL (R178); the subject and the payload play no part. -/
def execNull (dt : Nat) (_subject : Byte) (_payload : List Byte) (s : State) :
    Host.Outcome State Fault Refusal := .next (s.request dt 0 nullRequest)

/-- PART STATUS (R179). -/
def execPartStatus (dt : Nat) (subject : Byte) (payload : List Byte) (s : State) :
    Host.Outcome State Fault Refusal := .next (s.request dt 96 (partStatusRequest subject payload))

/-- PART CONFIGURE (R119). -/
def execPartConfigure (dt : Nat) (subject : Byte) (payload : List Byte) (s : State) :
    Host.Outcome State Fault Refusal := .next (s.request dt 97 (partConfigureRequest subject payload))

/-- FULL RESET (R180). -/
def execFullReset (dt : Nat) (subject : Byte) (payload : List Byte) (s : State) :
    Host.Outcome State Fault Refusal := .next (s.request dt 98 (fullResetRequest subject payload))

end Sys2Proof.Machine
end

