-- ==== Sys2Proof/Machine/ResetStop.lean ====
section
/-! DEFINITION. Power-on, the reset input and the stop input (R120, R132 to R134, R151, R162, R181). -/

namespace Sys2Proof.Machine

open Sys2Proof

/-! ### Power-on and the reset input -/

/-- The link at the end of a reset: a transaction whose select was already low is ignored (R181). -/
def LinkPhase.abandoned : LinkPhase → LinkPhase
  | .idle => .idle
  | .answering .. | .ignored => .ignored

/-- The part as power-on completes. RESET_N low then holds it in reset, and the end of that reset takes a low
STOP_N as an assertion (R132, R181, log entries 5 and 6). -/
def State.poweredOn (s : State) (stopLow selLow resetLow : Bool) : State :=
  let t :=
    if resetLow then
      { s.restarted .power false with stopLow := stopLow, resetPin := .lowThroughPowerOn }
    else s.restarted .power stopLow
  { t with link := if selLow then .ignored else .idle }

/-- Power-on (R162, R181). -/
def execPowerOn (stopLow selLow resetLow : Bool) (s : State) : Host.Outcome State Fault Refusal :=
  .next (s.poweredOn stopLow selLow resetLow)

/-- The cause a reset by RESET_N records (R181). -/
def ResetPin.cause : ResetPin → ResetCause
  | .lowThroughPowerOn => .power
  | .released | .low => .pin

/-- The rising edge of RESET_N, which ends a reset by that pin (R181). -/
def execPinReset (s : State) : Host.Outcome State Fault Refusal :=
  .next { s.restarted s.resetPin.cause s.stopLow with link := s.link.abandoned }

/-- RESET_N as it falls; one that has been low since before power-on completed stays so (R181). -/
def ResetPin.assert : ResetPin → ResetPin
  | .released | .low => .low
  | .lowThroughPowerOn => .lowThroughPowerOn

/-- A fan channel with its output low. -/
def FanChannel.forceLow (f : FanChannel) : FanChannel := { f with gen := { f.gen with output := .low } }

/-- A generator with its output low. -/
def Channel.forceLow (c : Channel) : Channel := { c with output := .low }

/-- The falling edge of RESET_N: every drive output is low, the other outputs are at high impedance (the pins of
Flags.lean), and a transaction in progress is abandoned (R120, R156, R165, R181). -/
def State.assertReset (s : State) : State :=
  { s with
    resetPin := s.resetPin.assert
    link := s.link.abandoned
    fans := s.fans.map FanChannel.forceLow
    pumps := s.pumps.map Channel.forceLow }

/-- The falling edge of RESET_N (R120, R156, R165, R181). -/
def execResetInputAssertion (s : State) : Host.Outcome State Fault Refusal := .next s.assertReset

/-! ### The stop input -/

/-- The assertion on one fan channel: the output idle, the duty and compare in force, R and the staged duty 0,
and the fan drain condition of a RETIRING slot met (R132). Disabled channels are not reached. -/
def State.stopFan (s : State) (n : Slot) : State :=
  if (s.fan n).gen.enabled then
    (s.modFan n fun f =>
      { f with gen := f.gen.force (s.fanActiveLow n), ramp := 0, ownStaged := 0 }).checkFanDrain n
  else s

/-- The assertion of the stop input (R132, R133, R151): the fans, every SET loop's staged pump duty, the STOP
cause, and the end of a probing search. -/
def State.assertStop (s : State) : State :=
  let s := { s with stopLow := true }
  let s := (allSlots.foldl State.stopFan s).decidePumps
  let s := s.post .stop 0
  if s.search.state.probing then s.endSearch .halted else s

/-- The falling edge of STOP_N. While RESET_N is low only the level is kept, for the end of the reset (R132, log
entry 5); a STOP_N that is low already has no falling edge (log entry 4). -/
def execStopAssertion (dt : Nat) (s : State) : Host.Outcome State Fault Refusal :=
  .next
    (if s.inReset then { s with stopLow := true }
     else if s.stopLow then s
     else (s.advance dt).assertStop)

/-- One enabled fan channel forms its staged duty again (R134). -/
def State.restageEnabled (s : State) (n : Slot) : State :=
  if (s.fan n).gen.enabled then s.restage n else s

/-- The release of the stop input (R134). -/
def State.releaseStop (s : State) : State :=
  let s := { s with stopLow := false }
  (allSlots.foldl State.restageEnabled s).decidePumps

/-- The rising edge of STOP_N (R134, log entries 4 and 5). -/
def execStopRelease (dt : Nat) (s : State) : Host.Outcome State Fault Refusal :=
  .next
    (if s.inReset then { s with stopLow := false }
     else if s.stopLow then (s.advance dt).releaseStop
     else s)

end Sys2Proof.Machine
end

