-- ==== Sys2Proof/Machine/TimerEvents.lean ====
section
/-! DEFINITION. The take of an evaluation (R31) and the expiries of the section, destination, loop and clear-line
timers (R30, R86, R87, R103, R104, R109, R116, R158). An expiry acts only while its timer runs, and brings the
time to the moment the timer holds (log entry 4). -/

namespace Sys2Proof.Machine

open Sys2Proof

/-- The free margin engine takes the section at the front of the queue (R31); on an empty queue there is none
to take (log entry 4). -/
def State.takeEvaluation (s : State) : State :=
  match s.evalQueue with
  | [] => s
  | n :: rest => ({ s with evalQueue := rest }).evaluate n

/-- The take of an evaluation (R31). -/
def execEvaluationTake (dt : Nat) (s : State) : Host.Outcome State Fault Refusal :=
  .next (s.event dt State.takeEvaluation)

/-- What an expiry does at the moment its timer holds, in tenths; nothing where the timer is stopped (log
entry 4). -/
def State.atExpiry (s : State) (timer : Option Nat) (act : State → State) : State :=
  match timer with
  | some t => act (s.runToTenth t)
  | none => s

/-- Expiry of a section's evaluation timer (R30). -/
def State.expireEvaluation (s : State) (n : Slot) : State :=
  s.atExpiry (s.sec n).evalTimer fun s =>
    (s.modSec n fun r => { r with evalTimer := none }).joinQueue n

/-- Expiry of a section's evaluation timer (R30). -/
def execEvaluationTimerExpiry (n : Slot) (s : State) : Host.Outcome State Fault Refusal :=
  .next (s.occur fun s => s.expireEvaluation n)

/-- Expiry of a section's refresh timer: it starts again from 10 s and the present command is posted (R116). -/
def State.expireRefresh (s : State) (n : Slot) : State :=
  s.atExpiry (s.sec n).refreshTimer fun s =>
    (s.modSec n fun r => { r with refreshTimer := some (s.expiryIn 10) }).postValve n
      (s.sec n).mark.command

/-- Expiry of a section's refresh timer (R116). -/
def execRefreshTimerExpiry (n : Slot) (s : State) : Host.Outcome State Fault Refusal :=
  .next (s.occur fun s => s.expireRefresh n)

/-- Expiry of a destination's freshness timer (R104). -/
def execFreshnessExpiry (d : DestField) (s : State) : Host.Outcome State Fault Refusal :=
  .next (s.occur fun s => s.atExpiry (s.dest d).freshTimer fun s => s.goStale d)

/-- Expiry of a combining window: the window stops, and the destination is unchanged (R103). -/
def State.expireWindow (s : State) (d : DestField) : State :=
  s.atExpiry (s.dest d).combineTimer fun s => s.setDest d { s.dest d with combineTimer := none }

/-- Expiry of a combining window (R103). -/
def execCombiningWindowExpiry (d : DestField) (s : State) : Host.Outcome State Fault Refusal :=
  .next (s.occur fun s => s.expireWindow d)

/-- Expiry of a hold timer (R109). -/
def execHoldExpiry (d : DestField) (s : State) : Host.Outcome State Fault Refusal :=
  .next (s.occur fun s => s.atExpiry (s.dest d).holdTimer fun s => s.goStale d)

/-! ### The leak window -/

/-- The automatic start of a search, according to the search's state (R87). -/
def State.autoStart (s : State) (l : LoopId) : State :=
  if s.search.state ≠ .idle then s.modLoop l fun r => { r with autoOutcome := .searchBusy }
  else if (s.candidateList l).isEmpty then s.modLoop l fun r => { r with autoOutcome := .noCandidates }
  else (s.startSearch l).modLoop l fun r => { r with autoOutcome := .started }

/-- A rate above the suspect threshold: LEAK_SUSPECT, and the automatic start where the flag is on (R87). -/
def State.suspectLeak (s : State) (l : LoopId) : State :=
  let s := s.post .leakSuspect l.val
  if (s.loopRec l).config.autoSearch then s.autoStart l else s

/-- The leak window is judged over the length it began with (R86, R87, log entry 23). -/
def State.judgeWindow (s : State) (l : LoopId) : State :=
  let r := s.loopRec l
  if r.leakWindow.valid r.leakLength then
    let s := s.modLoop l fun r => { r with lastResult := .rate r.leakWindow.rate }
    if r.config.suspect < r.leakWindow.rate then s.suspectLeak l else s
  else s.modLoop l fun r => { r with lastResult := .invalid }

/-- Expiry of a leak window: it is judged and a new one begins, unless a search started here pauses the monitor
(R84, R86, R87). -/
def State.expireLeakWindow (s : State) (l : LoopId) : State :=
  s.atExpiry (s.loopRec l).leakTimer fun s =>
    let s := s.judgeWindow l
    if s.monitorRuns l then s.beginWindow l else s

/-- Expiry of a leak window (R86). -/
def execLeakWindowExpiry (l : LoopId) (s : State) : Host.Outcome State Fault Refusal :=
  .next (s.occur fun s => s.expireLeakWindow l)

/-! ### The clear lines -/

/-- Expiry of a delay timer: the line becomes ASSERTED and the timer stops (R158). -/
def State.expireDelay (s : State) (k : LineId) : State :=
  s.atExpiry (s.line k).timer fun s => s.modLine k fun c => { c with timer := none, state := .asserted }

/-- Expiry of a delay timer (R158). -/
def execDelayTimerExpiry (k : LineId) (s : State) : Host.Outcome State Fault Refusal :=
  .next (s.occur fun s => s.expireDelay k)

end Sys2Proof.Machine
end

