-- ==== Sys2Proof/Machine/SearchEvents.lean ====
section
/-! DEFINITION. The expiries of the isolation search's timers (R140, R142, R144, R147). Each acts only in the
state whose timer it is (log entry 4). -/

namespace Sys2Proof.Machine

open Sys2Proof

/-- The phase timer stops. -/
def State.stopPhaseTimer (s : State) : State := s.modSearch fun c => { c with phaseTimer := none }

/-- The deadline timer stops. -/
def State.stopDeadline (s : State) : State := s.modSearch fun c => { c with deadline := none }

/-- Expiry of the settle timer: the settling wait is judged (R140). -/
def State.expireSettle (s : State) : State :=
  if s.search.state = .settling then
    s.atExpiry s.search.phaseTimer fun s => s.stopPhaseTimer.judgeSettling
  else s

/-- Expiry of the settle timer (R140). -/
def execSettleTimerExpiry (s : State) : Host.Outcome State Fault Refusal :=
  .next (s.occur State.expireSettle)

/-- The settling wait is met (R140). -/
def State.settlingMet (s : State) : Bool :=
  s.search.phaseTimer.isNone && s.allRead s.search.isolated 1

/-- Expiry of the settle deadline: with the wait not met the search ends with VALVE_FAULT for each isolated
section that does not read closed (R140). -/
def State.expireSettleDeadline (s : State) : State :=
  if s.search.state = .settling then
    s.atExpiry s.search.deadline fun s =>
      let s := s.stopDeadline
      if s.settlingMet then s.judgeSettling else s.valveFault (s.notReading s.search.isolated 1)
  else s

/-- Expiry of the settle deadline (R140). -/
def execSettleDeadlineExpiry (s : State) : Host.Outcome State Fault Refusal :=
  .next (s.occur State.expireSettleDeadline)

/-- Expiry of the observe timer: the observation window is judged (R142). -/
def State.expireObserve (s : State) : State :=
  if s.search.state = .observing then
    s.atExpiry s.search.phaseTimer fun s => s.stopPhaseTimer.judgeObservation
  else s

/-- Expiry of the observe timer (R142). -/
def execObserveTimerExpiry (s : State) : Host.Outcome State Fault Refusal :=
  .next (s.occur State.expireObserve)

/-- Expiry of the rest timer: the wait of RESTING or of SUSPENDED is judged (R144, R147). -/
def State.expireRest (s : State) : State :=
  if s.search.state = .resting ∨ s.search.state = .suspended then
    s.atExpiry s.search.phaseTimer fun s => s.stopPhaseTimer.judgeWait
  else s

/-- Expiry of the rest timer (R144, R147). -/
def execRestTimerExpiry (s : State) : Host.Outcome State Fault Refusal :=
  .next (s.occur State.expireRest)

/-- The rest wait is met (R144). -/
def State.restMet (s : State) : Bool := s.search.phaseTimer.isNone && s.allRead s.search.wait 0

/-- Expiry of the rest deadline: with the wait not met the search ends with VALVE_FAULT for each section of the
wait set that does not read open (R144). -/
def State.expireRestDeadline (s : State) : State :=
  if s.search.state = .resting then
    s.atExpiry s.search.deadline fun s =>
      let s := s.stopDeadline
      if s.restMet then s.judgeResting else s.valveFault (s.notReading s.search.wait 0)
  else s

/-- Expiry of the rest deadline (R144). -/
def execRestDeadlineExpiry (s : State) : Host.Outcome State Fault Refusal :=
  .next (s.occur State.expireRestDeadline)

end Sys2Proof.Machine
end

