-- ==== Sys2Proof/Machine/SectionRequests.lean ====
section
/-! DEFINITION. The section requests (chapter 1, R54): ENROL, AMEND, LOOKUP, FAN DEMAND, ACKNOWLEDGE TRIP and
RETIRE. Each owner answers a verdict; the link takes it. -/

namespace Sys2Proof.Machine

open Sys2Proof

/-- A section request: a subject of 24 or above is refused, and otherwise it names a slot (R8). -/
def onSlot (subject : Byte) (owner : Slot → Verdict) : Verdict :=
  if h : subject.toNat < 24 then owner ⟨subject.toNat, h⟩ else .no .badSubject

/-- The slot states that accept AMEND, FAN DEMAND, ACKNOWLEDGE TRIP and RETIRE (R8). -/
def ifInService (r : SectionRecord) (owner : Verdict) : Verdict :=
  match r.slot with
  | .vacant => .no .vacant
  | .starting | .live => owner
  | .retiring => .no .busy

/-- The search is not IDLE and its loop is a given one (R12, R71). -/
def State.searchIn (s : State) (l : LoopId) : Bool :=
  s.search.state != .idle && s.search.loopOf == some l

/-! ### ENROL -/

/-- The configuration an ENROL payload carries, after clamping (R4, R9); the loop field is checked before. -/
def enrolConfig (p : List Byte) : Clamped SectionConfig :=
  let qd := clampField 10 65000 (field16 p 1)
  let w := clampField 1 15 (field8 p 3)
  let h := clampField 0 1000 (field16 p 4)
  let iw := clampOrDefault 30000 1 4000000 (field32 p 6)
  let idf := clampOrDefault 120000 1 4000000 (field32 p 10)
  let it := clampOrDefault 600000 1 4000000 (field32 p 14)
  let pen := clampField 0 100 (field8 p 18)
  let grace := clampField 0 300 (field16 p 19)
  let emax := clampOrDefault 4 1 30 (field8 p 21)
  let rise := clampOrDefault 8 1 64 (field8 p 23)
  let fall := clampOrDefault 4 1 64 (field8 p 24)
  let mild := fieldLimits p 28
  let frost := fieldLimits p 33
  { value :=
      { loopOf := ⟨field8 p 0 % 4, Nat.mod_lt _ (by decide)⟩, designFlow := qd.value, weight := w.value,
        hardFloor := h.value, iWatch := iw.value, iDefend := idf.value, iTrip := it.value,
        penalty := pen.value, grace := grace.value, emax := emax.value,
        lowering := if field8 p 22 = 0 then .drop else .slew, riseStep := rise.value,
        fallStep := fall.value, valveNode := fieldNode p 25, gangFlag := fieldOn p 27,
        mild := mild.value, frost := frost.value }
    changed :=
      qd.changed || w.changed || h.changed || iw.changed || idf.changed || it.changed || pen.changed ||
        grace.changed || emax.changed || rise.changed || fall.changed || mild.changed || frost.changed }

/-- The orderings an enrolment must keep (R5). -/
def SectionConfig.ordered (c : SectionConfig) : Bool :=
  c.thresholdsOrdered && c.mild.ordered && c.frost.ordered

/-- The gang checks of an ENROL (R12); the odd slot's own flag is checked before them (R9, step 4). -/
def State.enrolGangRefusal (s : State) (n : Slot) (c : SectionConfig) : Option Status :=
  let other := s.sec (neighbourOf n)
  if n.val % 2 = 0 then
    if c.gangFlag ∧ other.slot.enrolled ∧ other.config.loopOf ≠ c.loopOf then some .order
    else if c.gangFlag ∧ other.slot.inService ∧ s.searchIn c.loopOf then some .busy
    else none
  else if other.slot.enrolled ∧ other.config.gangFlag ∧ other.config.loopOf ≠ c.loopOf then some .order
  else if other.slot.inService ∧ other.config.gangFlag ∧ s.searchIn c.loopOf then some .busy
  else none

/-- The section record an accepted ENROL makes (R9). -/
def SectionRecord.enrolled (c : SectionConfig) (g : Regime) (refresh : Nat) : SectionRecord :=
  { SectionRecord.cleared with
    slot := .starting, config := c, active := c.stored g,
    refreshTimer := if c.valveNode.isSome then some refresh else none }

/-- The acceptance of ENROL (R9): the record, the enabled fan channel, the OPEN command of a valve node, and
the gang that may form. -/
def State.enrol (s : State) (n : Slot) (c : SectionConfig) : State :=
  let s := s.modSec n fun _ => .enrolled c (s.loopRec c.loopOf).regime (s.expiryIn 10)
  let s := s.enableFan n
  let s := if c.valveNode.isSome then s.postValve n .toOpen else s
  s.restage n

/-- ENROL, with the checks of R174, R8 and R9 in their order. -/
def enrolRequest (subject : Byte) (p : List Byte) (s : State) : Verdict :=
  onSlot subject fun n =>
    if p.length ≠ 38 then .no .badLength
    else if (s.sec n).slot ≠ .vacant then .no .occupied
    else if 4 ≤ field8 p 0 then .no .badSubject
    else if undefinedCode p 22 2 || undefinedCode p 25 2 || undefinedCode p 27 2 then .no .badKind
    else
      let c := enrolConfig p
      if !(s.loopRec c.value.loopOf).isSet then .no .loopUnset
      else if c.value.gangFlag ∧ n.val % 2 = 1 then .no .order
      else if !c.value.ordered then .no .order
      else
        match s.enrolGangRefusal n c.value with
        | some status => .no status
        | none => .okClamped (s.enrol n c.value) c.changed

/-! ### AMEND -/

/-- AMEND of FLOW (R14). -/
def amendFlow (n : Slot) (p : List Byte) (s : State) : Verdict :=
  if p.length ≠ 4 then .no .badLength
  else
    let qd := clampField 10 65000 (field16 p 1)
    let w := clampField 1 15 (field8 p 3)
    .okClamped
      (s.modSec n fun r => { r with config := { r.config with designFlow := qd.value, weight := w.value } })
      (qd.changed || w.changed)

/-- AMEND of THRESHOLDS (R15). -/
def amendThresholds (n : Slot) (p : List Byte) (s : State) : Verdict :=
  if p.length ≠ 15 then .no .badLength
  else
    let h := clampField 0 1000 (field16 p 1)
    let iw := clampOrDefault 30000 1 4000000 (field32 p 3)
    let idf := clampOrDefault 120000 1 4000000 (field32 p 7)
    let it := clampOrDefault 600000 1 4000000 (field32 p 11)
    let c : SectionConfig :=
      { (s.sec n).config with
        hardFloor := h.value, iWatch := iw.value, iDefend := idf.value, iTrip := it.value }
    if !c.thresholdsOrdered then .no .order
    else
      .okClamped (s.modSec n fun r => { r with config := c })
        (h.changed || iw.changed || idf.changed || it.changed)

/-- AMEND of STALENESS; a running evaluation timer keeps its expiry (R16). -/
def amendStaleness (n : Slot) (p : List Byte) (s : State) : Verdict :=
  if p.length ≠ 5 then .no .badLength
  else
    let pen := clampField 0 100 (field8 p 1)
    let grace := clampField 0 300 (field16 p 2)
    let emax := clampOrDefault 4 1 30 (field8 p 4)
    .okClamped
      (s.modSec n fun r =>
        { r with
          config := { r.config with penalty := pen.value, grace := grace.value, emax := emax.value } })
      (pen.changed || grace.changed || emax.changed)

/-- AMEND of RAMP (R19). -/
def amendRamp (n : Slot) (p : List Byte) (s : State) : Verdict :=
  if undefinedCode p 1 2 then .no .badKind
  else if p.length ≠ 4 then .no .badLength
  else
    let rise := clampOrDefault 8 1 64 (field8 p 2)
    let fall := clampOrDefault 4 1 64 (field8 p 3)
    .okClamped
      (s.modSec n fun r =>
        { r with
          config :=
            { r.config with
              lowering := if field8 p 1 = 0 then .drop else .slew
              riseStep := rise.value
              fallStep := fall.value } })
      (rise.changed || fall.changed)

/-- The acceptance of AMEND of VALVE (R17, R117). -/
def State.setValveNode (s : State) (n : Slot) (node : Option Byte) : State :=
  let s := s.removeEntry n
  let s := if node.isSome then s.postValve n .toOpen else s
  s.modSec n fun r =>
    { r with
      config := { r.config with valveNode := node }
      refreshTimer := if node.isSome then some (s.expiryIn 10) else none }

/-- AMEND of VALVE, refused HELD while the section is isolated (R17). -/
def amendValve (n : Slot) (p : List Byte) (s : State) : Verdict :=
  if undefinedCode p 1 2 then .no .badKind
  else if p.length ≠ 3 then .no .badLength
  else if (s.sec n).mark ≠ .none then .no .held
  else .ok (s.setValveNode n (fieldNode p 1))

/-- The gang checks of an AMEND of GANG (R12). -/
def State.amendGangRefusal (s : State) (n : Slot) (on : Bool) : Option Status :=
  let r := s.sec n
  let other := s.sec (neighbourOf n)
  if on then
    if n.val % 2 = 1 then some .order
    else if other.slot.enrolled ∧ other.config.loopOf ≠ r.config.loopOf then some .order
    else if !r.config.gangFlag ∧ other.slot.inService ∧ s.searchIn r.config.loopOf then some .busy
    else none
  else if r.config.gangFlag ∧ s.gangFormed n ∧ s.searchIn r.config.loopOf then some .busy
  else none

/-- AMEND of GANG (R18): the gang forms or dissolves at once, and both channels restage; writing the present
value has no effect. -/
def amendGang (n : Slot) (p : List Byte) (s : State) : Verdict :=
  if undefinedCode p 1 2 then .no .badKind
  else if p.length ≠ 2 then .no .badLength
  else
    let on := fieldOn p 1
    match s.amendGangRefusal n on with
    | some status => .no status
    | none =>
      if on = (s.sec n).config.gangFlag then .ok s
      else
        .ok ((s.modSec n fun r => { r with config := { r.config with gangFlag := on } }).restagePair n)

/-- The acceptance of AMEND of LIMITS (R20). -/
def State.amendLimitSet (s : State) (n : Slot) (selector : Nat) (apply : Bool) (m : LimitSet) : State :=
  let current := (s.loopRec (s.sec n).config.loopOf).regime
  match selector with
  | 0 =>
    let s := s.modSec n fun r => { r with config := { r.config with mild := m } }
    if apply ∧ current = .mild then (s.modSec n fun r => { r with active := m }).restage n else s
  | 1 =>
    let s := s.modSec n fun r => { r with config := { r.config with frost := m } }
    if apply ∧ current = .frost then (s.modSec n fun r => { r with active := m }).restage n else s
  | _ => (s.modSec n fun r => { r with active := m }).restage n

/-- AMEND of LIMITS: selector MILD 0, FROST 1, ACTIVE 2; apply flag clear 0, set 1 (R20). -/
def amendLimits (n : Slot) (p : List Byte) (s : State) : Verdict :=
  if undefinedCode p 1 3 || undefinedCode p 2 2 then .no .badKind
  else if p.length ≠ 8 then .no .badLength
  else
    let m := fieldLimits p 3
    if !m.value.ordered then .no .order
    else .okClamped (s.amendLimitSet n (field8 p 1) (field8 p 2 == 1) m.value) m.changed

/-- AMEND: the subject, the slot state (R8), the group code and then the group's own checks (R13). A payload
without a group code has the wrong length (log entry 10). -/
def amendRequest (subject : Byte) (p : List Byte) (s : State) : Verdict :=
  onSlot subject fun n =>
    ifInService (s.sec n) <|
      match p.head?.map BitVec.toNat with
      | none => .no .badLength
      | some 0 => amendFlow n p s
      | some 1 => amendThresholds n p s
      | some 2 => amendStaleness n p s
      | some 3 => amendRamp n p s
      | some 4 => amendValve n p s
      | some 5 => amendGang n p s
      | some 6 => amendLimits n p s
      | some _ => .no .badKind

/-! ### LOOKUP and FAN DEMAND -/

/-- The CONFIG view of an enrolled slot (R21). -/
def State.configView (s : State) (n : Slot) : List Byte :=
  let r := s.sec n
  let c := r.config
  put8 r.slot.code ++ put8 c.loopOf.val ++ put16 c.designFlow ++ put8 c.weight ++ put16 c.hardFloor ++
    put32 c.iWatch ++ put32 c.iDefend ++ put32 c.iTrip ++ put8 c.penalty ++ put16 c.grace ++
    put8 c.emax ++ put8 c.lowering.code ++ put8 c.riseStep ++ put8 c.fallStep ++
    putOption 1 (fun b => [b]) c.valveNode ++ put8 (onCode c.gangFlag) ++ putLimits c.mild ++
    putLimits c.frost ++ putBool (s.gangFormed n)

/-- The fields of an evaluation record (R7). -/
def EvalRecord.bytes (e : EvalRecord) : List Byte :=
  put32 e.taken.toNat ++ put16 e.elapsed ++ putSigned e.tOut ++ putSigned e.tAir ++ put8 e.flags.byte ++
    put16 e.share ++ put16 e.ratio ++ put8 e.coupling ++ putSigned e.tWall ++ putSigned e.tFreeze ++
    putSigned e.margin

/-- The LIVE view of an enrolled slot (R6, R21). -/
def State.liveView (s : State) (n : Slot) : List Byte :=
  let r := s.sec n
  let f := s.fan n
  put8 r.slot.code ++ putLimits r.active ++ put8 r.hostDemand ++ put8 r.protection.code ++
    put32 r.integrator ++ put8 r.mark.code ++ put8 f.ramp ++ put8 f.gen.stagedDuty ++
    put8 f.gen.dutyInForce ++ putOption 2 put16 (s.remaining r.evalTimer) ++
    putOption 22 EvalRecord.bytes r.lastEval

/-- LOOKUP: a VACANT slot shows its state alone (R21). -/
def lookupRequest (subject : Byte) (p : List Byte) (s : State) : Verdict :=
  onSlot subject fun n =>
    if p.length ≠ 1 then .no .badLength
    else if undefinedCode p 0 2 then .no .badKind
    else if (s.sec n).slot = .vacant then .answer s (put8 SlotState.vacant.code)
    else if field8 p 0 = 0 then .answer s (s.configView n)
    else .answer s (s.liveView n)

/-- FAN DEMAND (R22). -/
def fanDemandRequest (subject : Byte) (p : List Byte) (s : State) : Verdict :=
  onSlot subject fun n =>
    if p.length ≠ 1 then .no .badLength
    else ifInService (s.sec n) (.ok (s.modSec n fun r => { r with hostDemand := field8 p 0 }))

/-! ### ACKNOWLEDGE TRIP -/

/-- ACKNOWLEDGE TRIP: a TRIPPED section returns to NORMAL if I is at or below Xw (R54). -/
def acknowledgeRequest (subject : Byte) (p : List Byte) (s : State) : Verdict :=
  onSlot subject fun n =>
    let r := s.sec n
    if p.length ≠ 0 then .no .badLength
    else
      ifInService r <|
        match r.protection with
        | .tripped =>
          if r.integrator ≤ exitLevel r.config.iWatch then .ok (s.changeProtection n .normal)
          else .no .stillCold
        | .normal | .watch | .defend => .ok s

/-! ### RETIRE -/

/-- The section's valve at the acceptance of RETIRE (R25). A section marked HELD keeps its valve closed: the
search goes to IDLE with its result kept, and the other member of a held gang is released. -/
def State.retireValve (s : State) (n : Slot) : State :=
  let r := s.sec n
  match r.mark with
  | .held =>
    let others := s.search.isolated.filter (· != n)
    let s := (s.removeEntry n).modSec n fun r =>
      { r with mark := .none, refreshTimer := none, valveDrained := true }
    (s.setMarks .none others).modSearch SearchContext.toIdle
  | .none | .probe =>
    if r.config.valveNode.isSome then
      (s.postValve n .toOpen).modSec n fun r => { r with refreshTimer := none, valveDrained := false }
    else s.modSec n fun r => { r with refreshTimer := none, valveDrained := true }

/-- The acceptance of RETIRE (R24, R25, R152): the slot becomes RETIRING and the section leaves every structure
that refers to it; the slot becomes VACANT at once where both drain conditions are met (R26). -/
def State.retire (s : State) (n : Slot) : State :=
  let l := (s.sec n).config.loopOf
  let s := s.modSec n fun r => { r with slot := .retiring, evalTimer := none, fanDrained := false }
  let s := s.modSec (leadOf n) fun r => { r with config := { r.config with gangFlag := false } }
  let s := ((s.unbindSection n).dropSectionCauses n).leaveQueue n
  let s := (s.restagePair n).retireValve n
  let s := ((s.leaveMasks n).decidePump l).formColdest l
  (s.retireFromSearch n).checkFanDrain n

/-- RETIRE, refused HELD while the section is marked PROBE (R23). -/
def retireRequest (subject : Byte) (p : List Byte) (s : State) : Verdict :=
  onSlot subject fun n =>
    if p.length ≠ 0 then .no .badLength
    else
      ifInService (s.sec n) <|
        if (s.sec n).mark = .probe then .no .held else .accept (s.retire n) .accepted []

/-! ### The commands -/

/-- ENROL (R9). -/
def execEnrol (dt : Nat) (subject : Byte) (payload : List Byte) (s : State) :
    Host.Outcome State Fault Refusal := .next (s.request dt 1 (enrolRequest subject payload))

/-- AMEND of FLOW (R13, R14). -/
def execAmendFlow (dt : Nat) (subject : Byte) (payload : List Byte) (s : State) :
    Host.Outcome State Fault Refusal := .next (s.request dt 2 (amendRequest subject payload))

/-- AMEND of THRESHOLDS (R13, R15). -/
def execAmendThresholds (dt : Nat) (subject : Byte) (payload : List Byte) (s : State) :
    Host.Outcome State Fault Refusal := .next (s.request dt 2 (amendRequest subject payload))

/-- AMEND of STALENESS (R13, R16). -/
def execAmendStaleness (dt : Nat) (subject : Byte) (payload : List Byte) (s : State) :
    Host.Outcome State Fault Refusal := .next (s.request dt 2 (amendRequest subject payload))

/-- AMEND of VALVE (R13, R17). -/
def execAmendValve (dt : Nat) (subject : Byte) (payload : List Byte) (s : State) :
    Host.Outcome State Fault Refusal := .next (s.request dt 2 (amendRequest subject payload))

/-- AMEND of GANG (R13, R18). -/
def execAmendGang (dt : Nat) (subject : Byte) (payload : List Byte) (s : State) :
    Host.Outcome State Fault Refusal := .next (s.request dt 2 (amendRequest subject payload))

/-- AMEND of RAMP (R13, R19). -/
def execAmendRamp (dt : Nat) (subject : Byte) (payload : List Byte) (s : State) :
    Host.Outcome State Fault Refusal := .next (s.request dt 2 (amendRequest subject payload))

/-- AMEND of LIMITS (R13, R20). -/
def execAmendLimits (dt : Nat) (subject : Byte) (payload : List Byte) (s : State) :
    Host.Outcome State Fault Refusal := .next (s.request dt 2 (amendRequest subject payload))

/-- LOOKUP (R21). -/
def execLookup (dt : Nat) (subject : Byte) (payload : List Byte) (s : State) :
    Host.Outcome State Fault Refusal := .next (s.request dt 3 (lookupRequest subject payload))

/-- FAN DEMAND (R22). -/
def execFanDemand (dt : Nat) (subject : Byte) (payload : List Byte) (s : State) :
    Host.Outcome State Fault Refusal := .next (s.request dt 4 (fanDemandRequest subject payload))

/-- ACKNOWLEDGE TRIP (R54). -/
def execAcknowledgeTrip (dt : Nat) (subject : Byte) (payload : List Byte) (s : State) :
    Host.Outcome State Fault Refusal := .next (s.request dt 5 (acknowledgeRequest subject payload))

/-- RETIRE (R23 to R26). -/
def execRetire (dt : Nat) (subject : Byte) (payload : List Byte) (s : State) :
    Host.Outcome State Fault Refusal := .next (s.request dt 6 (retireRequest subject payload))

end Sys2Proof.Machine
end

