-- ==== Sys2Proof/Machine/Dispatch.lean ====
section
/-! DEFINITION. The meaning of every command: one arm for each row of spec/opcode_table.json. -/

namespace Sys2Proof.Machine

open Sys2Proof

/-- The effect of a command on everything but the queue of commands. -/
def exec (i : Instr) (s : State) : Host.Outcome State Fault Refusal :=
  match i with
  | .null dt subject payload => Sys2Proof.Machine.execNull dt subject payload s
  | .enrol dt subject payload => Sys2Proof.Machine.execEnrol dt subject payload s
  | .amendFlow dt subject payload => Sys2Proof.Machine.execAmendFlow dt subject payload s
  | .amendThresholds dt subject payload => Sys2Proof.Machine.execAmendThresholds dt subject payload s
  | .amendStaleness dt subject payload => Sys2Proof.Machine.execAmendStaleness dt subject payload s
  | .amendValve dt subject payload => Sys2Proof.Machine.execAmendValve dt subject payload s
  | .amendGang dt subject payload => Sys2Proof.Machine.execAmendGang dt subject payload s
  | .amendRamp dt subject payload => Sys2Proof.Machine.execAmendRamp dt subject payload s
  | .amendLimits dt subject payload => Sys2Proof.Machine.execAmendLimits dt subject payload s
  | .lookup dt subject payload => Sys2Proof.Machine.execLookup dt subject payload s
  | .fanDemand dt subject payload => Sys2Proof.Machine.execFanDemand dt subject payload s
  | .acknowledgeTrip dt subject payload => Sys2Proof.Machine.execAcknowledgeTrip dt subject payload s
  | .retire dt subject payload => Sys2Proof.Machine.execRetire dt subject payload s
  | .loopSetGlycol dt subject payload => Sys2Proof.Machine.execLoopSetGlycol dt subject payload s
  | .loopSetRegime dt subject payload => Sys2Proof.Machine.execLoopSetRegime dt subject payload s
  | .loopSetPump dt subject payload => Sys2Proof.Machine.execLoopSetPump dt subject payload s
  | .loopSetLeak dt subject payload => Sys2Proof.Machine.execLoopSetLeak dt subject payload s
  | .loopSetSearch dt subject payload => Sys2Proof.Machine.execLoopSetSearch dt subject payload s
  | .loopSetUnset dt subject payload => Sys2Proof.Machine.execLoopSetUnset dt subject payload s
  | .loopLookup dt subject payload => Sys2Proof.Machine.execLoopLookup dt subject payload s
  | .pumpDemand dt subject payload => Sys2Proof.Machine.execPumpDemand dt subject payload s
  | .curveLoad dt subject payload => Sys2Proof.Machine.execCurveLoad dt subject payload s
  | .curveLookup dt subject payload => Sys2Proof.Machine.execCurveLookup dt subject payload s
  | .bind dt subject payload => Sys2Proof.Machine.execBind dt subject payload s
  | .unbind dt subject payload => Sys2Proof.Machine.execUnbind dt subject payload s
  | .holdOn dt subject payload => Sys2Proof.Machine.execHoldOn dt subject payload s
  | .holdOff dt subject payload => Sys2Proof.Machine.execHoldOff dt subject payload s
  | .bindingLookup dt subject payload => Sys2Proof.Machine.execBindingLookup dt subject payload s
  | .seenRead dt subject payload => Sys2Proof.Machine.execSeenRead dt subject payload s
  | .seenClear dt subject payload => Sys2Proof.Machine.execSeenClear dt subject payload s
  | .clearLineSet dt subject payload => Sys2Proof.Machine.execClearLineSet dt subject payload s
  | .clearLineLookup dt subject payload => Sys2Proof.Machine.execClearLineLookup dt subject payload s
  | .searchStart dt subject payload => Sys2Proof.Machine.execSearchStart dt subject payload s
  | .searchStop dt subject payload => Sys2Proof.Machine.execSearchStop dt subject payload s
  | .searchLookup dt subject payload => Sys2Proof.Machine.execSearchLookup dt subject payload s
  | .nextAttention dt subject payload => Sys2Proof.Machine.execNextAttention dt subject payload s
  | .attentionLevels dt subject payload => Sys2Proof.Machine.execAttentionLevels dt subject payload s
  | .partStatus dt subject payload => Sys2Proof.Machine.execPartStatus dt subject payload s
  | .partConfigure dt subject payload => Sys2Proof.Machine.execPartConfigure dt subject payload s
  | .fullReset dt subject payload => Sys2Proof.Machine.execFullReset dt subject payload s
  | .transactionBegin dt => Sys2Proof.Machine.execTransactionBegin dt s
  | .brokenTransaction dt bytes extra => Sys2Proof.Machine.execBrokenTransaction dt bytes extra s
  | .frameRefused dt frame => Sys2Proof.Machine.execFrameRefused dt frame s
  | .notReadyTransactionEnd dt => Sys2Proof.Machine.execNotReadyTransactionEnd dt s
  | .replyReady => Sys2Proof.Machine.execReplyReady s
  | .powerOn stopLow selLow resetLow => Sys2Proof.Machine.execPowerOn stopLow selLow resetLow s
  | .pinReset => Sys2Proof.Machine.execPinReset s
  | .stopAssertion dt => Sys2Proof.Machine.execStopAssertion dt s
  | .stopRelease dt => Sys2Proof.Machine.execStopRelease dt s
  | .fragmentEnd dt chars => Sys2Proof.Machine.execFragmentEnd dt chars s
  | .transmissionBegin dt => Sys2Proof.Machine.execTransmissionBegin dt s
  | .transmissionEnd dt readBack => Sys2Proof.Machine.execTransmissionEnd dt readBack s
  | .evaluationTake dt => Sys2Proof.Machine.execEvaluationTake dt s
  | .evaluationTimerExpiry n => Sys2Proof.Machine.execEvaluationTimerExpiry n s
  | .refreshTimerExpiry n => Sys2Proof.Machine.execRefreshTimerExpiry n s
  | .freshnessExpiry d => Sys2Proof.Machine.execFreshnessExpiry d s
  | .combiningWindowExpiry d => Sys2Proof.Machine.execCombiningWindowExpiry d s
  | .holdExpiry d => Sys2Proof.Machine.execHoldExpiry d s
  | .fanRampExpiry n => Sys2Proof.Machine.execFanRampExpiry n s
  | .pumpRampExpiry l => Sys2Proof.Machine.execPumpRampExpiry l s
  | .periodBoundary dt c => Sys2Proof.Machine.execPeriodBoundary dt c s
  | .leakWindowExpiry l => Sys2Proof.Machine.execLeakWindowExpiry l s
  | .delayTimerExpiry k => Sys2Proof.Machine.execDelayTimerExpiry k s
  | .settleTimerExpiry => Sys2Proof.Machine.execSettleTimerExpiry s
  | .settleDeadlineExpiry => Sys2Proof.Machine.execSettleDeadlineExpiry s
  | .observeTimerExpiry => Sys2Proof.Machine.execObserveTimerExpiry s
  | .restTimerExpiry => Sys2Proof.Machine.execRestTimerExpiry s
  | .restDeadlineExpiry => Sys2Proof.Machine.execRestDeadlineExpiry s
  | .channelClockTick dt g => Sys2Proof.Machine.execChannelClockTick dt g s
  | .resetInputAssertion => Sys2Proof.Machine.execResetInputAssertion s

end Sys2Proof.Machine
end

