-- ==== Sys2Proof/Safety.lean ====
section
/-! DEFINITION. The terms in which the statements are written: the moment of a take and what it leaves in the reply
slot, the bytes of operands and the fields of replies, what a delivered reading, a restaging, an ending and an
isolation leave, the values an evaluation uses, and the invariants that every step keeps. -/

namespace Sys2Proof.Machine

open Sys2Proof

/-! ### The take of a request -/

/-- A request sent now is taken: RESET_N is high, and the transaction that carries it was not answered NOT_READY
and is not ignored (R173, R177, R181). -/
def State.taking (s : State) : Prop :=
  s.inReset = false ∧ (s.link = .idle ∨ ∃ f, s.link = .answering f false)

/-- The part at the take: time has passed, and the transaction is over. -/
def State.atTake (s : State) (dt : Nat) : State := { s.advance dt with link := .idle }

/-- The part after a take that changes nothing but the reply slot, whose new frame becomes ready 100 µs later
(R175, R176). -/
def State.answered (s : State) (dt kind : Nat) (status : Status) (payload : List Byte) : State :=
  { s.atTake dt with
    reply := { status := status, kind := BitVec.ofNat 8 kind, payload := payload }
    readyAt := s.time + dt + unitsToReady }

/-- The part after a link refusal, which puts a frame with the echoed kind as received and no payload into the
reply slot (R168, R169). -/
def State.linkRefused (s : State) (dt : Nat) (status : Status) (kind : Byte) : State :=
  { s.atTake dt with
    reply := { status := status, kind := kind, payload := [] }
    readyAt := s.time + dt + unitsToReady }

/-- The part right after a reset: the reset values, the cause and the level of STOP_N, STOP posted where it is low,
and the model's own queue and counter kept (R162, R181). -/
def State.afterReset (s : State) (cause : ResetCause) (stopLow : Bool) (link : LinkPhase) : State :=
  { State.reset with
    resetCause := cause
    stopLow := stopLow
    attention :=
      { kind := .restarted, subject := 0 } :: if stopLow then [{ kind := .stop, subject := 0 }] else []
    link := link
    freeCount := s.freeCount
    pending := s.pending }

/-- A fragment as the receiver hears it from a field node: every stop bit valid, no character its own. -/
def heard (bytes : List Byte) : List BusChar :=
  bytes.map fun b => { byte := b, stopOk := true, own := false }

/-- One bit of one character inverted on the wire. -/
def flipBit (place : Nat) (bit : Fin 8) (bytes : List Byte) : List Byte :=
  bytes.modify place (· ^^^ 1#8 <<< bit.val)

/-- DONE_CLAMPED where a value was clamped, DONE otherwise (R4, R68). -/
def doneStatus (clamped : Prop) [Decidable clamped] : Status := if clamped then .doneClamped else .done

/-- The statuses of refusals (R172). -/
def Status.isRefusal : Status → Bool
  | .done | .doneClamped | .accepted | .notReady | .none => false
  | .badCheck | .badKind | .badLength | .badSubject | .vacant | .occupied | .loopUnset | .order | .busy
  | .held | .stillCold | .duplicateDest | .noCandidates => true

/-- The subject byte of an index. -/
def indexByte {k : Nat} (i : Fin k) : Byte := BitVec.ofNat 8 i.val

/-- Two bytes, high byte first, unsigned (R171). -/
def be16 (a b : Byte) : Nat := a.toNat * 256 + b.toNat

/-- Two bytes, high byte first, two's complement (R171). -/
def signed16 (a b : Byte) : Int := (a ++ b : BitVec 16).toInt

/-- Four bytes, high byte first, unsigned (R171). -/
def be32 (a b c d : Byte) : Nat := ((a.toNat * 256 + b.toNat) * 256 + c.toNat) * 256 + d.toNat

/-- A scalar for which 0 selects a default, else clamped to its range (R4). -/
def orDefault (default lo hi v : Nat) : Nat := if v = 0 then default else clampNat lo hi v

/-- The change that `orDefault` counts as clamping. -/
def wasClamped (lo hi v : Nat) : Bool := v != 0 && clampNat lo hi v != v

/-! ### The fields of a reply -/

/-- A number in so many bytes, high byte first (R171). -/
def bigEndian : Nat → Nat → List Byte
  | 0, _ => []
  | width + 1, v => BitVec.ofNat 8 (v / 256 ^ width) :: bigEndian width v

/-- The bytes of fields, each given by its width and its number, in their order (R171). -/
def layout (fields : List (Nat × Nat)) : List Byte := fields.flatMap fun f => bigEndian f.1 f.2

/-- The number of a two-byte two's complement field (R171). -/
def twos16 (z : Int) : Nat := (BitVec.ofInt 16 z).toNat

/-- An optional field: a presence byte, then fields of given widths, each 0 where it is absent (R171). -/
def optionFields {α : Type} (widths : List Nat) (numbers : α → List Nat) : Option α → List (Nat × Nat)
  | none => (1, 0) :: widths.map fun w => (w, 0)
  | some a => (1, 1) :: widths.zip (numbers a)

/-- The number whose bits are given, bit 0 first. -/
def bitsValue : List Bool → Nat
  | [] => 0
  | b :: rest => b.toNat + 2 * bitsValue rest

/-- The number of a set of slots: bit *k* for slot *k* (R171). -/
def slotsValue (p : Slot → Bool) : Nat := bitsValue (allSlots.map p)

/-- The fields of a limit set (R5). -/
def limitFields (m : LimitSet) : List (Nat × Nat) := [(1, m.fan), (1, m.watch), (1, m.defend), (2, m.guard)]

/-- The tenths that remain on a timer, absent while it is stopped. -/
def timerFields (s : State) (timer : Option Nat) : List (Nat × Nat) :=
  optionFields [2] (fun e => [e - s.time / unitsPerTenth]) timer

/-- The owner type, the owner index and the field code of a destination (R105). -/
def destFields : DestField → List (Nat × Nat)
  | .outlet n => [(1, 0), (1, n.val), (1, 0)]
  | .air n => [(1, 0), (1, n.val), (1, 1)]
  | .valve n => [(1, 0), (1, n.val), (1, 2)]
  | .loopFlow l => [(1, 1), (1, l.val), (1, 0)]
  | .loopPressure l => [(1, 1), (1, l.val), (1, 1)]
  | .loopConcentration l => [(1, 1), (1, l.val), (1, 2)]
  | .loopAir l => [(1, 1), (1, l.val), (1, 3)]

/-- The fields of the six search parameters (R67, R155). -/
def paramFields (p : SearchParams) : List (Nat × Nat) :=
  [(2, p.settle), (2, p.observe), (2, p.rest), (2, p.quiet), (2, p.floor), (1, p.restarts)]

/-! ### Restaging -/

/-- Between two states F*n* has restaged and nothing else of the fan channels has changed: its own staged duty is
the lower of R and the section's ceiling, it hands that on, or in a formed gang both members hand on the lower of
the two own staged duties, and 0 is handed on while the stop input is asserted (R129, R131, R132). -/
def Restaged (s t : State) (n : Slot) : Prop :=
  let own := min (s.fan n).ramp (fanCeiling (t.sec n))
  let duty := match t.partner n with
    | none => own
    | some p => min own (s.fan p).ownStaged
  ∀ m, t.fan m =
    if m = n then
      { s.fan m with
        ownStaged := own
        gen := { (s.fan m).gen with stagedDuty := if t.stopLow then 0 else duty } }
    else if t.partner n = some m then
      { s.fan m with gen := { (s.fan m).gen with stagedDuty := if t.stopLow then 0 else duty } }
    else s.fan m

/-- The clear lines whose masks hold a section have acted on their conditions, as they were before and as they now
are; the others are as they were (R157, R158). -/
def LinesEvaluated (s t : State) (n : Slot) : Prop :=
  ∀ k, t.line k =
    if (s.line k).mask.getLsbD n.val then
      (s.line k).act (t.maskSafe (s.line k).mask) (t.expiryIn (delaySeconds (s.line k).delayCode))
    else s.line k

/-! ### Destination fields, lines and marks -/

/-- Between two states every destination field has become what `v` says, and nothing else of the section and loop
records has changed. -/
def DestsBecome (s t : State) (v : DestField → Destination) : Prop :=
  (∀ n, t.sec n =
    { s.sec n with outlet := v (.outlet n), air := v (.air n), valve := v (.valve n) }) ∧
  ∀ l, t.loopRec l =
    { s.loopRec l with
      flow := v (.loopFlow l), pressure := v (.loopPressure l), concentration := v (.loopConcentration l),
      air := v (.loopAir l) }

/-- The lines that hold a section whose OUTLET is among some destination fields have become RELEASED with their
timers stopped, and the others are as they were (R157, R158). -/
def LinesReleased (s t : State) (among : DestField → Prop) : Prop :=
  ∀ k,
    ((∃ n, among (.outlet n) ∧ (s.line k).mask.getLsbD (Fin.val n) = true) →
      t.line k = { s.line k with state := .released, timer := none }) ∧
    ((∀ n, among (.outlet n) → (s.line k).mask.getLsbD (Fin.val n) = false) → t.line k = s.line k)

/-- A destination field after a capture at a moment given in tenths: the value, the flag and the freshness timer
are new, and under LOWEST they are combined with those held while a window runs (R102, R103). -/
def Destination.captured (d : Destination) (f : Binding) (value : Int) (q : Quality) (tenths : Nat) :
    Destination :=
  let expiry := tenths + 10 * f.freshLimit
  let alone : Stored := { value := value, quality := q, captured := BitVec.ofNat 32 tenths }
  match f.combine, d.combineTimer, d.stored with
  | .lowest, some w, some old =>
    { status := .fresh
      stored := some
        { value := min old.value value
          quality := if old.quality = .ok ∧ q = .ok then .ok else .suspect
          captured := BitVec.ofNat 32 tenths }
      staleSince := none
      freshTimer := some expiry
      combineTimer := some w
      holdTimer := none }
  | .lowest, w, _ =>
    { status := .fresh, stored := some alone, staleSince := none, freshTimer := some expiry,
      combineTimer := some (w.getD expiry), holdTimer := none }
  | .replace, w, _ =>
    { status := .fresh, stored := some alone, staleSince := none, freshTimer := some expiry,
      combineTimer := w, holdTimer := none }

/-! ### Readings that arrive -/

/-- The part at the gap that ends a fragment, whatever the fragment held: time has passed, the receiver is in step,
the silence is counted from the fragment's last character or later, and a transmission that has stopped is over
(R89, log entries 12 and 13). -/
def State.atGap (s : State) (dt : Nat) : State :=
  { s with
    time := s.time + dt
    receiverSynced := true
    busIdleFrom := max s.silentFrom (s.time + dt - 2 * unitsPerChar)
    transmission := if (s.advance dt).sending then s.transmission else none }

/-- A fragment of field nodes' characters ends after a time in the telegram of a reading which the part hears and
delivers, with OK or SUSPECT quality, to a binding: the lowest that it matches (R89, R93 to R95, R99, R100). -/
def Delivers (s : State) (dt : Nat) (chars : List BusChar) (b : BindingId) (f : Binding) (r : Reading)
    (q : Quality) : Prop :=
  s.inReset = false ∧ (s.advance dt).sending = false ∧ (∀ c ∈ chars, c.own = false) ∧
    (s.advance dt).hears chars = true ∧
    (∃ x, decodeFragment chars = some (.ok x) ∧ x.command = false ∧ readingOf x = some r) ∧
    (r.quality = .ok ∧ q = .ok ∨ r.quality = .suspect ∧ q = .suspect) ∧ s.binding b = .active f ∧
    f.covers r = true ∧ ∀ c < b, (s.binding c).matchesReading r = false

/-- What the destination of a binding holds after the capture of a delivered reading (R102, R103). -/
def State.keeps (s : State) (dt : Nat) (f : Binding) (r : Reading) (q : Quality) : Destination :=
  (s.dest f.dest).captured f r.value q ((s.time + dt) / unitsPerTenth)

/-- After that capture every section of a list reads a position on its VALVE destination (R140, R144, R147). -/
def State.readsAfter (s : State) (kept : Destination) (n : Slot) (slots : List Slot) (position : Int) : Prop :=
  ∀ m ∈ slots, (if m = n then kept else (s.sec m).valve).reads position = true

/-! ### Endings and isolations -/

/-- A search context in IDLE: both timers stopped, the isolated set, the wait set and the window empty, a result held,
and every other field as it was (R135, R148). -/
def SearchContext.ended (c : SearchContext) (result : SearchResult) : SearchContext :=
  { c with
    state := .idle, isolated := [], wait := [], phaseTimer := none, deadline := none,
    window := { count := 0, first := none, last := none }, result := result }

/-- OPEN stands in the transmit queue for every section of a list that has a valve node (R116, R136). -/
def OpenPosted (s t : State) (slots : List Slot) : Prop :=
  ∀ n ∈ slots, (s.sec n).config.valveNode ≠ none → { slot := n, command := .toOpen } ∈ t.txQueue

/-- The leak monitor of a search's loop has left its pause and begun a window, of the length the loop's record holds
(R84, R148, log entry 23). -/
def MonitorBegins (s t : State) (loopOf : Option LoopId) : Prop :=
  ∀ l, loopOf = some l →
    let seconds := (s.loopRec l).config.leakWindow
    (t.loopRec l).leakTimer = some (t.time / unitsPerTenth + 10 * seconds) ∧
      (t.loopRec l).leakLength = seconds ∧
      (t.loopRec l).leakWindow = { count := 0, first := none, last := none }

/-- The search has ended with a result: its context is IDLE, SEARCH_END is posted, no section it had isolated is still
marked, OPEN is posted for each of them that has a valve node, and the leak monitor of its loop has begun a window
(R135, R136, R148). -/
def SearchEnded (s t : State) (result : SearchResult) : Prop :=
  t.search = s.search.ended result ∧ { kind := .searchEnd, subject := 0 } ∈ t.attention ∧
    (∀ n, (t.sec n).mark = if n ∈ s.search.isolated then .none else (s.sec n).mark) ∧
    OpenPosted s t s.search.isolated ∧ MonitorBegins s t s.search.loopOf

/-- The isolation of a suspect range (R139), from a search context whose timers have stopped and from given marks: the
first half of the range, rounded up, is marked PROBE and the search settles; or the search is suspended for a
member not in NORMAL; or it ends with VALVE_FAULT for every member without a valve node. -/
def IsolationMade (s t : State) (c : SearchContext) (p : SearchParams) (tenths : Nat) (marks : Slot → Mark) :
    Prop :=
  let half := (c.range.length + 1) / 2
  let members := (c.range.take half).flatMap SearchUnit.members
  let step : SearchContext :=
    { c with
      phase := some (if c.range.length = 1 then .confirm else .probe), probed := half, wait := [],
      deadline := none }
  ((∃ n ∈ members, (s.sec n).protection ≠ .normal) →
    t.search =
        { step with
          state := .suspended, wait := members,
          phaseTimer := if p.rest = 0 then none else some (tenths + 10 * p.rest) } ∧
      ∀ n, (t.sec n).mark = marks n) ∧
  ((∀ n ∈ members, (s.sec n).protection = .normal) → (∃ n ∈ members, (s.sec n).config.valveNode = none) →
    t.search = step.ended .valveFault ∧ OpenPosted s t c.isolated ∧ MonitorBegins s t c.loopOf ∧
      { kind := .searchEnd, subject := 0 } ∈ t.attention ∧
      (∀ n ∈ members, (s.sec n).config.valveNode = none →
        { kind := .valveFault, subject := n.val } ∈ t.attention) ∧
      ∀ n, (t.sec n).mark = if n ∈ c.isolated then .none else marks n) ∧
  ((∀ n ∈ members, (s.sec n).protection = .normal ∧ (s.sec n).config.valveNode ≠ none) →
    t.search =
        { step with
          state := .settling, isolated := members, repeats := 0, window := .empty,
          phaseTimer := some (tenths + 10 * p.settle),
          deadline := some (tenths + 10 * (p.settle + 60)) } ∧
      (∀ n, (t.sec n).mark = if n ∈ members then .probe else marks n) ∧
      ∀ n ∈ members, { slot := n, command := .toClosed } ∈ t.txQueue)

/-- The transmit queue holds at most one entry for a section (R114). -/
def State.entriesKept (s : State) : Prop := (s.txQueue.map (·.slot)).Nodup

/-- A search has begun in a loop (R137 to R139): the context is that of its first step, which settles, with the loop's
parameters copied; the first half of the candidate list, rounded up, is marked PROBE, its refresh timers run again,
CLOSED is posted for it, its fan channels hand on 0 and the lines that hold its sections are RELEASED; and the other
records, queue entries, channels and lines are as before (R114, R129, R131, R157). -/
def SearchBegun (s t : State) (l : LoopId) (tenths : Nat) : Prop :=
  let p := (s.loopRec l).config.search
  let list := s.candidateList l
  let half := (list.length + 1) / 2
  let members := (list.take half).flatMap SearchUnit.members
  t.search =
    { state := .settling, phase := some (if list.length = 1 then .confirm else .probe),
      loopOf := some l, params := some p, candidates := list, rangeLo := 0,
      rangeHi := list.length, probed := half, isolated := members, wait := [], steps := 1,
      repeats := 0, preemptions := 0, restartsUsed := 0,
      phaseTimer := some (tenths + 10 * p.settle),
      deadline := some (tenths + 10 * (p.settle + 60)), window := .empty,
      lastRate := none, heldUnit := none, result := .none } ∧
  (∀ n, t.sec n =
    if n ∈ members then { s.sec n with mark := .probe, refreshTimer := some (tenths + 100) }
    else s.sec n) ∧
  (∀ n ∈ members, { slot := n, command := .toClosed } ∈ t.txQueue ∧ fanCeiling (t.sec n) = 0) ∧
  (s.entriesKept → ∀ e ∈ t.txQueue, e.slot ∈ members → e.command = .toClosed) ∧
  t.txQueue.filter (fun e => e.slot ∉ members) = s.txQueue.filter (fun e => e.slot ∉ members) ∧
  (∀ n, t.fan n =
    if n ∈ members then
      { s.fan n with ownStaged := 0, gen := { (s.fan n).gen with stagedDuty := 0 } }
    else s.fan n) ∧
  (∀ k, t.line k =
    if ∃ n ∈ members, (s.line k).mask.getLsbD n.val = true then
      { s.line k with state := .released, timer := none }
    else s.line k)

/-- A suspended search has judged its resumption, with the sections as they are in `s` (R147): it repeats its step
where the rest timer has expired and every awaited section is in NORMAL and reads open, and else it stays. -/
def Resumption (s t : State) (p : SearchParams) (tenths : Nat) : Prop :=
  let c := s.search
  let met :=
    c.phaseTimer = none ∧
      ∀ m ∈ c.wait, (s.sec m).protection = .normal ∧ (s.sec m).valve.reads 0 = true
  (met → IsolationMade s t { c with wait := [] } p tenths fun m => (s.sec m).mark) ∧
    (¬ met → t.search = c ∧ ∀ m, (t.sec m).mark = (s.sec m).mark)

/-! ### Stage 0 of an evaluation -/

/-- The value of a FRESH or HELD destination (R33). -/
def Destination.live (d : Destination) : Option Int :=
  if d.status = .fresh ∨ d.status = .held then d.stored.map (·.value) else none

/-- The last value of a STALE destination (R33). -/
def Destination.last (d : Destination) : Option Int :=
  if d.status = .stale then d.stored.map (·.value) else none

/-- The staleness age of a destination in tenths, 0 unless it holds the moment it went STALE (R33). -/
def Destination.age (d : Destination) (tenths : Nat) : Nat :=
  min (2 ^ 32 - 1) (tenths - d.staleSince.getD tenths)

/-- The last value of a STALE destination of at most an age (R33). -/
def Destination.recent (d : Destination) (tenths limit : Nat) : Option Int :=
  if d.age tenths ≤ limit then d.last else none

/-! ### Invariants -/

/-- How many subjects a kind has (R162). -/
def CauseKind.subjects : CauseKind → Nat
  | .restarted | .stop | .searchEnd => 1
  | .trip | .frozenHold | .valveFault | .leakHeld | .defend | .watch => 24
  | .leakSuspect | .regime => 4
  | .stale => 48

/-- The attention set is kept in its order, no pair twice, each with a subject its kind has (R162, R166). -/
def State.attentionKept (s : State) : Prop :=
  s.attention.Pairwise (fun a b => a.key < b.key) ∧ ∀ c ∈ s.attention, c.subject < c.kind.subjects

/-- Every deficit integrator lies within 0 and 4,000,000 (R46). -/
def State.integratorsBounded (s : State) : Prop := ∀ n, (s.sec n).integrator ≤ 4000000

/-- Both freeze curves lie in -6000 to 0 and are non-increasing (R74). -/
def State.curvesKept (s : State) : Prop := curveOrdered s.curveA = true ∧ curveOrdered s.curveB = true

/-- The evaluation queue holds each slot at most once, and LIVE slots only; the evaluation timer runs for LIVE
slots only (R28, R30). -/
def State.queueKept (s : State) : Prop :=
  s.evalQueue.Nodup ∧ (∀ n ∈ s.evalQueue, (s.sec n).slot = .live) ∧
    ∀ n, (s.sec n).evalTimer ≠ none → (s.sec n).slot = .live

/-- No destination field is fed by two bindings, no binding targets a VACANT or RETIRING section, and each
destination's kind is its pattern's (R98). -/
def State.bindingsKept (s : State) : Prop :=
  (∀ b c d, (s.binding b).feeds d = true → (s.binding c).feeds d = true → b = c) ∧
    ∀ b f, (s.binding b).fields = some f → s.outOfService f.dest = false ∧ fieldKind f.dest = f.kind

/-- Every slot in a clear line's mask is STARTING or LIVE (R156). -/
def State.masksKept (s : State) : Prop :=
  ∀ k n, (s.line k).mask.getLsbD (Fin.val n) = true → (s.sec n).slot.inService = true

/-- The thresholds and the three limit sets of every enrolled section are ordered (R5). -/
def State.orderingsKept (s : State) : Prop :=
  ∀ n, (s.sec n).slot ≠ .vacant → (s.sec n).config.ordered = true ∧ (s.sec n).active.ordered = true

/-- Every marked section is in the isolated set, which is empty while the search is IDLE, RESTING or SUSPENDED; so
no section is marked in those states (R135, R136). -/
def State.marksKept (s : State) : Prop :=
  (∀ n, (s.sec n).mark ≠ .none → n ∈ s.search.isolated) ∧
    (s.search.state = .idle ∨ s.search.state = .resting ∨ s.search.state = .suspended →
      s.search.isolated = [])

/-- A destination field holds what R101 gives its status: a value unless it is AWAITING, the moment it went STALE
while it is STALE, a freshness timer while it is FRESH and a hold timer while it is HELD. -/
def Destination.kept (d : Destination) : Prop :=
  (d.stored = none ↔ d.status = .awaiting) ∧ (d.staleSince ≠ none ↔ d.status = .stale) ∧
    (d.freshTimer ≠ none ↔ d.status = .fresh) ∧ (d.holdTimer ≠ none ↔ d.status = .held)

/-- Every destination field holds what its status says (R101, R104, R109). -/
def State.destinationsKept (s : State) : Prop := ∀ d, (s.dest d).kept

/-- Outside a reset: a fan channel is enabled exactly while its slot is not VACANT; its own staged duty is the lower
of R and its section's fan ceiling; and it hands its generator that, or in a formed gang the lower of the two own
staged duties, or 0 while the stop input is asserted (R126, R129 to R132). -/
def State.fansHeld (s : State) : Prop :=
  s.inReset = false → ∀ n,
    (s.fan n).gen.enabled = decide ((s.sec n).slot ≠ .vacant) ∧
      (s.fan n).ownStaged = min (s.fan n).ramp (fanCeiling (s.sec n)) ∧
      (s.fan n).gen.stagedDuty =
        if s.stopLow then 0
        else
          match s.partner n with
          | none => (s.fan n).ownStaged
          | some p => min (s.fan n).ownStaged (s.fan p).ownStaged

/-- Outside a reset: the staged pump duty of every SET loop is the one R82 decides. -/
def State.pumpsDecided (s : State) : Prop :=
  s.inReset = false → ∀ l, (s.loopRec l).isSet = true → (s.pump l).stagedDuty = s.pumpDuty l

/-- Every clear line is ASSERTED, or has its delay timer running, exactly while its condition holds (R157, R158). -/
def State.linesHeld (s : State) : Prop :=
  ∀ k, ((s.line k).state = .asserted ∨ (s.line k).timer ≠ none) ↔ s.maskSafe (s.line k).mask = true

/-- Every reply fits its frame (R170). -/
def State.replyFits (s : State) : Prop := s.reply.payload.length ≤ 60

end Sys2Proof.Machine
end

