-- ==== Sys2Proof/WellFormed.lean ====
section
/-! DEFINITION. Which commands can be sent: what a frame, a transaction or a fragment must be for a command
to spell it. A well-formed command may still be refused by the part; the machine judges that. -/

namespace Sys2Proof

/-- Where a payload's group code (its first byte) puts an AMEND, a LOOP SET or a HOLD: on the row of that
code, or, where the code is absent or not defined, on the first row (`amendCommand` and its like). -/
def groupIs (code count : Nat) (payload : List Byte) : Bool :=
  match payload.head? with
  | some g => g.toNat == code || (code == 0 && count ≤ g.toNat)
  | none => code == 0

/-- A payload fits a request frame: at most 60 bytes (section 9.2). -/
def payloadFits (payload : List Byte) : Bool := payload.length ≤ 60

/-- A transaction of `bytes` and `extra` further clock pulses is broken: not exactly 64 whole bytes, with
fewer than eight pulses beyond the whole bytes (R168). -/
def isBroken (bytes : List Byte) (extra : Nat) : Bool :=
  extra < 8 && !(bytes.length == 64 && extra == 0)

/-- A frame of 64 bytes fails a check of R169. -/
def isRefused (frame : List Byte) : Bool :=
  frame.length == 64 &&
    match judgeFrame frame with
    | .ok _ => false
    | .error _ => true

/-- The silences between the characters of a fragment are each below the two character times of a gap (R89). -/
def pausesFit (chars : List BusChar) : Bool :=
  chars.tail.all fun c => c.pause < 2 * unitsPerChar

/-- Well-formed commands. -/
def Instr.wellFormed : Instr → Bool
  | .null _ _ p | .enrol _ _ p | .lookup _ _ p | .fanDemand _ _ p | .acknowledgeTrip _ _ p
  | .retire _ _ p | .loopLookup _ _ p | .pumpDemand _ _ p | .curveLoad _ _ p | .curveLookup _ _ p
  | .bind _ _ p | .unbind _ _ p | .bindingLookup _ _ p | .seenRead _ _ p | .seenClear _ _ p
  | .clearLineSet _ _ p | .clearLineLookup _ _ p | .searchStart _ _ p | .searchStop _ _ p
  | .searchLookup _ _ p | .nextAttention _ _ p | .attentionLevels _ _ p | .partStatus _ _ p
  | .partConfigure _ _ p | .fullReset _ _ p => payloadFits p
  | .amendFlow _ _ p => payloadFits p && groupIs 0 7 p
  | .amendThresholds _ _ p => payloadFits p && groupIs 1 7 p
  | .amendStaleness _ _ p => payloadFits p && groupIs 2 7 p
  | .amendRamp _ _ p => payloadFits p && groupIs 3 7 p
  | .amendValve _ _ p => payloadFits p && groupIs 4 7 p
  | .amendGang _ _ p => payloadFits p && groupIs 5 7 p
  | .amendLimits _ _ p => payloadFits p && groupIs 6 7 p
  | .loopSetGlycol _ _ p => payloadFits p && groupIs 0 6 p
  | .loopSetRegime _ _ p => payloadFits p && groupIs 1 6 p
  | .loopSetPump _ _ p => payloadFits p && groupIs 2 6 p
  | .loopSetLeak _ _ p => payloadFits p && groupIs 3 6 p
  | .loopSetSearch _ _ p => payloadFits p && groupIs 4 6 p
  | .loopSetUnset _ _ p => payloadFits p && groupIs 5 6 p
  | .holdOn _ _ p => payloadFits p && groupIs 0 2 p
  | .holdOff _ _ p => payloadFits p && groupIs 1 2 p
  | .brokenTransaction _ bytes extra => isBroken bytes extra
  | .frameRefused _ frame => isRefused frame
  | .transmissionEnd _ readBack => readBack.length ≤ 9
  | .fragmentEnd _ chars => pausesFit chars
  | .transactionBegin _ | .notReadyTransactionEnd _ | .replyReady | .powerOn .. | .pinReset
  | .stopAssertion _ | .stopRelease _ | .transmissionBegin _ | .evaluationTake _
  | .evaluationTimerExpiry _ | .refreshTimerExpiry _ | .freshnessExpiry _ | .combiningWindowExpiry _
  | .holdExpiry _ | .fanRampExpiry _ | .pumpRampExpiry _ | .periodBoundary .. | .leakWindowExpiry _
  | .delayTimerExpiry _ | .settleTimerExpiry | .settleDeadlineExpiry | .observeTimerExpiry
  | .restTimerExpiry | .restDeadlineExpiry | .channelClockTick .. | .resetInputAssertion => true

end Sys2Proof
end

