-- ==== Sys2Proof/Certificates/Slice0/Obligations.lean ====
section
/-! DEFINITION. The statements about the CX24 for the provers. Rules of spec/ are named in each docstring, with the log
entries on which a clause rests. -/

open Sys2Proof Sys2Proof.Machine

/-- A step takes the command at the front of the queue. The queue, and that an empty one idles, are the model's choice
(log entry 1). -/
def Obligations.StepRunsTheFrontCommand : Prop :=
  ∀ s : State,
    (∀ c rest, s.pending = c :: rest → step s = exec c { s with pending := rest }) ∧
      (s.pending = [] → step s = .next s)

/-- R91: the layout of a coded byte. R92: the syndrome and the four outcomes; so every single inverted bit is corrected
and every two inverted bits are found. -/
def Obligations.NibbleCodeCorrectsAndDetects : Prop :=
  (∀ v : BitVec 4,
    let d1 := v.getLsbD 3
    let d2 := v.getLsbD 2
    let d3 := v.getLsbD 1
    let d4 := v.getLsbD 0
    let b := encodeNibble v
    b.getLsbD 0 = (d1 ^^ d2 ^^ d4) ∧ b.getLsbD 1 = (d1 ^^ d3 ^^ d4) ∧ b.getLsbD 2 = d1 ∧
      b.getLsbD 3 = (d2 ^^ d3 ^^ d4) ∧ b.getLsbD 4 = d2 ∧ b.getLsbD 5 = d3 ∧ b.getLsbD 6 = d4 ∧
      ((List.range 8).filter fun i => b.getLsbD i).length % 2 = 0) ∧
  (∀ b : Byte,
    let s1 := b.getLsbD 0 ^^ b.getLsbD 2 ^^ b.getLsbD 4 ^^ b.getLsbD 6
    let s2 := b.getLsbD 1 ^^ b.getLsbD 2 ^^ b.getLsbD 5 ^^ b.getLsbD 6
    let s3 := b.getLsbD 3 ^^ b.getLsbD 4 ^^ b.getLsbD 5 ^^ b.getLsbD 6
    let z := s1.toNat + 2 * s2.toNat + 4 * s3.toNat
    let ones := ((List.range 8).filter fun i => b.getLsbD i).length
    let data (c : Byte) : BitVec 4 :=
      BitVec.ofBoolListBE [c.getLsbD 2, c.getLsbD 4, c.getLsbD 5, c.getLsbD 6]
    decodeNibble b =
      if z = 0 then some (data b)
      else if ones % 2 = 1 then some (data (b ^^^ 1#8 <<< (z - 1)))
      else none) ∧
  ∀ v : BitVec 4,
    decodeNibble (encodeNibble v) = some v ∧
      (∀ i : Fin 8, decodeNibble (encodeNibble v ^^^ 1#8 <<< i.val) = some v) ∧
      ∀ i j : Fin 8, i ≠ j →
        decodeNibble (encodeNibble v ^^^ 1#8 <<< i.val ^^^ 1#8 <<< j.val) = none

/-- R90 to R93: a telegram as laid out decodes to its contents, survives one inverted bit in a coded byte, and is dropped
for two in the same byte. -/
def Obligations.TelegramsDecodeBack : Prop :=
  ∀ t : Telegram,
    decodeFragment (heard (encodeTelegram t)) = some (.ok t) ∧
      ∀ (k : Fin 4) (i : Fin 8),
        decodeFragment (heard (flipBit (k.val + 1) i (encodeTelegram t))) = some (.ok t) ∧
          ∀ j : Fin 8, j ≠ i →
            decodeFragment (heard (flipBit (k.val + 1) j (flipBit (k.val + 1) i (encodeTelegram t)))) =
              some (.error .doubleError)

/-- Section 9.2, R169 and R173: encoding a request and judging its frame gives the request back. The group codes are
read from the order of the tables (log entries 8 and 9). -/
def Obligations.RequestFramesDecode : Prop :=
  ∀ c dt f, c.wellFormed = true → (∃ k j p, requestParts c = some (k, dt, j, p)) →
    frameOfCommand c = some f → f.length = 64 ∧ commandOfFrame dt f = c

/-- R8, R174, R21 and R171: the subject, the table of slot states and the lengths. R9 with R5 and R12: the checks of
ENROL in their order. R13: the checks of AMEND up to the length. An AMEND whose group code is missing is refused
BAD_LENGTH by the model's choice (log entry 10), which no clause here rests on. The group codes are log entry 8. -/
def Obligations.SectionRequestsBySlotState : Prop :=
  ∀ (s : State) c k dt j p, s.taking → requestParts c = some (k, dt, j, p) → 1 ≤ k → k ≤ 6 →
    let refused (status : Status) := exec c s = .next (s.answered dt k status [])
    (24 ≤ j.toNat → refused .badSubject) ∧
    ∀ n : Slot, j = indexByte n →
      (k = 1 → p.length = 38 → (s.sec n).slot ≠ .vacant → refused .occupied) ∧
      (k = 2 ∨ k = 4 ∧ p.length = 1 ∨ k = 5 ∧ p.length = 0 ∨ k = 6 ∧ p.length = 0 →
        ((s.sec n).slot = .vacant → refused .vacant) ∧ ((s.sec n).slot = .retiring → refused .busy)) ∧
      (k ≠ 2 → p.length ≠ [0, 38, 0, 1, 1, 0, 0].getD k 0 → refused .badLength) ∧
      (k = 3 → p.length = 1 → 2 ≤ field8 p 0 → refused .badKind) ∧
      (k = 3 → p.length = 1 → field8 p 0 < 2 → (s.sec n).slot = .vacant →
        exec c s = .next (s.answered dt k .done [0])) ∧
      (k = 1 → p.length = 38 → (s.sec n).slot = .vacant →
        let config := (enrolConfig p).value
        let other := s.sec (neighbourOf n)
        let undefined := 2 ≤ field8 p 22 ∨ 2 ≤ field8 p 25 ∨ 2 ≤ field8 p 27
        let flagged := if n.val % 2 = 0 then config.gangFlag = true else other.config.gangFlag = true
        let disordered :=
          config.gangFlag = true ∧ n.val % 2 = 1 ∨
            ¬ (config.iWatch < config.iDefend ∧ config.iDefend < config.iTrip) ∨
            (∃ m ∈ [config.mild, config.frost], ¬ (m.defend ≤ m.watch ∧ m.watch ≤ m.fan)) ∨
            flagged ∧ other.slot ≠ .vacant ∧ other.config.loopOf ≠ config.loopOf
        (4 ≤ field8 p 0 → refused .badSubject) ∧
        (field8 p 0 < 4 →
          config.loopOf.val = field8 p 0 ∧
          (undefined → refused .badKind) ∧
          (¬ undefined → (s.loopRec config.loopOf).isSet = false → refused .loopUnset) ∧
          (¬ undefined → (s.loopRec config.loopOf).isSet = true →
            (disordered → refused .order) ∧
            (¬ disordered → flagged → other.slot.inService = true → s.search.state ≠ .idle →
              s.search.loopOf = some config.loopOf → refused .busy)))) ∧
      ∀ g q, k = 2 → p = g :: q → (s.sec n).slot.inService = true →
        let undefined :=
          7 ≤ g.toNat ∨
            ∃ x ∈ [(3, 1, 2), (4, 1, 2), (5, 1, 2), (6, 1, 3), (6, 2, 2)],
              g.toNat = x.1 ∧ x.2.1 < p.length ∧ x.2.2 ≤ field8 p x.2.1
        (undefined → refused .badKind) ∧
        (¬ undefined → p.length ≠ [4, 15, 5, 4, 3, 2, 8].getD g.toNat 0 → refused .badLength)

/-- R9, R11, R126: acceptance of ENROL. The premises are that every check of R9 and R12 passes. A node byte other than
0 after a presence byte 0 is accepted, by the model's choice (log entry 10). -/
def Obligations.EnrolStartsASection : Prop :=
  ∀ (s : State) (dt : Nat) (n : Slot) (p : List Byte) (l : LoopId),
    let c := (enrolConfig p).value
    s.taking → (s.sec n).slot = .vacant → p.length = 38 → field8 p 0 = l.val →
    field8 p 22 < 2 → field8 p 25 < 2 → field8 p 27 < 2 → (s.loopRec l).isSet = true →
    (c.gangFlag = true → n.val % 2 = 0) → c.ordered = true → s.enrolGangRefusal n c = none →
    ∃ t, exec (.enrol dt (indexByte n) p) s = .next t ∧
      t.sec n =
        { SectionRecord.cleared with
          slot := .starting, config := c, active := c.stored (s.loopRec l).regime,
          refreshTimer :=
            if c.valveNode.isSome then some ((s.time + dt) / unitsPerTenth + 100) else none } ∧
      (∀ m, m ≠ n → t.sec m = s.sec m) ∧
      t.fan n =
        { gen :=
            { enabled := true, counter := 0, direction := .up, stagedDuty := 0,
              stagedPeriod := s.drive.fanPeriod, dutyInForce := 0, periodInForce := s.drive.fanPeriod,
              compareInForce := 0, output := idleLevel (s.fanActiveLow n) }
          ramp := 0, rampTimer := some (s.time + dt + unitsPerRamp), ownStaged := 0 } ∧
      (∀ m, m ≠ n →
        t.fan m =
          if t.partner n = some m then
            { s.fan m with gen := { (s.fan m).gen with stagedDuty := 0 } }
          else s.fan m) ∧
      fanCeiling (t.sec n) = (t.sec n).active.defend ∧
      t.txQueue = (if c.valveNode.isSome then postEntry n .toOpen s.txQueue else s.txQueue) ∧
      t = { s.answered dt 1 (doneStatus ((enrolConfig p).changed = true)) [] with
            sections := t.sections, fans := t.fans, txQueue := t.txQueue }

/-- R4 and R5: ranges, defaults and what counts as clamping, and the fields that are not scalars. The places of the
fields in the payload follow the order of R4 under R171; that the gang flag has on coded 0 is log entry 9, and that
the node byte is looked at only after a presence byte 1 log entry 10. -/
def Obligations.EnrolClampsItsScalars : Prop :=
  ∀ p : List Byte,
    let c := (enrolConfig p).value
    (∀ l : LoopId, field8 p 0 = l.val → c.loopOf = l) ∧ (field8 p 22 = 0 → c.lowering = .drop) ∧
    (field8 p 22 = 1 → c.lowering = .slew) ∧ (field8 p 25 = 0 → c.valveNode = none) ∧
    (field8 p 25 = 1 → c.valveNode = some (p.getD 26 0)) ∧ (c.gangFlag = true ↔ field8 p 27 = 0) ∧
    c.designFlow = clampNat 10 65000 (field16 p 1) ∧ c.weight = clampNat 1 15 (field8 p 3) ∧
    c.hardFloor = clampNat 0 1000 (field16 p 4) ∧ c.iWatch = orDefault 30000 1 4000000 (field32 p 6) ∧
    c.iDefend = orDefault 120000 1 4000000 (field32 p 10) ∧
    c.iTrip = orDefault 600000 1 4000000 (field32 p 14) ∧ c.penalty = clampNat 0 100 (field8 p 18) ∧
    c.grace = clampNat 0 300 (field16 p 19) ∧ c.emax = orDefault 4 1 30 (field8 p 21) ∧
    c.riseStep = orDefault 8 1 64 (field8 p 23) ∧ c.fallStep = orDefault 4 1 64 (field8 p 24) ∧
    c.mild =
      { fan := field8 p 28, watch := field8 p 29, defend := field8 p 30,
        guard := clampNat 0 2000 (field16 p 31) } ∧
    c.frost =
      { fan := field8 p 33, watch := field8 p 34, defend := field8 p 35,
        guard := clampNat 0 2000 (field16 p 36) } ∧
    ((enrolConfig p).changed = true ↔
      c.designFlow ≠ field16 p 1 ∨ c.weight ≠ field8 p 3 ∨ c.hardFloor ≠ field16 p 4 ∨
      (field32 p 6 ≠ 0 ∧ c.iWatch ≠ field32 p 6) ∨ (field32 p 10 ≠ 0 ∧ c.iDefend ≠ field32 p 10) ∨
      (field32 p 14 ≠ 0 ∧ c.iTrip ≠ field32 p 14) ∨ c.penalty ≠ field8 p 18 ∨ c.grace ≠ field16 p 19 ∨
      (field8 p 21 ≠ 0 ∧ c.emax ≠ field8 p 21) ∨ (field8 p 23 ≠ 0 ∧ c.riseStep ≠ field8 p 23) ∨
      (field8 p 24 ≠ 0 ∧ c.fallStep ≠ field8 p 24) ∨ c.mild.guard ≠ field16 p 31 ∨
      c.frost.guard ≠ field16 p 36)

/-- R13, R14, R15, R16, R19. The group codes 0 to 3 are read from the order of R4's table (log entry 8). -/
def Obligations.AmendmentsOfPlainGroups : Prop :=
  ∀ (s : State) (dt : Nat) (n : Slot), s.taking → (s.sec n).slot.inService = true →
    let j := indexByte n
    let config := (s.sec n).config
    let replaced (c : SectionConfig) := tabSet s.sections n { s.sec n with config := c }
    (∀ a b w : Byte,
      exec (.amendFlow dt j [0, a, b, w]) s =
        .next
          { s.answered dt 2
              (doneStatus (clampNat 10 65000 (be16 a b) ≠ be16 a b ∨ clampNat 1 15 w.toNat ≠ w.toNat)) [] with
            sections :=
              replaced
                { config with
                  designFlow := clampNat 10 65000 (be16 a b), weight := clampNat 1 15 w.toNat } }) ∧
    (∀ h1 h2 w1 w2 w3 w4 d1 d2 d3 d4 t1 t2 t3 t4 : Byte,
      let w := orDefault 30000 1 4000000 (be32 w1 w2 w3 w4)
      let d := orDefault 120000 1 4000000 (be32 d1 d2 d3 d4)
      let i := orDefault 600000 1 4000000 (be32 t1 t2 t3 t4)
      let p := [1, h1, h2, w1, w2, w3, w4, d1, d2, d3, d4, t1, t2, t3, t4]
      if w < d ∧ d < i then
        exec (.amendThresholds dt j p) s =
          .next
            { s.answered dt 2
                (doneStatus
                  (clampNat 0 1000 (be16 h1 h2) ≠ be16 h1 h2 ∨
                    wasClamped 1 4000000 (be32 w1 w2 w3 w4) ∨ wasClamped 1 4000000 (be32 d1 d2 d3 d4) ∨
                    wasClamped 1 4000000 (be32 t1 t2 t3 t4))) [] with
              sections :=
                replaced
                  { config with
                    hardFloor := clampNat 0 1000 (be16 h1 h2), iWatch := w, iDefend := d, iTrip := i } }
      else exec (.amendThresholds dt j p) s = .next (s.answered dt 2 .order [])) ∧
    (∀ q g1 g2 e : Byte,
      exec (.amendStaleness dt j [2, q, g1, g2, e]) s =
        .next
          { s.answered dt 2
              (doneStatus
                (clampNat 0 100 q.toNat ≠ q.toNat ∨ clampNat 0 300 (be16 g1 g2) ≠ be16 g1 g2 ∨
                  wasClamped 1 30 e.toNat)) [] with
            sections :=
              replaced
                { config with
                  penalty := clampNat 0 100 q.toNat, grace := clampNat 0 300 (be16 g1 g2),
                  emax := orDefault 4 1 30 e.toNat } }) ∧
    ∀ m r f : Byte,
      if m.toNat < 2 then
        exec (.amendRamp dt j [3, m, r, f]) s =
          .next
            { s.answered dt 2 (doneStatus (wasClamped 1 64 r.toNat ∨ wasClamped 1 64 f.toNat)) [] with
              sections :=
                replaced
                  { config with
                    lowering := if m = 0 then .drop else .slew, riseStep := orDefault 8 1 64 r.toNat,
                    fallStep := orDefault 4 1 64 f.toNat } }
      else exec (.amendRamp dt j [3, m, r, f]) s = .next (s.answered dt 2 .badKind [])

/-- R17 and R114 to R116. The group code 4 is read from the order of R4's table (log entry 8); a node byte other than 0
after a presence byte 0 is accepted by the model's choice (log entry 10); the end of the character in progress is log
entry 13. -/
def Obligations.AmendmentOfTheValve : Prop :=
  ∀ (s : State) (dt : Nat) (n : Slot) (present node : Byte), s.taking → (s.sec n).slot.inService = true →
    present.toNat < 2 →
    ((s.sec n).mark ≠ .none →
      exec (.amendValve dt (indexByte n) [4, present, node]) s = .next (s.answered dt 2 .held [])) ∧
    ((s.sec n).mark = .none →
      let others := s.txQueue.filter (·.slot != n)
      let charEnd (x : Transmission) :=
        x.began + min 9 ((s.time + dt - x.began) / unitsPerChar + 1) * unitsPerChar
      exec (.amendValve dt (indexByte n) [4, present, node]) s =
        .next
          { s.answered dt 2 .done [] with
            sections :=
              tabSet s.sections n
                { s.sec n with
                  config := { (s.sec n).config with valveNode := if present = 1 then some node else none }
                  refreshTimer :=
                    if present = 1 then some ((s.time + dt) / unitsPerTenth + 100) else none }
            txQueue := if present = 1 then others ++ [{ slot := n, command := .toOpen }] else others
            transmission :=
              s.transmission.map fun x =>
                if x.slot = n then { x with stopAt := some (x.stopAt.getD (charEnd x)) } else x })

/-- R12, R13, R18, R131. A change of the flag that forms and dissolves no gang, because the other slot is not in
service, is accepted while a search runs. The group code 5 and the flag codes on 0, off 1 are log entries 8 and 9. -/
def Obligations.AmendmentOfTheGang : Prop :=
  ∀ (s : State) (dt : Nat) (n : Slot), s.taking → (s.sec n).slot.inService = true →
    let other := s.sec (neighbourOf n)
    let config := (s.sec n).config
    let searched := s.search.state ≠ .idle ∧ s.search.loopOf = some config.loopOf
    (n.val % 2 = 1 → exec (.amendGang dt (indexByte n) [5, 0]) s = .next (s.answered dt 2 .order [])) ∧
    (n.val % 2 = 0 → other.slot.enrolled = true → other.config.loopOf ≠ config.loopOf →
      exec (.amendGang dt (indexByte n) [5, 0]) s = .next (s.answered dt 2 .order [])) ∧
    ∀ on : Bool,
      let p : List Byte := [5, if on then 0 else 1]
      (on = true → n.val % 2 = 0 ∧ (other.slot.enrolled = true → other.config.loopOf = config.loopOf)) →
      (config.gangFlag ≠ on → other.slot.inService = true → searched →
        n.val % 2 = 0 → exec (.amendGang dt (indexByte n) p) s = .next (s.answered dt 2 .busy [])) ∧
      (config.gangFlag = on →
        exec (.amendGang dt (indexByte n) p) s = .next (s.answered dt 2 .done [])) ∧
      (config.gangFlag ≠ on → ¬ (other.slot.inService = true ∧ searched) →
        ∃ t, exec (.amendGang dt (indexByte n) p) s = .next t ∧
          t.sections = tabSet s.sections n { s.sec n with config := { config with gangFlag := on } } ∧
          (∀ m, m ≠ leadOf n → m ≠ followerOf n → t.fan m = s.fan m) ∧
          (∀ m, m = leadOf n ∨ m = followerOf n →
            t.fan m =
              { s.fan m with
                ownStaged := min (s.fan m).ramp (fanCeiling (s.sec m))
                gen :=
                  { (s.fan m).gen with
                    stagedDuty :=
                      if s.stopLow then 0
                      else if t.gangFormed n then
                        min (t.fan (leadOf n)).ownStaged (t.fan (followerOf n)).ownStaged
                      else (t.fan m).ownStaged } }) ∧
          t = { s.answered dt 2 .done [] with sections := t.sections, fans := t.fans })

/-- R5, R20. The group code 6 and the yes-or-no code of apply are log entries 8 and 10. -/
def Obligations.AmendmentOfTheLimits : Prop :=
  ∀ (s : State) (dt : Nat) (n : Slot) (sel apply f w d g1 g2 : Byte), s.taking →
    (s.sec n).slot.inService = true → sel.toNat < 3 → apply.toNat < 2 →
    let r := s.sec n
    let g := clampNat 0 2000 (be16 g1 g2)
    let m : LimitSet := { fan := f.toNat, watch := w.toNat, defend := d.toNat, guard := g }
    let p := [6, sel, apply, f, w, d, g1, g2]
    let regime := (s.loopRec r.config.loopOf).regime
    let reaches := sel = 2 ∨ apply = 1 ∧ (sel = 0 ∧ regime = .mild ∨ sel = 1 ∧ regime = .frost)
    if d.toNat ≤ w.toNat ∧ w.toNat ≤ f.toNat then
      ∃ t, exec (.amendLimits dt (indexByte n) p) s = .next t ∧
        t.sections =
          tabSet s.sections n
            { r with
              config :=
                { r.config with
                  mild := if sel = 0 then m else r.config.mild
                  frost := if sel = 1 then m else r.config.frost }
              active := if reaches then m else r.active } ∧
        (reaches → Restaged s t n) ∧ (¬ reaches → t.fans = s.fans) ∧
        t = { s.answered dt 2 (doneStatus (g ≠ be16 g1 g2)) [] with sections := t.sections, fans := t.fans }
    else exec (.amendLimits dt (indexByte n) p) s = .next (s.answered dt 2 .order [])

/-- R22 and R73. -/
def Obligations.DemandsAreStoredAsSent : Prop :=
  ∀ (s : State) (dt : Nat) (v : Byte), s.taking →
    (∀ n : Slot, (s.sec n).slot.inService = true →
      exec (.fanDemand dt (indexByte n) [v]) s =
        .next
          { s.answered dt 4 .done [] with
            sections := tabSet s.sections n { s.sec n with hostDemand := v.toNat } }) ∧
    (∀ l : LoopId, (s.loopRec l).isSet = true →
      exec (.pumpDemand dt (indexByte l) [v]) s =
        .next
          { s.answered dt 18 .done [] with
            loops := tabSet s.loops l { s.loopRec l with hostDemand := v.toNat } }) ∧
    (∀ l : LoopId, (s.loopRec l).isSet = false →
      exec (.pumpDemand dt (indexByte l) [v]) s = .next (s.answered dt 18 .loopUnset [])) ∧
    ∀ j : Byte, 4 ≤ j.toNat → exec (.pumpDemand dt j [v]) s = .next (s.answered dt 18 .badSubject [])

/-- R53, R54, R55 and the hand-offs of section 3.4; R60 and R147 where a suspended search waits for the section. -/
def Obligations.AcknowledgementOfATrip : Prop :=
  ∀ (s : State) (dt : Nat) (n : Slot), s.taking → (s.sec n).slot.inService = true →
    let r := s.sec n
    let l := r.config.loopOf
    (r.protection ≠ .tripped →
      exec (.acknowledgeTrip dt (indexByte n) []) s = .next (s.answered dt 5 .done [])) ∧
    (r.protection = .tripped → 3 * r.config.iWatch / 4 < r.integrator →
      exec (.acknowledgeTrip dt (indexByte n) []) s = .next (s.answered dt 5 .stillCold [])) ∧
    (r.protection = .tripped → r.integrator ≤ 3 * r.config.iWatch / 4 →
      ∃ t, exec (.acknowledgeTrip dt (indexByte n) []) s = .next t ∧
        (t.sec n).protection = .normal ∧ (t.sec n).integrator = r.integrator ∧
        t.reply = { status := .done, kind := 5, payload := [] } ∧
        (¬ (s.search.state = .suspended ∧ n ∈ s.search.wait ∧ r.mark = .none) →
          t.sections = tabSet s.sections n { r with protection := .normal } ∧ Restaged s t n ∧
          LinesEvaluated s t n ∧
          t.pumps =
            (if (s.loopRec l).isSet then
              tabSet s.pumps l { s.pump l with stagedDuty := t.pumpDuty l }
            else s.pumps) ∧
          t = { s.answered dt 5 .done [] with
                sections := t.sections, fans := t.fans, pumps := t.pumps, lines := t.lines }) ∧
        (s.search.state = .suspended → n ∈ s.search.wait → r.mark = .none →
          let moved := { s with sections := tabSet s.sections n { r with protection := .normal } }
          ∀ p, s.search.params = some p →
            Resumption moved t p ((s.time + dt) / unitsPerTenth)))

/-- R23, R24, R25, R26, R161; R152 for a candidate member while the search runs, with the new step of R139, R144 and
R147. A rest or resumption that the retirement completes begins at the take. Which positions the range keeps is said of
lists that name no section twice, as R135's do. -/
def Obligations.RetirementTakesASectionOut : Prop :=
  ∀ (s : State) (dt : Nat) (n : Slot), s.taking → (s.sec n).slot.inService = true →
    let r := s.sec n
    let l := r.config.loopOf
    let command := Instr.retire dt (indexByte n) []
    let idle := (s.fan n).gen.dutyInForce = 0
    let feeds (b : BindingId) := (s.binding b).fields.any fun f => fieldSlot f.dest == some n
    let without (k : LineId) := (s.line k).mask &&& ~~~(1#24 <<< n.val)
    let c := s.search
    let listed := c.state ≠ .idle ∧ ∃ u ∈ c.candidates, n ∈ u.members
    (r.mark = .probe → exec command s = .next (s.answered dt 6 .held [])) ∧
    (r.mark ≠ .probe → ∃ t, exec command s = .next t ∧
      t.reply = { status := .accepted, kind := 6, payload := [] } ∧
      ((t.sec n).slot = .retiring ∨ t.sec n = .cleared) ∧
      (t.sec (leadOf n)).config.gangFlag = false ∧
      t.evalQueue = s.evalQueue.filter (· != n) ∧
      (∀ b, t.binding b = if feeds b then .empty else s.binding b) ∧
      (∀ k, (t.line k).mask = without k) ∧
      (r.mark = .held →
        t.search = s.search.ended s.search.result ∧ (∀ e ∈ t.txQueue, e.slot ≠ n) ∧
        (if idle then t.sec n = .cleared
        else
          (t.sec n).slot = .retiring ∧ (t.sec n).mark = .none ∧ (t.sec n).valveDrained = true ∧
            (t.sec n).refreshTimer = none) ∧
        ∀ m ∈ s.search.isolated, m ≠ n →
          (t.sec m).mark = .none ∧
            ((s.sec m).config.valveNode.isSome = true → { slot := m, command := .toOpen } ∈ t.txQueue)) ∧
      (r.mark = .none → ¬ listed →
        t.sec n =
          (if idle ∧ r.config.valveNode = none then .cleared
          else
            { r with
              slot := .retiring
              config := { r.config with gangFlag := if n = leadOf n then false else r.config.gangFlag }
              evalTimer := none, refreshTimer := none, outlet := .awaiting, air := .awaiting,
              valve := .awaiting, fanDrained := decide idle, valveDrained := r.config.valveNode.isNone }) ∧
        (∀ m, m ≠ n →
          t.sec m =
            if m = leadOf n then { s.sec m with config := { (s.sec m).config with gangFlag := false } }
            else s.sec m) ∧
        t.fan n =
          (if idle ∧ r.config.valveNode = none then
            { gen := Channel.disable s.drive.fanPeriod (s.fanActiveLow n), ramp := 0, rampTimer := none,
              ownStaged := 0 }
          else { s.fan n with ownStaged := 0, gen := { (s.fan n).gen with stagedDuty := 0 } }) ∧
        (∀ m, m ≠ n →
          t.fan m =
            if m = neighbourOf n then
              { s.fan m with
                ownStaged := min (s.fan m).ramp (fanCeiling (s.sec m))
                gen :=
                  { (s.fan m).gen with
                    stagedDuty := if s.stopLow then 0 else min (s.fan m).ramp (fanCeiling (s.sec m)) } }
            else s.fan m) ∧
        t.txQueue = (if r.config.valveNode.isSome then postEntry n .toOpen s.txQueue else s.txQueue) ∧
        (∀ c, c ∈ t.attention ↔
          c ∈ s.attention ∧ ¬ (c.kind.isSectionKind = true ∧ c.subject = n.val) ∧
            ¬ (c.kind = .stale ∧ ∃ b, feeds b = true ∧ c.subject = b.val)) ∧
        t.loops = tabSet s.loops l { s.loopRec l with coldest := lowest (t.memberAir l) } ∧
        t.pumps =
          (if (s.loopRec l).isSet then tabSet s.pumps l { s.pump l with stagedDuty := t.pumpDuty l }
          else s.pumps) ∧
        (∀ k, t.line k =
          if (s.line k).mask.getLsbD n.val then
            { s.line k with mask := without k }.act (t.maskSafe (without k))
              (t.expiryIn (delaySeconds (s.line k).delayCode))
          else s.line k) ∧
        t = { s.answered dt 6 .accepted [] with
              sections := t.sections, fans := t.fans, loops := t.loops, pumps := t.pumps,
              evalQueue := t.evalQueue, bindings := t.bindings, txQueue := t.txQueue, lines := t.lines,
              attention := t.attention }) ∧
      (r.mark = .none → listed →
        ∃ d : SearchContext,
          d = { c with
                candidates := c.candidates.filterMap (·.without n), rangeLo := d.rangeLo,
                rangeHi := d.rangeHi, probed := d.probed, wait := c.wait.filter (· ≠ n) } ∧
          ((c.candidates.flatMap SearchUnit.members).Nodup →
            d.range = c.range.filterMap (·.without n) ∧
              d.range.take d.probed = (c.range.take c.probed).filterMap (·.without n)) ∧
          (d.rangeHi ≤ d.rangeLo →
            t.search = d.ended .inconclusive ∧ OpenPosted s t c.isolated ∧ MonitorBegins s t c.loopOf ∧
              { kind := .searchEnd, subject := 0 } ∈ t.attention ∧
              ∀ m, (t.sec m).mark = if m ∈ c.isolated then .none else (s.sec m).mark) ∧
          (d.rangeLo < d.rangeHi →
            let opened := d.phaseTimer = none ∧ ∀ m ∈ d.wait, (s.sec m).valve.reads 0 = true
            let normal := ∀ m ∈ d.wait, (s.sec m).protection = .normal
            let rests := n ∈ c.wait ∧ c.state = .resting ∧ opened
            let resumes := n ∈ c.wait ∧ c.state = .suspended ∧ opened ∧ normal
            (¬ rests → ¬ resumes → t.search = d) ∧
            ∀ p, c.params = some p → (c.candidates.flatMap SearchUnit.members).Nodup →
              let tenths := (s.time + dt) / unitsPerTenth
              (rests →
                IsolationMade s t { d with steps := min 255 (c.steps + 1) } p tenths fun m =>
                  (s.sec m).mark) ∧
              (resumes → IsolationMade s t d p tenths fun m => (s.sec m).mark))))

/-- R21, R72, R111, R155, R160, R179: the answers, then the views byte by byte. The layouts are R171's with log entry
10, the members of a loop log entry 15, and the bytes that no rule gives are free values (log entry 3). The codes of
every enumerated field are its place among the values its rule names. -/
def Obligations.LookupsOnlyAnswer : Prop :=
  (∀ (s : State) (dt : Nat), s.taking →
    let now := s.atTake dt
    let time := now.partTime
    (∀ (n : Slot) (v : Byte), (s.sec n).slot ≠ .vacant → v.toNat < 2 →
      exec (.lookup dt (indexByte n) [v]) s =
        .next (s.answered dt 3 .done (if v = 0 then now.configView n else now.liveView n))) ∧
    (∀ (l : LoopId) (v : Byte),
      exec (.loopLookup dt (indexByte l) [v]) s =
        .next
          (if 2 ≤ v.toNat then s.answered dt 17 .badKind []
          else
            s.answered dt 17 .done
              (if (s.loopRec l).isSet = false then [0]
              else if v = 0 then (s.loopRec l).configView
              else now.loopLiveView l))) ∧
    (∀ b : BindingId,
      exec (.bindingLookup dt (indexByte b) []) s =
        .next (s.answered dt 35 .done (if s.binding b = .empty then [0] else now.bindingView b))) ∧
    (∀ k : LineId,
      exec (.clearLineLookup dt (indexByte k) []) s = .next (s.answered dt 49 .done (now.lineView k))) ∧
    exec (.searchLookup dt 0 []) s =
      .next { s.answered dt 66 .done now.searchView with freeCount := s.freeCount + 13 } ∧
    now.searchView.length = 58 ∧
    exec (.partStatus dt 0 []) s =
      .next
        (s.answered dt 96 .done
          [68, 1, BitVec.ofNat 8 ([ResetCause.power, .pin, .request].idxOf s.resetCause),
            if s.stopLow then 1 else 0,
            BitVec.ofNat 8 s.attention.length, BitVec.ofNat 8 s.evalQueue.length,
            BitVec.ofNat 8 s.txQueue.length,
            BitVec.ofNat 8
              ([SearchState.idle, .settling, .observing, .resting, .suspended, .held].idxOf s.search.state),
            BitVec.ofNat 8 (allSlots.filter fun n => (s.sec n).slot != .vacant).length,
            time.extractLsb' 24 8, time.extractLsb' 16 8, time.extractLsb' 8 8, time.extractLsb' 0 8])) ∧
  ∀ s : State,
    let slotCode (x : SlotState) := [SlotState.vacant, .starting, .live, .retiring].idxOf x
    let part (t : PartTime) := t.toNat
    (∀ n,
      let r := s.sec n
      let c := r.config
      s.configView n =
        layout
          ([(1, slotCode r.slot), (1, c.loopOf.val), (2, c.designFlow), (1, c.weight), (2, c.hardFloor),
            (4, c.iWatch), (4, c.iDefend), (4, c.iTrip), (1, c.penalty), (2, c.grace), (1, c.emax),
            (1, [Lowering.drop, .slew].idxOf c.lowering), (1, c.riseStep), (1, c.fallStep)] ++
            optionFields [1] (fun b : Byte => [b.toNat]) c.valveNode ++ [(1, if c.gangFlag then 0 else 1)] ++
            limitFields c.mild ++ limitFields c.frost ++ [(1, (s.gangFormed n).toNat)]) ∧
      s.liveView n =
        layout
          ([(1, slotCode r.slot)] ++ limitFields r.active ++
            [(1, r.hostDemand),
              (1, [Protection.normal, .watch, .defend, .tripped].idxOf r.protection), (4, r.integrator),
              (1, [Mark.none, .probe, .held].idxOf r.mark), (1, (s.fan n).ramp),
              (1, (s.fan n).gen.stagedDuty), (1, (s.fan n).gen.dutyInForce)] ++
            timerFields s r.evalTimer ++
            optionFields [4, 2, 2, 2, 1, 2, 2, 1, 2, 2, 2]
              (fun e : EvalRecord =>
                [part e.taken, e.elapsed, twos16 e.tOut, twos16 e.tAir,
                  bitsValue
                    [e.flags.outletHeld, e.flags.outletDegraded, e.flags.airSubstituted, e.flags.flowHeld,
                      e.flags.flowZeroed, e.flags.concentrationDeclared],
                  e.share, e.ratio, e.coupling, twos16 e.tWall, twos16 e.tFreeze, twos16 e.margin])
              r.lastEval)) ∧
    (∀ l,
      let r := s.loopRec l
      let c := r.config
      let count (p : SectionRecord → Bool) :=
        (1, (allSlots.filter fun n =>
          (s.sec n).slot != .vacant && (s.sec n).config.loopOf == l && p (s.sec n)).length)
      let capture (x : PressureCapture) := [twos16 x.pressure, part x.taken]
      r.configView =
        layout
          ([(1, r.isSet.toNat), (1, [CurveName.a, .b].idxOf c.curve), (2, c.concentration),
            (2, twos16 c.frostAir), (2, twos16 c.frostEntry), (2, twos16 c.frostExit), (2, c.dwell),
            (1, c.frostFloor), (1, c.defendFloor), (1, c.stopDuty), (1, c.riseStep), (1, c.fallStep),
            (1, c.period), (2, c.leakWindow), (2, c.suspect), (1, if c.autoSearch then 0 else 1)] ++
            paramFields c.search) ∧
      s.loopLiveView l =
        layout
          ([(1, r.isSet.toNat), (1, [Regime.mild, .frost].idxOf r.regime), (4, part r.regimeEntry)] ++
            optionFields [2] (fun z => [twos16 z]) r.coldest ++
            [(1, r.hostDemand), (1, r.ramp), (1, (s.pump l).stagedDuty), (1, (s.pump l).dutyInForce),
              count (·.slot == .starting), count (·.slot == .live), count (·.slot == .retiring),
              count (·.protection == .defend), count (·.protection == .tripped),
              (2, r.leakWindow.count)] ++
            optionFields [2, 4] capture r.leakWindow.first ++ optionFields [2, 4] capture r.leakWindow.last ++
            optionFields [4] (fun t => [t]) r.leakTimer ++
            (match r.lastResult with
              | .none => [(1, 0), (4, 0)]
              | .invalid => [(1, 1), (4, 0)]
              | .rate v => [(1, 2), (4, v)]) ++
            [(1, [AutoOutcome.none, .started, .noCandidates, .searchBusy].idxOf r.autoOutcome)])) ∧
    (∀ b f, s.binding b = .active f ∨ s.binding b = .held f →
      let d := s.dest f.dest
      s.bindingView b =
        layout
          ([(1, if s.binding b = .active f then 1 else 2),
            (1, [Kind.outlet, .air, .flow, .pressure, .concentration, .valve].idxOf f.kind),
            (1, f.node.toNat), (1, f.sub), (1, bitsValue [f.careHigh, f.careLow, f.careSub])] ++
            destFields f.dest ++
            [(1, [Combine.replace, .lowest].idxOf f.combine), (2, f.freshLimit), (2, f.holdLimit),
              (1, [DestStatus.awaiting, .fresh, .stale, .held].idxOf d.status)] ++
            optionFields [2, 1] (fun v : Stored => [twos16 v.value, [Quality.ok, .suspect].idxOf v.quality])
              d.stored ++
            optionFields [4] (fun v : Stored => [part v.captured]) d.stored ++
            optionFields [4] (fun t => [t]) d.staleSince ++ timerFields s d.freshTimer ++
            timerFields s d.combineTimer ++ timerFields s d.holdTimer)) ∧
    (∀ k,
      let c := s.line k
      s.lineView k =
        layout
          ([(3, c.mask.toNat), (1, c.delayCode.val), (1, [LineState.asserted, .released].idxOf c.state),
            (1, (s.maskSafe c.mask).toNat)] ++ timerFields s c.timer ++
            [(3, slotsValue fun n => c.mask.getLsbD n.val && !(s.sec n).safe)])) ∧
    let c := s.search
    ∃ free positions : List Byte, free.length = 11 ∧ positions.length = 2 ∧
      s.searchView =
        layout
            ([(1, [SearchState.idle, .settling, .observing, .resting, .suspended, .held].idxOf c.state)] ++
              optionFields [1] (fun p => [[Phase.probe, .confirm].idxOf p]) c.phase ++
              optionFields [1] (fun l : LoopId => [l.val]) c.loopOf) ++
          (match c.params with
            | some p => layout (paramFields p)
            | none => free) ++
          layout
            [(1, c.candidates.length), (3, slotsValue fun n => c.candidates.any (·.lead == n)),
              (3, slotsValue fun n => c.candidates.any (·.follower == some n))] ++
          (if c.rangeLo < c.rangeHi then layout [(1, c.rangeLo), (1, c.rangeHi)] else positions) ++
          layout
            ([(3, slotsValue fun n => c.isolated.contains n), (3, slotsValue fun n => c.wait.contains n),
              (1, c.steps), (1, c.repeats), (1, c.preemptions), (1, c.restartsUsed)] ++
              timerFields s c.phaseTimer ++ timerFields s c.deadline ++
              [(2, c.window.count),
                (2, twos16 (match c.window.first with
                  | some x => x.pressure
                  | none => 0)),
                (2, twos16 (match c.window.last with
                  | some x => x.pressure
                  | none => 0)),
                (2, c.window.span)] ++
              optionFields [4] (fun v => [v]) c.lastRate ++
              [(3, slotsValue fun n => c.heldUnit.any fun u => u.members.contains n),
                (1, [SearchResult.none, .found, .inconclusive, .preempted, .valveFault, .noPressure,
                  .stopped, .halted].idxOf c.result)])

/-- R68, R69, R82, R84, R127. The group code 0 is log entry 8. -/
def Obligations.GlycolSetsOrChangesALoop : Prop :=
  ∀ (s : State) (dt : Nat) (l : LoopId) (v a1 a2 b1 b2 : Byte), s.taking → v.toNat < 2 →
    let r := s.loopRec l
    let tenths := (s.time + dt) / unitsPerTenth
    let concentration := clampNat 0 600 (be16 a1 a2)
    let air := clampInt (-5000) 0 (signed16 b1 b2)
    let config :=
      { r.config with
        curve := if v = 0 then .a else .b, concentration := concentration, frostAir := air }
    let status := doneStatus (concentration ≠ be16 a1 a2 ∨ air ≠ signed16 b1 b2)
    let command := Instr.loopSetGlycol dt (indexByte l) [0, v, a1, a2, b1, b2]
    let duty :=
      if s.stopLow then r.config.stopDuty
      else
        max (if s.anyMemberIn l .defend then r.config.defendFloor else 0)
          (if s.anyMemberIn l .tripped then 255 else 0)
    (r.isSet = true →
      exec command s =
        .next { s.answered dt 16 status [] with loops := tabSet s.loops l { r with config := config } }) ∧
    (r.isSet = false →
      exec command s =
        .next
          { s.answered dt 16 status [] with
            loops :=
              tabSet s.loops l
                { r with
                  isSet := true, config := config, regime := .mild,
                  regimeEntry := BitVec.ofNat 32 tenths, coldest := none, hostDemand := 0, ramp := 0,
                  rampTimer := some (s.time + dt + unitsPerRamp),
                  leakTimer := some (tenths + 10 * r.config.leakWindow),
                  leakLength := r.config.leakWindow, leakWindow := .empty, lastResult := .none,
                  autoOutcome := .none }
            pumps :=
              tabSet s.pumps l
                { enabled := true, counter := 0, direction := .up, stagedDuty := duty,
                  stagedPeriod := r.config.period,
                  dutyInForce := if r.config.period = 0 then 0 else duty,
                  periodInForce := r.config.period, compareInForce := compareOf duty r.config.period,
                  output :=
                    if compareOf duty r.config.period = 0 then idleLevel (s.pumpActiveLow l)
                    else activeLevel (s.pumpActiveLow l) } })

/-- R68, R70, R71, R82, R127. The first clauses give the checks of R68 up to the length. The group codes and the flag
code are log entries 8 and 9. -/
def Obligations.LoopSetOfASetLoop : Prop :=
  ∀ (s : State) (dt : Nat) (l : LoopId), s.taking →
    let j := indexByte l
    let r := s.loopRec l
    (∀ c i p, requestParts c = some (16, dt, i, p) →
      (4 ≤ i.toNat → exec c s = .next (s.answered dt 16 .badSubject [])) ∧
      ∀ g q, i = j → p = g :: q →
        let undefined :=
          6 ≤ g.toNat ∨
            ∃ x ∈ [(0, 1, 2), (3, 5, 2)], g.toNat = x.1 ∧ x.2.1 < p.length ∧ x.2.2 ≤ field8 p x.2.1
        (undefined → exec c s = .next (s.answered dt 16 .badKind [])) ∧
        (¬ undefined → p.length ≠ [6, 7, 7, 6, 12, 1].getD g.toNat 0 →
          exec c s = .next (s.answered dt 16 .badLength []))) ∧
    let replaced (c : LoopConfig) := tabSet s.loops l { r with config := c }
    (r.isSet = false →
      ∀ c p, ((∃ g, g = 1 ∧ c = Instr.loopSetRegime dt j (g :: p) ∧ p.length = 6) ∨
        (∃ g, g = 2 ∧ c = Instr.loopSetPump dt j (g :: p) ∧ p.length = 6) ∨
        (∃ g, g = 3 ∧ c = Instr.loopSetLeak dt j (g :: p) ∧ p.length = 5 ∧ field8 p 4 < 2) ∨
        ∃ g, g = 4 ∧ c = Instr.loopSetSearch dt j (g :: p) ∧ p.length = 11) →
        exec c s = .next (s.answered dt 16 .loopUnset [])) ∧
    (r.isSet = true →
      (∀ e1 e2 x1 x2 d1 d2 : Byte,
        let entry := clampInt (-5000) 0 (signed16 e1 e2)
        let leave := clampInt (-5000) 1000 (signed16 x1 x2)
        let dwell := clampNat 0 3600 (be16 d1 d2)
        exec (.loopSetRegime dt j [1, e1, e2, x1, x2, d1, d2]) s =
          .next
            (if leave < entry + 100 then s.answered dt 16 .order []
            else
              { s.answered dt 16
                  (doneStatus (entry ≠ signed16 e1 e2 ∨ leave ≠ signed16 x1 x2 ∨ dwell ≠ be16 d1 d2)) [] with
                loops :=
                  replaced { r.config with frostEntry := entry, frostExit := leave, dwell := dwell } })) ∧
      (∀ f d h u v w : Byte,
        ∃ t, exec (.loopSetPump dt j [2, f, d, h, u, v, w]) s = .next t ∧
          t = { s.answered dt 16
                  (doneStatus (clampNat 1 64 u.toNat ≠ u.toNat ∨ clampNat 1 64 v.toNat ≠ v.toNat)) [] with
                loops :=
                  replaced
                    { r.config with
                      frostFloor := f.toNat, defendFloor := d.toNat, stopDuty := h.toNat,
                      riseStep := clampNat 1 64 u.toNat, fallStep := clampNat 1 64 v.toNat,
                      period := w.toNat }
                pumps :=
                  tabSet s.pumps l
                    { s.pump l with stagedDuty := t.pumpDuty l, stagedPeriod := w.toNat } }) ∧
      (∀ w1 w2 x1 x2 f : Byte, f.toNat < 2 →
        let window := clampNat 60 3600 (be16 w1 w2)
        let suspect := clampNat 1 2000 (be16 x1 x2)
        exec (.loopSetLeak dt j [3, w1, w2, x1, x2, f]) s =
          .next
            (if suspect ≤ r.config.search.quiet then s.answered dt 16 .order []
            else
              { s.answered dt 16 (doneStatus (window ≠ be16 w1 w2 ∨ suspect ≠ be16 x1 x2)) [] with
                loops :=
                  replaced
                    { r.config with leakWindow := window, suspect := suspect, autoSearch := f == 0 } })) ∧
      (∀ s1 s2 o1 o2 r1 r2 q1 q2 f1 f2 c : Byte,
        let params : SearchParams :=
          { settle := clampNat 10 600 (be16 s1 s2), observe := clampNat 30 1800 (be16 o1 o2)
            rest := clampNat 0 600 (be16 r1 r2), quiet := clampNat 0 2000 (be16 q1 q2)
            floor := clampNat 0 5000 (be16 f1 f2), restarts := clampNat 0 3 c.toNat }
        exec (.loopSetSearch dt j [4, s1, s2, o1, o2, r1, r2, q1, q2, f1, f2, c]) s =
          .next
            (if r.config.suspect ≤ params.quiet then s.answered dt 16 .order []
            else
              { s.answered dt 16
                  (doneStatus
                    (params.settle ≠ be16 s1 s2 ∨ params.observe ≠ be16 o1 o2 ∨ params.rest ≠ be16 r1 r2 ∨
                      params.quiet ≠ be16 q1 q2 ∨ params.floor ≠ be16 f1 f2 ∨ params.restarts ≠ c.toNat)) [] with
                loops := replaced { r.config with search := params } })) ∧
      ((∃ n, (s.sec n).slot ≠ .vacant ∧ (s.sec n).config.loopOf = l) ∨
          s.search.state ≠ .idle ∧ s.search.loopOf = some l →
        exec (.loopSetUnset dt j [5]) s = .next (s.answered dt 16 .busy [])) ∧
      ((∀ n, (s.sec n).slot ≠ .vacant → (s.sec n).config.loopOf ≠ l) →
          (s.search.state ≠ .idle → s.search.loopOf ≠ some l) →
        exec (.loopSetUnset dt j [5]) s =
          .next
            { s.answered dt 16 .done [] with
              loops :=
                tabSet s.loops l
                  { LoopRecord.afterReset with
                    flow := r.flow, pressure := r.pressure, concentration := r.concentration, air := r.air }
              pumps :=
                tabSet s.pumps l
                  { enabled := false, counter := 0, direction := .up, stagedDuty := 0, stagedPeriod := 255,
                    dutyInForce := 0, periodInForce := 255, compareInForce := 0,
                    output := idleLevel (s.pumpActiveLow l) }
              attention :=
                s.attention.filter fun c =>
                  !((c.kind == .leakSuspect || c.kind == .regime) && c.subject == l.val) })) ∧
    (r.isSet = false → exec (.loopSetUnset dt j [5]) s = .next (s.answered dt 16 .done []))

/-- R75 and R76, with the lengths of R174. -/
def Obligations.CurvesAreLoadedAndReadBack : Prop :=
  ∀ (s : State) (dt : Nat) (c : Fin 2), s.taking →
    exec (.curveLookup dt (indexByte c) []) s =
      .next
        (s.answered dt 20 .done
          (layout ((if c = 0 then s.curveA else s.curveB).toList.map fun z => (2, twos16 z)))) ∧
    (∀ j p, 2 ≤ j.toNat →
      exec (.curveLoad dt j p) s = .next (s.answered dt 19 .badSubject []) ∧
        exec (.curveLookup dt j p) s = .next (s.answered dt 20 .badSubject [])) ∧
    (∀ p, p ≠ [] → exec (.curveLookup dt (indexByte c) p) s = .next (s.answered dt 20 .badLength [])) ∧
    (∀ p, p.length ≠ 18 →
      exec (.curveLoad dt (indexByte c) p) s = .next (s.answered dt 19 .badLength [])) ∧
    ∀ p : List Byte, p.length = 18 →
      let point (i : Nat) := signed16 (p.getD (2 * i) 0) (p.getD (2 * i + 1) 0)
      ((∀ i < 9, -6000 ≤ point i ∧ point i ≤ 0) ∧ (∀ i < 8, point (i + 1) ≤ point i) →
        ∃ t, exec (.curveLoad dt (indexByte c) p) s = .next t ∧
          (∀ i : Fin 9, (if c = 0 then t.curveA else t.curveB)[i] = point i) ∧
          t = { s.answered dt 19 .done [] with
                curveA := if c = 0 then t.curveA else s.curveA
                curveB := if c = 0 then s.curveB else t.curveB } ∧
          ∀ dt', exec (.curveLookup dt' (indexByte c) []) t = .next (t.answered dt' 20 .done p)) ∧
      (¬ ((∀ i < 9, -6000 ≤ point i ∧ point i ≤ 0) ∧ ∀ i < 8, point (i + 1) ≤ point i) →
        exec (.curveLoad dt (indexByte c) p) s = .next (s.answered dt 19 .order []))

/-- R98, R105, R106: the checks of R105 in their order, then the binding made. The do-care byte and the payload layout
rest on log entry 10. -/
def Obligations.BindingsAreMade : Prop :=
  ∀ (s : State) (dt : Nat) (b : BindingId), s.taking →
    (∀ j p, 48 ≤ j.toNat → exec (.bind dt j p) s = .next (s.answered dt 32 .badSubject [])) ∧
    (∀ p : List Byte,
      let undefined :=
        ∃ x ∈ [(3, 8), (4, 2), (6, if field8 p 4 = 0 then 3 else 4), (7, 2)],
          x.1 < p.length ∧ x.2 ≤ field8 p x.1
      let kind := ([[0, 1, 5], [2, 3, 4, 1]].getD (field8 p 4) []).getD (field8 p 6) 0
      let wrong :=
        field8 p 0 ≠ kind ∨ 15 < field8 p 2 ∨ (if field8 p 4 = 0 then 24 else 4) ≤ field8 p 5
      let refused (status : Status) :=
        exec (.bind dt (indexByte b) p) s = .next (s.answered dt 32 status [])
      (undefined → refused .badKind) ∧
      (¬ undefined → p.length ≠ 12 → refused .badLength) ∧
      (¬ undefined → p.length = 12 → wrong → refused .badSubject)) ∧
    ∀ (d : DestField) (node sub care mode f1 f2 h1 h2 : Byte), sub.toNat < 16 → care.toNat < 8 →
      mode.toNat < 2 →
      let kind := BitVec.ofNat 8 (fieldKind d).code
      let command :=
        Instr.bind dt (indexByte b) ([kind, node, sub, care] ++ putDest d ++ [mode, f1, f2, h1, h2])
      let fresh := clampNat 2 600 (be16 f1 f2)
      let hold := clampNat 60 3600 (be16 h1 h2)
      let made : Binding :=
        { kind := fieldKind d, node := node, sub := sub.toNat, careHigh := care.getLsbD 0,
          careLow := care.getLsbD 1, careSub := care.getLsbD 2, dest := d,
          combine := if mode = 0 then .replace else .lowest, freshLimit := fresh, holdLimit := hold }
      let held := ∃ f, s.binding b = .held f
      let away := ∃ n, fieldSlot d = some n ∧ (s.sec n).slot.inService = false
      let fed := ∃ c, c ≠ b ∧ (s.binding c).feeds d = true
      (held → exec command s = .next (s.answered dt 32 .occupied [])) ∧
      (¬ held → away → exec command s = .next (s.answered dt 32 .vacant [])) ∧
      (¬ held → ¬ away → fed → exec command s = .next (s.answered dt 32 .duplicateDest [])) ∧
      (¬ held → ¬ away → ¬ fed →
        ∃ t, exec command s = .next t ∧
          t.bindings = tabSet s.bindings b (.active made) ∧
          DestsBecome s t
            (fun e => if e = d ∨ (s.binding b).feeds e = true then .awaiting else s.dest e) ∧
          LinesReleased s t (fun e => e = d ∨ (s.binding b).feeds e = true) ∧
          t.attention =
            (if s.binding b = .empty then s.attention
            else s.attention.filter fun c => !(c.kind == .stale && c.subject == b.val)) ∧
          t = { s.answered dt 32 (doneStatus (fresh ≠ be16 f1 f2 ∨ hold ≠ be16 h1 h2)) [] with
                sections := t.sections, loops := t.loops, bindings := t.bindings, lines := t.lines,
                attention := t.attention })

/-- R107, R108, R110, R174. The codes on 0 and off 1 are log entry 9. -/
def Obligations.UnbindAndHoldActOnTheDestination : Prop :=
  ∀ (s : State) (dt : Nat) (b : BindingId), s.taking →
    let j := indexByte b
    (∀ c k i p, requestParts c = some (k, dt, i, p) → k = 33 ∨ k = 34 →
      (48 ≤ i.toNat → exec c s = .next (s.answered dt k .badSubject [])) ∧
      (i = j → p.length ≠ k - 33 → exec c s = .next (s.answered dt k .badLength [])) ∧
      (i = j → k = 34 → p.length = 1 → 2 ≤ field8 p 0 →
        exec c s = .next (s.answered dt k .badKind []))) ∧
    (s.binding b = .empty →
      exec (.unbind dt j []) s = .next (s.answered dt 33 .done []) ∧
      exec (.holdOn dt j [0]) s = .next (s.answered dt 34 .vacant []) ∧
      exec (.holdOff dt j [1]) s = .next (s.answered dt 34 .vacant [])) ∧
    ∀ f, s.binding b = .active f ∨ s.binding b = .held f →
      (∃ t, exec (.unbind dt j []) s = .next t ∧
        t.bindings = tabSet s.bindings b .empty ∧
        DestsBecome s t (fun e => if e = f.dest then .awaiting else s.dest e) ∧
        LinesReleased s t (· = f.dest) ∧
        t.attention = (s.attention.filter fun c => !(c.kind == .stale && c.subject == b.val)) ∧
        t = { s.answered dt 33 .done [] with
              sections := t.sections, loops := t.loops, bindings := t.bindings, lines := t.lines,
              attention := t.attention }) ∧
      (s.binding b = .active f →
        exec (.holdOff dt j [1]) s = .next (s.answered dt 34 .done []) ∧
        ∃ t, exec (.holdOn dt j [0]) s = .next t ∧
          t.bindings = tabSet s.bindings b (.held f) ∧
          DestsBecome s t
            (fun e =>
              if e = f.dest ∧ ((s.dest e).status = .fresh ∨ (s.dest e).status = .stale) then
                { status := .held, stored := (s.dest e).stored, staleSince := none, freshTimer := none,
                  combineTimer := none,
                  holdTimer := some ((s.time + dt) / unitsPerTenth + 10 * f.holdLimit) }
              else s.dest e) ∧
          LinesReleased s t (· = f.dest) ∧
          t = { s.answered dt 34 .done [] with
                sections := t.sections, loops := t.loops, bindings := t.bindings, lines := t.lines }) ∧
      (s.binding b = .held f →
        exec (.holdOn dt j [0]) s = .next (s.answered dt 34 .done []) ∧
        ∃ t, exec (.holdOff dt j [1]) s = .next t ∧
          t.bindings = tabSet s.bindings b (.active f) ∧
          DestsBecome s t (fun e => if e = f.dest then .awaiting else s.dest e) ∧
          LinesReleased s t (· = f.dest) ∧
          t = { s.answered dt 34 .done [] with
                sections := t.sections, loops := t.loops, bindings := t.bindings, lines := t.lines })

/-- R97, with the setting of a mark by R96. -/
def Obligations.SeenMarksAreReadAndCleared : Prop :=
  ∀ (s : State) (dt : Nat), s.taking →
    (∀ j : Byte,
      if j.toNat < 16 then
        exec (.seenRead dt j []) s =
          .next (s.answered dt 36 .done
            ((List.range 16).map fun i => s.seen.toList.getD (16 * j.toNat + i) 0))
      else exec (.seenRead dt j []) s = .next (s.answered dt 36 .badSubject [])) ∧
    exec (.seenClear dt 0 []) s =
      .next { s.answered dt 37 .done [] with seen := Vector.replicate 256 0 } ∧
    ∀ (u : State) (dt' : Nat) (chars : List BusChar) (x : Telegram), u.inReset = false →
      (u.advance dt').sending = false → (∀ c ∈ chars, c.own = false) → (u.advance dt').hears chars = true →
      decodeFragment chars = some (.ok x) → x.command = false →
      ∃ t, exec (.fragmentEnd dt' chars) u = .next t ∧
        ∀ (node : Fin 256) (k : Fin 8),
          t.seen[node].getLsbD k.val = true ↔
            u.seen[node].getLsbD k.val = true ∨ node.val = x.node.toNat ∧ k.val = x.kind.toNat

/-- R89, R93, R94, R96, R100. A fragment takes its characters, the pauses between them and the gap that ends it; one that
begins less than a gap after a reset is not heard (log entry 12). The silence of the bus is kept as log entry 13
says. -/
def Obligations.FragmentsThatStoreNothing : Prop :=
  ∀ (s : State) (dt : Nat) (chars : List BusChar), s.inReset = false →
    let quiet := s.atGap dt
    let took := (chars.length + 2) * unitsPerChar + (chars.tail.map (·.pause)).sum
    let dropped :=
      (s.advance dt).sending = true ∨ (∃ c ∈ chars, c.own = true) ∨
        (s.receiverSynced = false ∧ s.time + dt < 2 * unitsPerChar + took) ∨
        (∃ c ∈ chars, c.stopOk = false) ∨ chars.length ≠ 9 ∨ ∃ e, decodeFragment chars = some (.error e)
    (dropped → exec (.fragmentEnd dt chars) s = .next quiet) ∧
    (¬ dropped → ∃ x, decodeFragment chars = some (.ok x) ∧
      (x.command = true → exec (.fragmentEnd dt chars) s = .next quiet) ∧
      (x.command = false →
        (∀ r, readingOf x = some r → r.quality ≠ .fault →
          ∀ b, (s.binding b).matchesReading r = false) →
        ∃ t, exec (.fragmentEnd dt chars) s = .next t ∧ t = { quiet with seen := t.seen }))

/-- R10, R29, R85, R95, R99, R100, R102, R103, R141: what a telegram's reading is and what it matches, then its capture.
A VALVE reading that a waiting search takes up is met with that wait's
statement. The receiver and the silence of the bus are kept as log entries 12 and 13 say. -/
def Obligations.ReadingsAreCaptured : Prop :=
  (∀ x : Telegram,
    let v := x.value.toNat
    let near : Int := max (-5000) (min 8000 x.value.toInt)
    let quality (code : Nat) : ReadingQuality := [.ok, .suspect, .fault, .fault].getD code .fault
    let read (kind : Kind) (value : Int) (quality : ReadingQuality) : Reading :=
      { node := x.node, kind := kind, sub := x.sub.toNat, value := value, quality := quality }
    let q := quality x.quality.toNat
    readingOf x =
      [some (read .outlet near q), some (read .air near q), some (read .flow (min 65000 v : Nat) q),
        some (read .pressure (min 10000 v : Nat) q), some (read .concentration (min 600 v : Nat) q),
        some (read .valve v (if 3 < v then .fault else q)), none, none].getD x.kind.toNat none) ∧
  (∀ (f : Binding) (r : Reading), f.covers r = true ↔
    r.kind = f.kind ∧ (f.careHigh = true → r.node.toNat / 16 = f.node.toNat / 16) ∧
      (f.careLow = true → r.node.toNat % 16 = f.node.toNat % 16) ∧ (f.careSub = true → r.sub = f.sub)) ∧
  (∀ (b : BindingState) (r : Reading), b.matchesReading r = true ↔ ∃ f, b = .active f ∧ f.covers r = true) ∧
  ∀ (s : State) (dt : Nat) (chars : List BusChar) (b : BindingId) (f : Binding) (r : Reading) (q : Quality),
    Delivers s dt chars b f r q →
    let tenths := (s.time + dt) / unitsPerTenth
    let kept := s.keeps dt f r q
    let quiet := s.atGap dt
    let search := s.search
    let awaited (n : Slot) :=
      (search.state = .settling ∨ search.state = .observing) ∧ n ∈ search.isolated ∨
        (search.state = .resting ∨ search.state = .suspended) ∧ n ∈ search.wait
    ∃ t, exec (.fragmentEnd dt chars) s = .next t ∧
      t.dest f.dest = kept ∧ (∀ e, e ≠ f.dest → t.dest e = s.dest e) ∧
      (fieldKind f.dest ≠ .outlet → fieldKind f.dest ≠ .pressure → (∀ n, f.dest = .valve n → ¬ awaited n) →
        DestsBecome s t (fun e => if e = f.dest then kept else s.dest e) ∧
        t = { quiet with seen := t.seen, sections := t.sections, loops := t.loops }) ∧
      (∀ n, f.dest = .outlet n → (s.sec n).slot.inService = true →
        t.sec n = { s.sec n with slot := .live, outlet := kept } ∧ (∀ m, m ≠ n → t.sec m = s.sec m) ∧
        t.evalQueue = (if n ∈ s.evalQueue then s.evalQueue else s.evalQueue ++ [n]) ∧
        ((s.sec n).slot = .starting → Restaged s t n) ∧ ((s.sec n).slot = .live → t.fans = s.fans) ∧
        LinesEvaluated s t n ∧
        t = { quiet with
              seen := t.seen, sections := t.sections, fans := t.fans, evalQueue := t.evalQueue,
              lines := t.lines }) ∧
      (∀ l v, f.dest = .loopPressure l → kept.stored = some v →
        let entry : PressureCapture := { pressure := v.value, taken := BitVec.ofNat 32 tenths }
        t.loopRec l =
          { s.loopRec l with
            pressure := kept
            leakWindow :=
              if s.monitorRuns l then (s.loopRec l).leakWindow.enter entry
              else (s.loopRec l).leakWindow } ∧
        (∀ m, m ≠ l → t.loopRec m = s.loopRec m) ∧
        t.search =
          (if s.monitorRuns l = false ∧ search.state = .observing ∧ search.loopOf = some l then
            { search with window := search.window.enter entry }
          else search) ∧
        t = { quiet with seen := t.seen, loops := t.loops, search := t.search })

/-- R103, R104, R109. The time comes to the moment the timer holds (log entry 4). -/
def Obligations.DestinationTimersExpire : Prop :=
  ∀ (s : State) (d : DestField) (e : Nat), s.inReset = false →
    (∀ b c, (s.binding b).feeds d = true → (s.binding c).feeds d = true → b = c) →
    let now := max s.time (e * unitsPerTenth)
    let stale : Destination :=
      { s.dest d with
        status := .stale, staleSince := some (now / unitsPerTenth), freshTimer := none, holdTimer := none }
    let goesStale (command : Instr) :=
      ∃ t, exec command s = .next t ∧ DestsBecome s t (fun x => if x = d then stale else s.dest x) ∧
        LinesReleased s t (· = d) ∧
        (∀ c, c ∈ t.attention ↔
          c ∈ s.attention ∨
            ∃ b : BindingId, (s.binding b).feeds d = true ∧ c = { kind := .stale, subject := b.val }) ∧
        t = { s with
              time := now, sections := t.sections, loops := t.loops, lines := t.lines,
              attention := t.attention }
    ((s.dest d).freshTimer = some e → goesStale (.freshnessExpiry d)) ∧
    ((s.dest d).holdTimer = some e → goesStale (.holdExpiry d)) ∧
    ((s.dest d).combineTimer = some e →
      ∃ t, exec (.combiningWindowExpiry d) s = .next t ∧
        DestsBecome s t
          (fun x => if x = d then { s.dest d with combineTimer := none } else s.dest x) ∧
        t = { s with time := now, sections := t.sections, loops := t.loops })

/-- R31 to R45, R46, R50, R60 to R62, R77 to R79, R146 to R148: the record stage by stage, then what its margin decides.
The bounds of each stage and the table of the decision have statements of their own. -/
def Obligations.EvaluationsAreTakenWhole : Prop :=
  (∀ (values : List Int) (a : Int), lowest values = some a ↔ a ∈ values ∧ ∀ b ∈ values, a ≤ b) ∧
  ∀ (s : State) (dt : Nat) (n : Slot) (rest : List Slot), s.inReset = false → s.evalQueue = n :: rest →
    let tenths := (s.time + dt) / unitsPerTenth
    let r := s.sec n
    let l := r.config.loopOf
    let lp := s.loopRec l
    let e := { s with time := s.time + dt, evalQueue := rest }.evaluation n
    let i := integrate r.integrator e.margin r.active.guard e.elapsed
    let airs := [r.air.live, lp.air.live].filterMap id
    let lastAirs := [r.air.recent tenths 3000, lp.air.recent tenths 3000].filterMap id
    let excess := r.outlet.age tenths - 10 * r.config.grace
    let lastFlow := lp.flow.recent tenths 600
    let weights :=
      (allSlots.map fun m =>
        if (s.sec m).slot ≠ .vacant ∧ (s.sec m).config.loopOf = l ∧ (s.sec m).mark = .none then
          (s.sec m).config.weight
        else 0).sum
    let declared := lp.config.concentration
    let p := decideProtection r.protection r.config e.margin i
    let deep := p = .defend ∨ p = .tripped
    let preempts :=
      p ≠ r.protection ∧ deep ∧ r.mark = .probe ∧
        (s.search.state = .settling ∨ s.search.state = .observing)
    let judged := p ≠ r.protection ∧ r.mark = .none ∧ s.search.state = .suspended ∧ n ∈ s.search.wait
    (e.tAir = ((lowest airs).or (lowest lastAirs)).getD lp.config.frostAir ∧
      (e.flags.airSubstituted = true ↔ airs = [] ∧ lastAirs = [])) ∧
    (∀ v, r.outlet.live = some v →
      e.tOut = v ∧ e.flags.outletHeld = false ∧ e.flags.outletDegraded = false) ∧
    (∀ v, r.outlet.last = some v →
      (excess = 0 → e.tOut = v ∧ e.flags.outletHeld = true ∧ e.flags.outletDegraded = false) ∧
      (0 < excess →
        e.tOut = max e.tAir (v - (excess * r.config.penalty / 100 : Nat)) ∧ e.flags.outletHeld = false ∧
          e.flags.outletDegraded = true)) ∧
    (r.outlet.status = .awaiting →
      e.tOut = e.tAir ∧ e.flags.outletHeld = false ∧ e.flags.outletDegraded = true) ∧
    (e.flags.flowHeld = true ↔ lp.flow.live = none ∧ lastFlow ≠ none) ∧
    (e.flags.flowZeroed = true ↔ lp.flow.live = none ∧ lastFlow = none) ∧
    (e.flags.concentrationDeclared = true ↔ lp.concentration.live = none) ∧
    e.share =
      (if r.mark = .none then ((lp.flow.live.or lastFlow).getD 0).toNat * r.config.weight / weights
      else 0) ∧
    e.ratio = min 512 (e.share * 256 / r.config.designFlow) ∧
    e.coupling = min 240 (64 * ((s.fan n).gen.dutyInForce + 16) / (e.ratio + 32)) ∧
    e.tWall = e.tOut - ((e.tOut - e.tAir) * (e.coupling : Int) + 128) / 256 ∧
    e.tFreeze =
      freezePoint (if lp.config.curve = .a then s.curveA else s.curveB)
        (match lp.concentration.live with
          | some c => clampNat 0 600 (min declared c.toNat)
          | none => clampNat 0 600 declared) ∧
    e.margin = e.tWall - e.tFreeze ∧
    e.taken = BitVec.ofNat 32 tenths ∧
    (r.lastEval = none → e.elapsed = 0) ∧
    (∀ before, r.lastEval = some before → e.elapsed = min 300 (e.taken - before.taken).toNat) ∧
    ∃ t, exec (.evaluationTake dt) s = .next t ∧
      t.evalQueue = rest ∧ (t.sec n).lastEval = some e ∧ (t.sec n).integrator = i ∧
      (t.sec n).evalTimer = some (tenths + 10 * r.config.emax) ∧
      (t.sec n).protection = p ∧
      (p ≠ r.protection →
        (p = .watch → { kind := .watch, subject := n.val } ∈ t.attention) ∧
        (p = .defend → { kind := .defend, subject := n.val } ∈ t.attention) ∧
        (p = .tripped → { kind := .trip, subject := n.val } ∈ t.attention) ∧
        (deep → r.mark = .held → { kind := .frozenHold, subject := n.val } ∈ t.attention)) ∧
      (∀ m, m ≠ n →
        (t.sec m).lastEval = (s.sec m).lastEval ∧ (t.sec m).integrator = (s.sec m).integrator ∧
          (t.sec m).protection = (s.sec m).protection ∧ (t.sec m).evalTimer = (s.sec m).evalTimer) ∧
      (¬ preempts → ¬ judged → t.search = s.search ∧ ∀ m, (t.sec m).mark = (s.sec m).mark) ∧
      (∀ prm, s.search.params = some prm →
        (preempts → s.search.preemptions < 3 →
          t.search =
            { s.search with
              state := .suspended, preemptions := s.search.preemptions + 1, window := .empty,
              wait := s.search.isolated, isolated := [], deadline := none,
              phaseTimer := if prm.rest = 0 then none else some (tenths + 10 * prm.rest) } ∧
          OpenPosted s t s.search.isolated ∧
          ∀ m, (t.sec m).mark = if m ∈ s.search.isolated then .none else (s.sec m).mark) ∧
        (judged →
          Resumption { s with sections := tabSet s.sections n { r with protection := p } } t prm tenths)) ∧
      (preempts → 3 ≤ s.search.preemptions → SearchEnded s t .preempted) ∧
      let regime := (t.loopRec l).regime
      let coldest := (t.loopRec l).coldest
      let stay := (BitVec.ofNat 32 tenths - lp.regimeEntry).toNat
      (lp.isSet = true →
        coldest =
          lowest (allSlots.filterMap fun m =>
            if (t.sec m).slot = .live ∧ (t.sec m).config.loopOf = l then (t.sec m).lastEval.map (·.tAir)
            else none) ∧
        coldest = lowest (t.memberAir l) ∧
        (coldest = none → regime = lp.regime) ∧
        (∀ a, coldest = some a → lp.regime = .mild →
          regime = if a < lp.config.frostEntry then .frost else .mild) ∧
        (∀ a, coldest = some a → lp.regime = .frost →
          regime = if lp.config.frostExit < a ∧ 10 * lp.config.dwell ≤ stay then .mild else .frost) ∧
        (regime ≠ lp.regime →
          (t.loopRec l).regimeEntry = BitVec.ofNat 32 tenths ∧
            { kind := .regime, subject := l.val } ∈ t.attention ∧
            (t.pump l).stagedDuty = t.pumpDuty l)) ∧
      (lp.isSet = false → regime = lp.regime) ∧
      ∀ m,
        (t.sec m).active =
          if regime ≠ lp.regime ∧ (s.sec m).slot.inService = true ∧ (s.sec m).config.loopOf = l then
            (s.sec m).config.stored regime
          else (s.sec m).active

/-- R46 whole, with the take that writes the integrator before it is handed on. -/
def Obligations.IntegratorUpdate : Prop :=
  (∀ (s : State) (dt : Nat) (n : Slot) (rest : List Slot), s.inReset = false → s.evalQueue = n :: rest →
    let now : State := { s with time := s.time + dt, evalQueue := rest }
    let e := now.evaluation n
    let i := integrate (s.sec n).integrator e.margin (s.sec n).active.guard e.elapsed
    ∃ t, exec (.evaluationTake dt) s = .next t ∧ (t.sec n).integrator = i ∧
      (t.sec n).protection = decideProtection (s.sec n).protection (s.sec n).config e.margin i) ∧
  ∀ (i : Nat) (m : Int) (g t : Nat),
    (m < g → (integrate i m g t : Int) = max 0 (min 4000000 (i + ((g - m) * t) / 10))) ∧
    ((g : Int) ≤ m → (integrate i m g t : Int) = max 0 (min 4000000 (i - ((m - g) * t) / 40))) ∧
    integrate i m g t ≤ 4000000 ∧
    (i ≤ 4000000 → integrate i m g 0 = i) ∧
    (i ≤ 4000000 → g ≤ 2000 → -5000 ≤ m → m ≤ 14000 → t ≤ 300 →
      integrate i m g t ≤ i + 210000 ∧ i ≤ integrate i m g t + 105000) ∧
    integrate 0 (-5000) 2000 300 = 210000 ∧ integrate 105000 14000 0 300 = 0

/-- R39 to R43: the bounds the manual states of each stage. -/
def Obligations.WallAndFreezePointBounds : Prop :=
  (∀ (mark : Mark) (q w weights : Nat), flowShare mark q w weights * weights ≤ q * w ∧
    (mark ≠ .none → flowShare mark q w weights = 0)) ∧
  (∀ share design : Nat, 10 ≤ design →
    flowRatio share design ≤ 512 ∧ (flowRatio share design = 512 ↔ 2 * design ≤ share)) ∧
  (∀ duty ratio : Nat, ratio ≤ 512 →
    1 ≤ wallCoupling duty ratio ∧ wallCoupling duty ratio ≤ 240 ∧
      ∀ duty' ratio', duty ≤ duty' → ratio' ≤ ratio →
        wallCoupling duty ratio ≤ wallCoupling duty' ratio') ∧
  (∀ (tOut tAir : Int) (coupling : Nat), coupling ≤ 240 →
    min tOut tAir ≤ wallTemperature tOut tAir coupling ∧
      wallTemperature tOut tAir coupling ≤ max tOut tAir) ∧
  ∀ curve : Vector Int 9, curveOrdered curve = true →
    (∀ i : Fin 9, freezePoint curve (75 * i.val) = curve[i]) ∧
    (∀ c d : Nat, c ≤ d → freezePoint curve d ≤ freezePoint curve c) ∧
    (∀ c : Nat, -6000 ≤ freezePoint curve c ∧ freezePoint curve c ≤ 0) ∧
    ∀ (i : Fin 8) (r : Nat), r < 75 →
      let exact := curve[i.castSucc] * 75 + (curve[i.succ] - curve[i.castSucc]) * r
      75 * (freezePoint curve (75 * i.val + r) - 1) < exact ∧
        exact ≤ 75 * freezePoint curve (75 * i.val + r)

/-- R51 whole: the rows, the bands, and the table at the default thresholds. -/
def Obligations.ProtectionDecisionTable : Prop :=
  ∀ (c : SectionConfig) (m : Int) (i : Nat),
    let h : Int := c.hardFloor
    let xw := 3 * c.iWatch / 4
    let xd := 3 * c.iDefend / 4
    let trips := m < -h ∨ c.iTrip ≤ i
    (∀ p, p ≠ .tripped → trips → decideProtection p c m i = .tripped) ∧
    decideProtection .tripped c m i = .tripped ∧
    (¬ trips →
      (c.iDefend ≤ i →
        decideProtection .normal c m i = .defend ∧ decideProtection .watch c m i = .defend) ∧
      (i < c.iDefend → c.iWatch ≤ i → decideProtection .normal c m i = .watch) ∧
      (i < c.iDefend → i < c.iWatch → decideProtection .normal c m i = .normal) ∧
      (i < c.iDefend → i ≤ xw → decideProtection .watch c m i = .normal) ∧
      (i < c.iDefend → xw < i → decideProtection .watch c m i = .watch) ∧
      (i ≤ xw → decideProtection .defend c m i = .normal) ∧
      (xw < i → i ≤ xd → decideProtection .defend c m i = .watch) ∧
      (xw < i → xd < i → decideProtection .defend c m i = .defend)) ∧
    (c.iWatch = 30000 → c.iDefend = 120000 → c.iTrip = 600000 → -h ≤ m →
      (fun p => decideProtection p c m i) =
        (fun p =>
          if p = .tripped ∨ 600000 ≤ i then .tripped
          else if i ≤ 22500 then .normal
          else if i < 30000 then (if p = .normal then .normal else .watch)
          else if i ≤ 90000 then .watch
          else if i < 120000 then (if p = .defend then .defend else .watch)
          else .defend)) ∧
    ∀ (s : State) (n : Slot), s.decideSection n m =
      let p := decideProtection (s.sec n).protection (s.sec n).config m (s.sec n).integrator
      if p = (s.sec n).protection then s else s.changeProtection n p

/-- R81, R82, R128, R129, R132. The moment of an expiry, from which the next ramp interval runs, is log entry 4. -/
def Obligations.RampsFollowTheirTargets : Prop :=
  (∀ (s : State) (n : Slot) (e : Nat), s.inReset = false → (s.fan n).rampTimer = some e →
    let now := max s.time e
    let c := (s.sec n).config
    let v := (s.fan n).ramp
    let target := min (s.sec n).hostDemand (s.sec n).active.fan
    let v' :=
      if s.stopLow then v
      else if v < target then min target (v + c.riseStep)
      else if target < v then
        if c.lowering = .drop then target else max target (v - c.fallStep)
      else v
    let moved : State :=
      { s with
        time := now
        fans := tabSet s.fans n { s.fan n with ramp := v', rampTimer := some (now + 3000000) } }
    ∃ t, exec (.fanRampExpiry n) s = .next t ∧ Restaged moved t n ∧ t = { moved with fans := t.fans }) ∧
  ∀ (s : State) (l : LoopId) (e : Nat), s.inReset = false → (s.loopRec l).rampTimer = some e →
    (s.loopRec l).isSet = true →
    let now := max s.time e
    let r := s.loopRec l
    let v :=
      if r.ramp < r.hostDemand then min r.hostDemand (r.ramp + r.config.riseStep)
      else if r.hostDemand < r.ramp then max r.hostDemand (r.ramp - r.config.fallStep)
      else r.ramp
    let floor :=
      max (if r.regime = .frost then r.config.frostFloor else 0)
        (max (if s.anyMemberIn l .defend then r.config.defendFloor else 0)
          (if s.anyMemberIn l .tripped then 255 else 0))
    exec (.pumpRampExpiry l) s =
      .next
        { s with
          time := now
          loops := tabSet s.loops l { r with ramp := v, rampTimer := some (now + 3000000) }
          pumps :=
            tabSet s.pumps l
              { s.pump l with stagedDuty := if s.stopLow then r.config.stopDuty else max v floor } }

/-- R26, R123 to R125. A boundary as a command of its own, beside the ticks, is log entry 7. -/
def Obligations.BoundariesTakeTheStagedValues : Prop :=
  ∀ (s : State) (dt : Nat), s.inReset = false →
    let compare (c : Channel) := (c.stagedDuty * c.stagedPeriod + 127) / 255
    let taken (c : Channel) (activeLow : Bool) : Channel :=
      { c with
        periodInForce := c.stagedPeriod
        dutyInForce := if c.stagedPeriod = 0 then 0 else c.stagedDuty
        compareInForce := compare c
        counter := 0
        direction := .up
        output := if compare c = 0 then idleLevel activeLow else activeLevel activeLow }
    (∀ l, (s.pump l).enabled = true →
      exec (.periodBoundary dt (.pump l)) s =
        .next
          { s with
            time := s.time + dt, pumps := tabSet s.pumps l (taken (s.pump l) (s.pumpActiveLow l)) }) ∧
    (∀ n, (s.fan n).gen.enabled = true →
      let f : FanChannel := { s.fan n with gen := taken (s.fan n).gen (s.fanActiveLow n) }
      let r := s.sec n
      let drains := r.slot = .retiring ∧ f.gen.dutyInForce = 0
      exec (.periodBoundary dt (.fan n)) s =
        .next
          { s with
            time := s.time + dt
            fans :=
              tabSet s.fans n
                (if drains ∧ r.valveDrained = true then
                  { gen := .disable s.drive.fanPeriod (s.fanActiveLow n), ramp := 0, rampTimer := none,
                    ownStaged := 0 }
                else f)
            sections :=
              if drains then
                tabSet s.sections n (if r.valveDrained then .cleared else { r with fanDrained := true })
              else s.sections }) ∧
    (∀ n, (s.fan n).gen.enabled = false →
      exec (.periodBoundary dt (.fan n)) s = .next { s with time := s.time + dt }) ∧
    ∀ l, (s.pump l).enabled = false →
      exec (.periodBoundary dt (.pump l)) s = .next { s with time := s.time + dt }

/-- R118, R26. That both clocks tick at multiples counted from the reset is log entry 7. -/
def Obligations.ClockTicksReachTheirGroup : Prop :=
  ∀ (s : State) (dt : Nat), s.inReset = false →
    let after (t : State) (code : Fin 8) :=
      t.time % (3 * 2 ^ code.val) = 0 ∧ s.time + dt ≤ t.time ∧ t.time < s.time + dt + 3 * 2 ^ code.val
    (∃ t, exec (.channelClockTick dt .pumps) s = .next t ∧ after t s.drive.pumpPrescale ∧
      (∀ l, t.pump l = (s.pump l).tick s.drive.pumpAlign (s.pumpActiveLow l)) ∧
      t = { s with time := t.time, pumps := t.pumps }) ∧
    ∃ t, exec (.channelClockTick dt .fans) s = .next t ∧ after t s.drive.fanPrescale ∧
      (∀ n,
        let g := (s.fan n).gen.tick s.drive.fanAlign (s.fanActiveLow n)
        let drains :=
          (s.fan n).gen.enabled = true ∧ (s.fan n).gen.boundaryNext s.drive.fanAlign = true ∧
            (s.sec n).slot = .retiring ∧ g.dutyInForce = 0
        (¬ drains → t.fan n = { s.fan n with gen := g } ∧ t.sec n = s.sec n) ∧
        (drains → (s.sec n).valveDrained = false →
          t.fan n = { s.fan n with gen := g } ∧ t.sec n = { s.sec n with fanDrained := true }) ∧
        (drains → (s.sec n).valveDrained = true →
          t.sec n = .cleared ∧
            t.fan n =
              { gen := .disable s.drive.fanPeriod (s.fanActiveLow n), ramp := 0, rampTimer := none,
                ownStaged := 0 })) ∧
      t = { s with time := t.time, fans := t.fans, sections := t.sections }

/-- R121 and R122 whole, with the boundary cases of R123 and R125. -/
def Obligations.PeriodsLastTheirTicks : Prop :=
  ∀ (c : Channel) (activeLow : Bool), c.enabled = true → c.counter = 0 → c.direction = .up →
    let p := c.periodInForce
    let taken : Channel :=
      { c with
        periodInForce := c.stagedPeriod
        dutyInForce := if c.stagedPeriod = 0 then 0 else c.stagedDuty
        compareInForce := (c.stagedDuty * c.stagedPeriod + 127) / 255
        counter := 0
        direction := .up
        output :=
          if (c.stagedDuty * c.stagedPeriod + 127) / 255 = 0 then idleLevel activeLow
          else activeLevel activeLow }
    let counted (counter : Nat) (d : Direction) : Channel :=
      { c with
        counter := counter
        direction := d
        output :=
          if counter < c.compareInForce ∨ (p ≤ c.compareInForce ∧ c.compareInForce ≠ 0) then
            activeLevel activeLow
          else idleLevel activeLow }
    (p = 0 → ∀ a, c.tick a activeLow = taken) ∧
    (0 < p →
      (∀ k, 0 < k → k < p → (fun x => x.tick .left activeLow)^[k] c = counted k .up) ∧
      (fun x => x.tick .left activeLow)^[p] c = taken) ∧
    (0 < p →
      (∀ k, 0 < k → k ≤ p → (fun x => x.tick .centre activeLow)^[k] c = counted k .up) ∧
      (∀ k, p < k → k < 2 * p → (fun x => x.tick .centre activeLow)^[k] c = counted (2 * p - k) .down) ∧
      (fun x => x.tick .centre activeLow)^[2 * p] c = taken)

/-- R132, R133, R151, R26, R136. The order of the effects within the event is log entry 19. -/
def Obligations.StopAssertion : Prop :=
  ∀ (s : State) (dt : Nat), s.inReset = false → s.stopLow = false →
    ∃ t, exec (.stopAssertion dt) s = .next t ∧ t.stopLow = true ∧
      (∀ c, c ∈ t.attention ↔
        c ∈ s.attention ∨ c = { kind := .stop, subject := 0 } ∨
          s.search.state.probing = true ∧ c = { kind := .searchEnd, subject := 0 }) ∧
      (∀ l, t.pump l =
        if (s.loopRec l).isSet then { s.pump l with stagedDuty := (s.loopRec l).config.stopDuty }
        else s.pump l) ∧
      (∀ n, (s.fan n).gen.enabled = true → (s.sec n).slot ≠ .retiring →
        t.fan n =
          { s.fan n with
            gen :=
              { (s.fan n).gen with
                dutyInForce := 0, compareInForce := 0, stagedDuty := 0,
                output := idleLevel (s.fanActiveLow n) }
            ramp := 0
            ownStaged := 0 }) ∧
      (∀ n, (s.fan n).gen.enabled = true → (s.sec n).slot = .retiring →
        if (s.sec n).valveDrained then
          t.sec n = .cleared ∧ (t.fan n).gen.enabled = false ∧
            (t.fan n).gen.output = idleLevel (s.fanActiveLow n)
        else
          (t.sec n).slot = .retiring ∧ (t.sec n).fanDrained = true ∧ (t.fan n).gen.dutyInForce = 0) ∧
      (s.search.state.probing = true →
        t.search = s.search.ended .halted ∧ MonitorBegins s t s.search.loopOf ∧
          ∀ n ∈ s.search.isolated,
            (t.sec n).mark = .none ∧
              ((s.sec n).slot ≠ .retiring → (s.sec n).config.valveNode ≠ none →
                { slot := n, command := .toOpen } ∈ t.txQueue)) ∧
      (s.search.state.probing = false →
        (∀ n, (s.fan n).gen.enabled = false ∨ (s.sec n).slot ≠ .retiring → t.sec n = s.sec n) ∧
        (∀ n, (s.fan n).gen.enabled = true → (s.sec n).slot = .retiring → (s.sec n).valveDrained = false →
          t.sec n = { s.sec n with fanDrained := true }) ∧
        (∀ n, (s.fan n).gen.enabled = false → t.fan n = s.fan n) ∧
        t = { s with
              time := s.time + dt, stopLow := true, sections := t.sections, fans := t.fans,
              pumps := t.pumps, attention := t.attention })

/-- R134, R82, R129, R131, with the fan ceiling of R56 and the gang of R11 that the staged duties are formed from. -/
def Obligations.StopRelease : Prop :=
  (∀ r : SectionRecord, fanCeiling r =
    if r.slot = .starting then r.active.defend
    else if r.slot = .live ∧ r.mark = .none then
      if r.protection = .normal then 255
      else if r.protection = .watch then r.active.watch
      else if r.protection = .defend then r.active.defend
      else 0
    else 0) ∧
  (∀ (s : State) (a b : Slot), a.val % 2 = 0 → b.val = a.val + 1 →
    let formed :=
      (s.sec a).config.gangFlag = true ∧ ((s.sec a).slot = .starting ∨ (s.sec a).slot = .live) ∧
        ((s.sec b).slot = .starting ∨ (s.sec b).slot = .live)
    (s.gangFormed a = true ↔ formed) ∧ (s.gangFormed b = true ↔ formed) ∧
      s.partner a = (if formed then some b else none) ∧ s.partner b = (if formed then some a else none)) ∧
  ∀ (s : State) (dt : Nat), s.inReset = false → s.stopLow = true →
    ∃ t, exec (.stopRelease dt) s = .next t ∧ t.stopLow = false ∧
      (∀ l, (s.loopRec l).isSet = true →
        t.pump l =
          { s.pump l with
            stagedDuty :=
              max (s.loopRec l).ramp
                (max (if (s.loopRec l).regime = .frost then (s.loopRec l).config.frostFloor else 0)
                  (max (if s.anyMemberIn l .defend then (s.loopRec l).config.defendFloor else 0)
                    (if s.anyMemberIn l .tripped then 255 else 0))) }) ∧
      (∀ l, (s.loopRec l).isSet = false → t.pump l = s.pump l) ∧
      (∀ n, (s.fan n).gen.enabled = true →
        (t.fan n).ownStaged = min (s.fan n).ramp (fanCeiling (s.sec n)) ∧
        (s.partner n = none → (t.fan n).gen.stagedDuty = (t.fan n).ownStaged) ∧
        (∀ p, s.partner n = some p → (s.fan p).gen.enabled = true →
          (t.fan n).gen.stagedDuty = min (t.fan n).ownStaged (t.fan p).ownStaged)) ∧
      (∀ n, t.fan n =
        { s.fan n with
          ownStaged := (t.fan n).ownStaged
          gen := { (s.fan n).gen with stagedDuty := (t.fan n).gen.stagedDuty } }) ∧
      t = { s with time := s.time + dt, stopLow := false, fans := t.fans, pumps := t.pumps }

/-- R119 and R127, with R174's subject: the refusals, whose replies carry the configuration that stands, and the
acceptance. The layout of the nine bytes is log entry 10. -/
def Obligations.PartConfigureSetsTheDrives : Prop :=
  ∀ (s : State) (dt : Nat), s.taking →
    let d := s.drive
    let held :=
      layout
        [(1, d.fanPrescale.val), (1, d.pumpPrescale.val), (1, [Machine.Alignment.left, .centre].idxOf d.fanAlign),
          (1, [Machine.Alignment.left, .centre].idxOf d.pumpAlign), (1, d.fanPeriod), (3, d.fanLow.toNat),
          (1, d.pumpLow.toNat)]
    (∀ j p, j ≠ 0 → exec (.partConfigure dt j p) s = .next (s.answered dt 97 .badSubject held)) ∧
    (∀ p : List Byte,
      let undefined := ∃ x ∈ [(0, 8), (1, 8), (2, 2), (3, 2), (8, 16)], x.1 < p.length ∧ x.2 ≤ field8 p x.1
      let refused (status : Status) :=
        exec (.partConfigure dt 0 p) s = .next (s.answered dt 97 status held)
      (undefined → refused .badKind) ∧
      (¬ undefined → p.length ≠ 9 → refused .badLength) ∧
      (¬ undefined → p.length = 9 → (∃ n, (s.sec n).slot ≠ .vacant) → refused .busy)) ∧
    ∀ fp pp fa pa period m1 m2 m3 pl : Byte,
    fp.toNat < 8 → pp.toNat < 8 → fa.toNat < 2 → pa.toNat < 2 → pl.toNat < 16 →
    let p := [fp, pp, fa, pa, period, m1, m2, m3, pl]
    let low (n : Slot) := (m1 ++ m2 ++ m3 : BitVec 24).getLsbD n.val
    ((∀ n, (s.sec n).slot = .vacant) →
      ∃ t, exec (.partConfigure dt 0 p) s = .next t ∧
        t.drive.fanPrescale.val = fp.toNat ∧ t.drive.pumpPrescale.val = pp.toNat ∧
        t.drive.fanAlign = (if fa = 0 then .left else .centre) ∧
        t.drive.pumpAlign = (if pa = 0 then .left else .centre) ∧ t.drive.fanPeriod = period.toNat ∧
        t.drive.fanLow = m1 ++ m2 ++ m3 ∧ t.drive.pumpLow = pl.setWidth 4 ∧
        (∀ n, t.fan n =
          { s.fan n with
            gen :=
              { enabled := false, counter := 0, direction := .up, stagedDuty := 0,
                stagedPeriod := period.toNat, dutyInForce := 0, periodInForce := period.toNat,
                compareInForce := 0, output := idleLevel (low n) } }) ∧
        (∀ l, t.pump l =
          if (s.pump l).enabled then
            { s.pump l with
              counter := 0, direction := .up, periodInForce := (s.pump l).stagedPeriod,
              dutyInForce := if (s.pump l).stagedPeriod = 0 then 0 else (s.pump l).stagedDuty,
              compareInForce := compareOf (s.pump l).stagedDuty (s.pump l).stagedPeriod,
              output :=
                if compareOf (s.pump l).stagedDuty (s.pump l).stagedPeriod = 0 then
                  idleLevel (pl.getLsbD l.val)
                else activeLevel (pl.getLsbD l.val) }
          else { s.pump l with output := idleLevel (pl.getLsbD l.val) }) ∧
        t = { s.answered dt 97 .done p with drive := t.drive, fans := t.fans, pumps := t.pumps })

/-- R28, R30, R114, R116. The time comes to the moment the timer holds (log entry 4). -/
def Obligations.SectionTimersQueueTheirWork : Prop :=
  ∀ (s : State) (n : Slot) (e : Nat), s.inReset = false →
    let now := max s.time (e * unitsPerTenth)
    let command : ValveCommand := if (s.sec n).mark = .none then .toOpen else .toClosed
    let posted : QueueEntry := { slot := n, command := command }
    ((s.sec n).evalTimer = some e →
      exec (.evaluationTimerExpiry n) s =
        .next
          { s with
            time := now
            sections := tabSet s.sections n { s.sec n with evalTimer := none }
            evalQueue := if n ∈ s.evalQueue then s.evalQueue else s.evalQueue ++ [n] }) ∧
    ((s.sec n).refreshTimer = some e →
      ∃ t, exec (.refreshTimerExpiry n) s = .next t ∧
        ((∀ q ∈ s.txQueue, q.slot ≠ n) → t.txQueue = s.txQueue ++ [posted]) ∧
        (∀ before after q, s.txQueue = before ++ q :: after → q.slot = n → (∀ x ∈ before, x.slot ≠ n) →
          t.txQueue = before ++ posted :: after) ∧
        t = { s with
              time := now
              sections :=
                tabSet s.sections n { s.sec n with refreshTimer := some (now / unitsPerTenth + 100) }
              txQueue := t.txQueue })

/-- R113, R115, R89, R25, R26. The silence of the bus and the end of a removed transmission are kept as log entry 13
says, and an entry replaced and replaced back as log entry 24 says; a beginning with nothing to send is log entry 4. -/
def Obligations.TransmissionsSendTheFrontEntry : Prop :=
  ∀ (s : State) (dt : Nat), s.inReset = false →
    (s.busDrivePin = .high ↔ ∃ x, s.transmission = some x ∧ ∀ m, x.stopAt = some m → s.time < m) ∧
    ((s.txQueue = [] ∨ ∃ x, s.transmission = some x ∧ x.stopAt = none) →
      exec (.transmissionBegin dt) s = .next { s with time := s.time + dt }) ∧
    (∀ e rest node, (∀ x, s.transmission = some x → x.stopAt ≠ none) → s.txQueue = e :: rest →
      (s.sec e.slot).config.valveNode = some node →
      let silent :=
        match s.transmission with
        | some x => max s.busIdleFrom (x.stopAt.getD 0)
        | none => s.busIdleFrom
      let began := max (s.time + dt) (silent + 3 * unitsPerChar)
      ∃ telegram : List Byte, telegram.length = 9 ∧
        decodeFragment (heard telegram) =
          some (.ok
            { node := node, kind := 5, command := true, sub := 0,
              value := if e.command = .toOpen then 0 else 1, quality := 0 }) ∧
        exec (.transmissionBegin dt) s =
          .next
            { s with
              time := began
              transmission :=
                some
                  { slot := e.slot, command := e.command, node := node, telegram := telegram,
                    began := began, stopAt := none } }) ∧
    ∀ (x : Transmission) (readBack : List BusChar), s.transmission = some x →
      let command := Instr.transmissionEnd dt readBack
      (∀ m, x.stopAt = some m →
        exec command s =
          .next
            { s with
              time := max (s.time + dt) m, transmission := none, busIdleFrom := max s.busIdleFrom m }) ∧
      (x.stopAt = none →
        let good := (x.telegram.zip readBack).takeWhile fun q => q.2.byte = q.1 ∧ q.2.stopOk
        let sent := min x.telegram.length (good.length + 1)
        let moment := max (s.time + dt) (x.began + sent * unitsPerChar)
        let ended : State := { s with time := moment, transmission := none, busIdleFrom := moment }
        (s.txQueue = [] → exec command s = .next ended) ∧
        ∀ e rest, s.txQueue = e :: rest →
          (e.slot ≠ x.slot ∨ e.command ≠ x.command → exec command s = .next ended) ∧
          (e.slot = x.slot → e.command = x.command →
            let r := s.sec x.slot
            let meets := x.command = .toOpen ∧ r.slot = .retiring
            exec command s =
              .next
                { ended with
                  txQueue := rest
                  sections :=
                    if meets then
                      tabSet s.sections x.slot
                        (if r.fanDrained then .cleared else { r with valveDrained := true })
                    else s.sections
                  fans :=
                    if meets ∧ r.fanDrained = true then
                      tabSet s.fans x.slot
                        { gen := .disable s.drive.fanPeriod (s.fanActiveLow x.slot), ramp := 0,
                          rampTimer := none, ownStaged := 0 }
                    else s.fans }))

/-- R84, R86, R87. The window is judged over the length it began with, by the model's choice (log entry 23); the moment
of an expiry is log entry 4. -/
def Obligations.LeakWindowsAreJudged : Prop :=
  ∀ (s : State) (l : LoopId) (e : Nat), s.inReset = false → s.monitorRuns l = true →
    (s.loopRec l).leakTimer = some e →
    let now := max s.time (e * unitsPerTenth)
    let r := s.loopRec l
    let w := r.leakWindow
    let valid := 3 ≤ w.count ∧ 5 * r.leakLength ≤ w.span
    let judged (result : WindowResult) (outcome : AutoOutcome) :=
      tabSet s.loops l
        { r with
          leakTimer := some (now / unitsPerTenth + 10 * r.config.leakWindow)
          leakLength := r.config.leakWindow
          leakWindow := .empty
          lastResult := result
          autoOutcome := outcome }
    let suspect (t : State) :=
      ∀ c, c ∈ t.attention ↔ c ∈ s.attention ∨ c = { kind := .leakSuspect, subject := l.val }
    (∀ a b, w.first = some a → w.last = some b →
      w.span = (b.taken - a.taken).toNat ∧
        (w.rate : Int) = max 0 ((a.pressure - b.pressure) * 36000 / (w.span : Int))) ∧
    (¬ valid →
      exec (.leakWindowExpiry l) s =
        .next { s with time := now, loops := judged .invalid r.autoOutcome }) ∧
    (valid → w.rate ≤ r.config.suspect →
      exec (.leakWindowExpiry l) s =
        .next { s with time := now, loops := judged (.rate w.rate) r.autoOutcome }) ∧
    (valid → r.config.suspect < w.rate →
      (r.config.autoSearch = false →
        ∃ t, exec (.leakWindowExpiry l) s = .next t ∧ suspect t ∧
          t = { s with
                time := now, loops := judged (.rate w.rate) r.autoOutcome, attention := t.attention }) ∧
      (r.config.autoSearch = true → s.search.state ≠ .idle →
        ∃ t, exec (.leakWindowExpiry l) s = .next t ∧ suspect t ∧
          t = { s with
                time := now, loops := judged (.rate w.rate) .searchBusy, attention := t.attention }) ∧
      (r.config.autoSearch = true → s.search.state = .idle → s.candidateList l = [] →
        ∃ t, exec (.leakWindowExpiry l) s = .next t ∧ suspect t ∧
          t = { s with
                time := now, loops := judged (.rate w.rate) .noCandidates, attention := t.attention }) ∧
      (r.config.autoSearch = true → s.search.state = .idle → s.candidateList l ≠ [] →
        ∃ t, exec (.leakWindowExpiry l) s = .next t ∧ suspect t ∧
          SearchBegun s t l (now / unitsPerTenth) ∧
          t.loops =
            tabSet s.loops l
              { r with
                leakTimer := none, leakLength := 0, leakWindow := .empty, lastResult := .rate w.rate,
                autoOutcome := .started } ∧
          t = { s with
                time := now, sections := t.sections, fans := t.fans, loops := t.loops,
                txQueue := t.txQueue, lines := t.lines, search := t.search, attention := t.attention }))

/-- R135 to R139, R84, with R114, R129, R131 and R157 for what the marks of the members reach. -/
def Obligations.SearchStartIsolatesTheFirstHalf : Prop :=
  (∀ (s : State) (l : LoopId),
    (s.candidateList l).Pairwise (fun a b => a.lead < b.lead) ∧
    ∀ u, u ∈ s.candidateList l ↔
      (if s.gangFormed u.lead then u.lead = leadOf u.lead ∧ u.follower = some (followerOf u.lead)
      else u.follower = none) ∧
      ∀ n ∈ u.members,
        (s.sec n).slot = .live ∧ (s.sec n).config.loopOf = l ∧ (s.sec n).protection = .normal ∧
          (s.sec n).config.valveNode ≠ none ∧ (s.sec n).valve.status = .fresh ∧
          (s.sec n).valve.stored.map (·.value) = some 0 ∧
          ∃ e, (s.sec n).lastEval = some e ∧ ((s.loopRec l).config.search.floor : Int) ≤ e.margin) ∧
  ∀ (s : State) (dt : Nat) (l : LoopId), s.taking →
    let command := Instr.searchStart dt (indexByte l) []
    let r := s.loopRec l
    let list := s.candidateList l
    (r.isSet = false → exec command s = .next (s.answered dt 64 .loopUnset [])) ∧
    (r.isSet = true → s.search.state ≠ .idle → exec command s = .next (s.answered dt 64 .busy [])) ∧
    (r.isSet = true → s.search.state = .idle → list = [] →
      exec command s = .next (s.answered dt 64 .noCandidates [])) ∧
    (r.isSet = true → s.search.state = .idle → list ≠ [] →
      ∃ t, exec command s = .next t ∧
        SearchBegun s t l ((s.time + dt) / unitsPerTenth) ∧
        t.loops =
          tabSet s.loops l { r with leakTimer := none, leakLength := 0, leakWindow := .empty } ∧
        t = { s.answered dt 64 .accepted [] with
              sections := t.sections, fans := t.fans, loops := t.loops, txQueue := t.txQueue,
              lines := t.lines, search := t.search })

/-- R140, R148. The moment of an expiry is log entry 4, and the value of a reading is judged as log entry 11 says. -/
def Obligations.SettlingWaitsForClosedValves : Prop :=
  ∀ (s : State) (p : SearchParams), s.search.state = .settling → s.search.params = some p →
    let c := s.search
    let closed := ∀ n ∈ c.isolated, (s.sec n).valve.reads 1 = true
    let observing (tenths : Nat) : SearchContext :=
      { c with
        state := .observing, deadline := none, window := .empty,
        phaseTimer := some (tenths + 10 * p.observe) }
    (∀ e, s.inReset = false →
      let now := max s.time (e * unitsPerTenth)
      let observed : State := { s with time := now, search := observing (now / unitsPerTenth) }
      (c.phaseTimer = some e →
        (closed → exec .settleTimerExpiry s = .next observed) ∧
        (¬ closed →
          exec .settleTimerExpiry s = .next { s with time := now, search := { c with phaseTimer := none } })) ∧
      (c.deadline = some e →
        (c.phaseTimer = none → closed → exec .settleDeadlineExpiry s = .next observed) ∧
        (¬ (c.phaseTimer = none ∧ closed) →
          ∃ t, exec .settleDeadlineExpiry s = .next t ∧ SearchEnded s t .valveFault ∧
            ∀ n ∈ c.isolated, (s.sec n).valve.reads 1 = false →
              { kind := .valveFault, subject := n.val } ∈ t.attention))) ∧
    ∀ dt chars b f r q n, Delivers s dt chars b f r q → f.dest = .valve n → n ∈ c.isolated →
      let kept := s.keeps dt f r q
      ∃ t, exec (.fragmentEnd dt chars) s = .next t ∧ (t.sec n).valve = kept ∧
        (r.value = 3 →
          SearchEnded s t .valveFault ∧ { kind := .valveFault, subject := n.val } ∈ t.attention) ∧
        (r.value ≠ 3 →
          (∀ m, (t.sec m).mark = (s.sec m).mark) ∧
          (c.phaseTimer = none ∧ s.readsAfter kept n c.isolated 1 →
            t.search = observing ((s.time + dt) / unitsPerTenth)) ∧
          (¬ (c.phaseTimer = none ∧ s.readsAfter kept n c.isolated 1) → t.search = c))

/-- R141, R142, R143, R145, R148; R139 and R144 where the rest time is 0. The moment of an expiry is log entry 4; the
phase kept while the search rests and L kept as a count of units are log entry 17; the value of a reading is judged as
log entry 11 says. -/
def Obligations.ObservationDecidesTheSearch : Prop :=
  ∀ (s : State) (p : SearchParams), s.search.state = .observing → s.search.params = some p →
    let c := s.search
    (∀ dt chars b f r q n, Delivers s dt chars b f r q → f.dest = .valve n → n ∈ c.isolated →
      ∃ t, exec (.fragmentEnd dt chars) s = .next t ∧ (t.sec n).valve = s.keeps dt f r q ∧
        (r.value ≠ 1 →
          SearchEnded s t .valveFault ∧ { kind := .valveFault, subject := n.val } ∈ t.attention) ∧
        (r.value = 1 → t.search = c ∧ ∀ m, (t.sec m).mark = (s.sec m).mark)) ∧
    ∀ e, s.inReset = false → c.phaseTimer = some e →
    let now := max s.time (e * unitsPerTenth)
    let tenths := now / unitsPerTenth
    let valid := 3 ≤ c.window.count ∧ 5 * p.observe ≤ c.window.span
    let rate := c.window.rate
    let hi := if rate ≤ p.quiet then c.rangeLo + c.probed else c.rangeHi
    let lo := if rate ≤ p.quiet then c.rangeLo else c.rangeLo + c.probed
    let marks (n : Slot) := if n ∈ c.isolated then .none else (s.sec n).mark
    let opened (t : State) := (∀ n, (t.sec n).mark = marks n) ∧ OpenPosted s t c.isolated
    let rests (t : State) (d : SearchContext) :=
      let resting : SearchContext :=
        { d with
          state := .resting, isolated := [], wait := c.isolated, lastRate := some rate,
          deadline := some (tenths + 10 * (p.rest + 60)) }
      let open0 := ∀ n ∈ c.isolated, (s.sec n).valve.reads 0 = true
      (p.rest ≠ 0 →
        t.search = { resting with phaseTimer := some (tenths + 10 * p.rest) } ∧ opened t ∧
          t.attention = s.attention) ∧
      (p.rest = 0 → ¬ open0 →
        t.search = { resting with phaseTimer := none } ∧ opened t ∧ t.attention = s.attention) ∧
      (p.rest = 0 → open0 →
        IsolationMade s t { resting with phaseTimer := none, steps := min 255 (c.steps + 1) } p tenths marks)
    (¬ valid → c.repeats < 2 →
      exec .observeTimerExpiry s =
        .next
          { s with
            time := now
            search :=
              { c with
                repeats := c.repeats + 1, window := .empty,
                phaseTimer := some (tenths + 10 * p.observe) } }) ∧
    (¬ valid → 2 ≤ c.repeats →
      ∃ t, exec .observeTimerExpiry s = .next t ∧ SearchEnded s t .noPressure) ∧
    (valid → c.phase ≠ some .confirm → hi ≤ lo →
      ∃ t, exec .observeTimerExpiry s = .next t ∧ opened t ∧
        t.search = { c with rangeLo := lo, rangeHi := hi, lastRate := some rate }.ended .inconclusive ∧
        { kind := .searchEnd, subject := 0 } ∈ t.attention ∧ MonitorBegins s t c.loopOf) ∧
    (valid → c.phase ≠ some .confirm → lo < hi →
      ∃ t, exec .observeTimerExpiry s = .next t ∧ rests t { c with rangeLo := lo, rangeHi := hi }) ∧
    (valid → c.phase = some .confirm → rate ≤ p.quiet →
      ∃ t, exec .observeTimerExpiry s = .next t ∧
        t.search =
          { c with
            state := .held, result := .found, heldUnit := c.range.head?, lastRate := some rate,
            phaseTimer := none, deadline := none, window := .empty } ∧
        (∀ n, (t.sec n).mark = if n ∈ c.isolated then .held else (s.sec n).mark) ∧
        { kind := .searchEnd, subject := 0 } ∈ t.attention ∧
        (∀ n ∈ c.isolated,
          { kind := .leakHeld, subject := n.val } ∈ t.attention ∧
            ((s.sec n).config.valveNode ≠ none → { slot := n, command := .toClosed } ∈ t.txQueue)) ∧
        MonitorBegins s t c.loopOf) ∧
    (valid → c.phase = some .confirm → p.quiet < rate → c.restartsUsed < p.restarts →
      ∃ t, exec .observeTimerExpiry s = .next t ∧
        rests t
          { c with restartsUsed := c.restartsUsed + 1, rangeLo := 0, rangeHi := c.candidates.length }) ∧
    (valid → c.phase = some .confirm → p.quiet < rate → p.restarts ≤ c.restartsUsed →
      ∃ t, exec .observeTimerExpiry s = .next t ∧ opened t ∧
        t.search = { c with lastRate := some rate }.ended .inconclusive ∧
        { kind := .searchEnd, subject := 0 } ∈ t.attention ∧ MonitorBegins s t c.loopOf)

/-- R139, R144, R147. The moment of an expiry is log entry 4, a rest timer stopped by a rest time of 0 log entry 17, and
the value of a reading log entry 11. -/
def Obligations.RestingWaitsForOpenValves : Prop :=
  ∀ (s : State) (p : SearchParams), s.search.params = some p →
    let c := s.search
    let marks (n : Slot) := (s.sec n).mark
    let opened := ∀ n ∈ c.wait, (s.sec n).valve.reads 0 = true
    let normal := ∀ n ∈ c.wait, (s.sec n).protection = .normal
    let stopped : SearchContext := { c with phaseTimer := none, wait := [] }
    let stepped : SearchContext := { stopped with deadline := none, steps := min 255 (c.steps + 1) }
    (∀ e, s.inReset = false →
      let now := max s.time (e * unitsPerTenth)
      let tenths := now / unitsPerTenth
      (c.state = .resting ∨ c.state = .suspended → c.phaseTimer = some e →
        ¬ opened ∨ c.state = .suspended ∧ ¬ normal →
        exec .restTimerExpiry s =
          .next { s with time := now, search := { c with phaseTimer := none } }) ∧
      (c.state = .resting → c.phaseTimer = some e → opened →
        ∃ t, exec .restTimerExpiry s = .next t ∧ IsolationMade s t stepped p tenths marks) ∧
      (c.state = .suspended → c.phaseTimer = some e → opened → normal →
        ∃ t, exec .restTimerExpiry s = .next t ∧ IsolationMade s t stopped p tenths marks) ∧
      (c.state = .resting → c.deadline = some e → ¬ (c.phaseTimer = none ∧ opened) →
        ∃ t, exec .restDeadlineExpiry s = .next t ∧ SearchEnded s t .valveFault ∧
          ∀ n ∈ c.wait, (s.sec n).valve.reads 0 = false →
            { kind := .valveFault, subject := n.val } ∈ t.attention) ∧
      (c.state = .resting → c.deadline = some e → c.phaseTimer = none → opened →
        ∃ t, exec .restDeadlineExpiry s = .next t ∧ IsolationMade s t stepped p tenths marks)) ∧
    ∀ dt chars b f r q n, Delivers s dt chars b f r q → f.dest = .valve n → n ∈ c.wait →
      let tenths := (s.time + dt) / unitsPerTenth
      let kept := s.keeps dt f r q
      let met :=
        c.phaseTimer = none ∧ s.readsAfter kept n c.wait 0 ∧ (c.state = .suspended → normal)
      c.state = .resting ∨ c.state = .suspended →
      ∃ t, exec (.fragmentEnd dt chars) s = .next t ∧ (t.sec n).valve = kept ∧
        (r.value = 3 →
          SearchEnded s t .valveFault ∧ { kind := .valveFault, subject := n.val } ∈ t.attention) ∧
        (r.value ≠ 3 → ¬ met → t.search = c ∧ ∀ m, (t.sec m).mark = marks m) ∧
        (r.value ≠ 3 → met →
          IsolationMade s t (if c.state = .resting then stepped else stopped) p tenths marks)

/-- R150 whole, with R114, R129, R131 and R136 for what the release in HELD reaches; STOPPED ends the search as R148
says. -/
def Obligations.SearchStopReleases : Prop :=
  ∀ (s : State) (dt : Nat) (j : Byte) (p : List Byte), s.taking →
    let isolated := s.search.isolated
    let own (t : State) (n : Slot) :=
      if n ∈ isolated then min (s.fan n).ramp (fanCeiling (t.sec n)) else (s.fan n).ownStaged
    (j ≠ 0 → exec (.searchStop dt j p) s = .next (s.answered dt 65 .badSubject [])) ∧
    (p ≠ [] → exec (.searchStop dt 0 p) s = .next (s.answered dt 65 .badLength [])) ∧
    (s.search.state = .idle → exec (.searchStop dt 0 []) s = .next (s.answered dt 65 .done [])) ∧
    (s.search.state = .held →
      ∃ t, exec (.searchStop dt 0 []) s = .next t ∧
        t.search = s.search.ended s.search.result ∧
        (∀ n, t.sec n =
          if n ∈ isolated then
            { s.sec n with
              mark := .none
              refreshTimer :=
                if (s.sec n).config.valveNode = none then (s.sec n).refreshTimer
                else some ((s.time + dt) / unitsPerTenth + 100) }
          else s.sec n) ∧
        OpenPosted s t isolated ∧
        t.txQueue.filter (fun e => e.slot ∉ isolated) = s.txQueue.filter (fun e => e.slot ∉ isolated) ∧
        (∀ n, t.fan n =
          if n ∈ isolated ∨ ∃ m ∈ isolated, s.partner m = some n then
            { s.fan n with
              ownStaged := own t n
              gen :=
                { (s.fan n).gen with
                  stagedDuty :=
                    if s.stopLow then 0
                    else
                      match s.partner n with
                      | none => own t n
                      | some m => min (own t n) (own t m) } }
          else s.fan n) ∧
        (∀ k, (∀ n ∈ isolated, (s.line k).mask.getLsbD (Fin.val n) = false) → t.line k = s.line k) ∧
        t = { s.answered dt 65 .done [] with
              sections := t.sections, fans := t.fans, txQueue := t.txQueue, lines := t.lines,
              search := t.search }) ∧
    (s.search.state ≠ .idle → s.search.state ≠ .held →
      ∃ t, exec (.searchStop dt 0 []) s = .next t ∧ SearchEnded s t .stopped ∧
        t.reply = { status := .done, kind := 65, payload := [] } ∧
        (∀ n ∈ s.search.isolated, (s.sec n).config.valveNode ≠ none →
          { slot := n, command := .toOpen } ∈ t.txQueue) ∧
        ∀ l, s.search.loopOf = some l →
          t.loops =
            tabSet s.loops l
              { s.loopRec l with
                leakTimer :=
                  some ((s.time + dt) / unitsPerTenth + 10 * (s.loopRec l).config.leakWindow)
                leakLength := (s.loopRec l).config.leakWindow
                leakWindow := .empty })

/-- R156 to R159. What the condition was before an evaluation is read from the line itself (log entry 21); the moment of
an expiry is log entry 4. -/
def Obligations.ClearLinesFollowTheirCondition : Prop :=
  (∀ (s : State) (k : LineId),
    let c := s.line k
    (∀ mask : BitVec 24, s.maskSafe mask = true ↔
      mask ≠ 0 ∧ ∀ n, mask.getLsbD (Fin.val n) = true →
        (s.sec n).slot = .live ∧ ((s.sec n).protection = .normal ∨ (s.sec n).protection = .watch) ∧
          (s.sec n).mark = .none ∧ (s.sec n).outlet.status = .fresh ∧
          (s.sec n).outlet.stored.map (·.quality) = some .ok) ∧
    (∀ j, j ≠ k → (s.evalLine k).line j = s.line j) ∧
    ((s.evalLine k).line k =
      if s.maskSafe c.mask then
        if c.state = .asserted ∨ c.timer ≠ none then c
        else if c.delayCode = 0 then { c with state := .asserted }
        else
          { c with
            timer :=
              some (s.time / unitsPerTenth + 10 * [0, 5, 10, 20, 40, 80, 160, 320].getD c.delayCode.val 0) }
      else { c with state := .released, timer := none }) ∧
    (∀ e, s.inReset = false → c.timer = some e →
      exec (.delayTimerExpiry k) s =
        .next
          { s with
            time := max s.time (e * unitsPerTenth)
            lines := tabSet s.lines k { c with state := .asserted, timer := none } })) ∧
  (∀ (s : State) (dt : Nat) (k : LineId), s.taking →
    (∀ j p, 4 ≤ j.toNat → exec (.clearLineSet dt j p) s = .next (s.answered dt 48 .badSubject [])) ∧
    ∀ p : List Byte,
      let refused (status : Status) :=
        exec (.clearLineSet dt (indexByte k) p) s = .next (s.answered dt 48 status [])
      (3 < p.length → 8 ≤ field8 p 3 → refused .badKind) ∧
        (p.length ≠ 4 → ¬ (3 < p.length ∧ 8 ≤ field8 p 3) → refused .badLength)) ∧
  ∀ (s : State) (dt : Nat) (k : LineId) (m1 m2 m3 code : Byte), s.taking → code.toNat < 8 →
    let command := Instr.clearLineSet dt (indexByte k) [m1, m2, m3, code]
    let mask : BitVec 24 := m1 ++ m2 ++ m3
    ((∃ n, mask.getLsbD (Fin.val n) = true ∧ (s.sec n).slot.inService = false) →
      exec command s = .next (s.answered dt 48 .vacant [])) ∧
    ((∀ n, mask.getLsbD (Fin.val n) = true → (s.sec n).slot.inService = true) →
      ∃ t, exec command s = .next t ∧
        (t.line k).mask = mask ∧ (t.line k).delayCode.val = code.toNat ∧
        (s.maskSafe mask = false → (t.line k).state = .released ∧ (t.line k).timer = none) ∧
        (s.maskSafe mask = true → code = 0 → (t.line k).state = .asserted ∧ (t.line k).timer = none) ∧
        (s.maskSafe mask = true → code ≠ 0 →
          (t.line k).state = .released ∧
            (t.line k).timer =
              some ((s.time + dt) / unitsPerTenth + 10 * [0, 5, 10, 20, 40, 80, 160, 320].getD code.toNat 0)) ∧
        t = { s.answered dt 48 .done [] with lines := tabSet s.lines k (t.line k) })

/-- R163 whole. -/
def Obligations.PostingOnlyAddsItsCause : Prop :=
  ∀ (s : State) (kind : CauseKind) (subject : Nat), s.attentionKept →
    let cause : Cause := { kind, subject }
    (∀ c, c ∈ (s.post kind subject).attention ↔ c ∈ s.attention ∨ c = cause) ∧
      (cause ∈ s.attention → s.post kind subject = s) ∧
      s.post kind subject = { s with attention := (s.post kind subject).attention } ∧
      (∀ levels, ({ s with levels := levels }.post kind subject).attention =
        (s.post kind subject).attention) ∧
      (∀ other place c, c ∈ ((s.post kind subject).post other place).attention ↔
        c ∈ ((s.post other place).post kind subject).attention) ∧
      ∀ removed : Cause → Bool, removed cause = true →
        cause ∉ ((s.post kind subject).dropCauses removed).attention ∧
          cause ∈ ((s.dropCauses removed).post kind subject).attention

/-- R166, with the line of R165 and the codes of R162. The level byte of an empty set is a free value (log entry 3). -/
def Obligations.NextAttentionTakesTheFirstCause : Prop :=
  [CauseKind.restarted, .stop, .trip, .frozenHold, .valveFault, .leakHeld, .leakSuspect, .searchEnd, .defend,
    .stale, .watch, .regime].map CauseKind.code = [1, 2, 3, 4, 5, 6, 7, 8, 9, 10, 11, 12] ∧
  (∀ s : State, s.attentionPin =
    if s.inReset = false ∧ s.attention ≠ [] then .low else .highImpedance) ∧
  ∀ (s : State) (dt : Nat), s.taking → s.attentionKept →
    (∀ j p, j ≠ 0 → exec (.nextAttention dt j p) s = .next (s.answered dt 80 .badSubject [])) ∧
    (∀ p, p ≠ [] → exec (.nextAttention dt 0 p) s = .next (s.answered dt 80 .badLength [])) ∧
    (s.attention = [] →
      ∃ level : Byte,
        exec (.nextAttention dt 0 []) s =
          .next { s.answered dt 80 .done [0, 0, level, 0] with freeCount := s.freeCount + 1 }) ∧
    ∀ c ∈ s.attention,
      (∀ d ∈ s.attention, d ≠ c →
        (s.levelOf c.kind = .high ∧ s.levelOf d.kind = .low) ∨
          s.levelOf c.kind = s.levelOf d.kind ∧
            (c.kind.code < d.kind.code ∨ c.kind = d.kind ∧ c.subject < d.subject)) →
      exec (.nextAttention dt 0 []) s =
        .next
          { s.answered dt 80 .done
              [BitVec.ofNat 8 c.kind.code, BitVec.ofNat 8 c.subject,
                if s.levelOf c.kind = .high then 0 else 1, BitVec.ofNat 8 (s.attention.length - 1)] with
            attention := s.attention.filter (· ≠ c) }

/-- R167 whole; the order under the levels is that of R166. -/
def Obligations.AttentionLevelsReorder : Prop :=
  (∀ k : CauseKind, State.reset.levelOf k = if k.code ≤ 6 then .high else .low) ∧
  ∀ (s : State) (dt : Nat) (j : Byte) (p : List Byte), s.taking →
    let bytes (v : Vector CauseLevel 12) : List Byte := v.toList.map fun x => if x = .high then 0 else 1
    (j ≠ 0 → exec (.attentionLevels dt j p) s = .next (s.answered dt 81 .badSubject (bytes s.levels))) ∧
    (j = 0 → p = [] → exec (.attentionLevels dt j p) s = .next (s.answered dt 81 .done (bytes s.levels))) ∧
    (j = 0 → p ≠ [] → p.length ≠ 12 →
      exec (.attentionLevels dt j p) s = .next (s.answered dt 81 .badLength (bytes s.levels))) ∧
    (j = 0 → p.length = 12 → (∃ b ∈ p, 2 ≤ b.toNat) →
      exec (.attentionLevels dt j p) s = .next (s.answered dt 81 .badKind (bytes s.levels))) ∧
    (j = 0 → p.length = 12 → (∀ b ∈ p, b.toNat < 2) →
      ∃ t, exec (.attentionLevels dt j p) s = .next t ∧
        (∀ k : CauseKind, t.levelOf k = if p.getD (k.code - 1) 0 = 0 then .high else .low) ∧
        t = { s.answered dt 81 .done p with levels := t.levels })

/-- R177, and R181 for a transaction that the part ignores; the ready time itself is R176's, and REPLY READY as a
command that brings it is log entry 4. -/
def Obligations.RepliesAreNotReadyUntilTheirTime : Prop :=
  ∀ (s : State) (dt : Nat),
    (s.link = .idle → s.inReset = false → s.time + dt < s.readyAt →
      exec (.transactionBegin dt) s =
        .next
          { s with
            time := s.time + dt
            link := .answering { status := .notReady, kind := s.reply.kind, payload := [] } true }) ∧
    (s.link = .idle → s.inReset = true →
      exec (.transactionBegin dt) s = .next { s with time := s.time + dt, link := .ignored }) ∧
    ((s.link = .ignored ∨ ∃ f, s.link = .answering f true) →
      exec (.notReadyTransactionEnd dt) s = .next { s with time := s.time + dt, link := .idle } ∧
      (∀ c k j p, requestParts c = some (k, dt, j, p) →
        exec c s = .next { s with time := s.time + dt, link := .idle }) ∧
      (∀ bytes extra, isBroken bytes extra = true →
        exec (.brokenTransaction dt bytes extra) s =
          .next { s with time := s.time + dt, link := .idle }) ∧
      ∀ frame, isRefused frame = true →
        exec (.frameRefused dt frame) s = .next { s with time := s.time + dt, link := .idle }) ∧
    (s.link = .idle → s.inReset = false → s.readyAt ≤ s.time + dt →
      exec (.transactionBegin dt) s =
        .next { s with time := s.time + dt, link := .answering s.reply false }) ∧
    (s.inReset = false → exec .replyReady s = .next { s with time := max s.time s.readyAt })

/-- R168, R169, R174, R175, R176. A request without a TRANSACTION BEGIN before it is a whole transaction (log entry
18). The table gives the requests whose first checks are a count of subjects and one payload length. -/
def Obligations.RefusalsChangeOnlyTheReply : Prop :=
  ∀ (s : State) (dt : Nat), s.taking →
    (∀ c k j p, requestParts c = some (k, dt, j, p) →
      ∀ x ∈ [(17, 4, 1), (18, 4, 1), (20, 2, 0), (33, 48, 0), (34, 48, 1), (35, 48, 0), (36, 16, 0),
          (37, 1, 0), (49, 4, 0), (64, 4, 0), (65, 1, 0), (66, 1, 0), (80, 1, 0), (96, 1, 0), (98, 1, 0)],
        k = x.1 →
        (x.2.1 ≤ j.toNat → exec c s = .next (s.answered dt k .badSubject [])) ∧
          (j.toNat < x.2.1 → p.length ≠ x.2.2 → exec c s = .next (s.answered dt k .badLength []))) ∧
    (∀ t c k j p, requestParts c = some (k, dt, j, p) → exec c s = .next t →
      t.reply.status.isRefusal = true → t = s.answered dt k t.reply.status t.reply.payload) ∧
    (∀ bytes extra, isBroken bytes extra = true →
      exec (.brokenTransaction dt bytes extra) s =
        .next (s.linkRefused dt .badLength (bytes.headD 0))) ∧
    ∀ frame : List Byte, frame.length = 64 →
      (60 < (frame.getD 2 0).toNat →
        exec (.frameRefused dt frame) s = .next (s.linkRefused dt .badLength (frame.headD 0))) ∧
      ((frame.getD 2 0).toNat ≤ 60 → byteSum (frame.take (4 + (frame.getD 2 0).toNat)) ≠ 0 →
        exec (.frameRefused dt frame) s = .next (s.linkRefused dt .badCheck (frame.headD 0))) ∧
      ((frame.getD 2 0).toNat ≤ 60 → byteSum (frame.take (4 + (frame.getD 2 0).toNat)) = 0 →
        (frame.headD 0).toNat ∉ kindCodes →
        exec (.frameRefused dt frame) s = .next (s.linkRefused dt .badKind (frame.headD 0)))

/-- R178 whole, over the bytes of a reply frame, which are those of section 9.2 and R170 with the codes of R172. -/
def Obligations.NullCollectsTheReply : Prop :=
  [Status.done, .doneClamped, .accepted, .notReady, .none, .badCheck, .badKind, .badLength, .badSubject, .vacant,
      .occupied, .loopUnset, .order, .busy, .held, .stillCold, .duplicateDest, .noCandidates].map Status.code =
    [1, 2, 3, 4, 5, 6, 7, 8, 9, 10, 11, 12, 13, 14, 15, 16, 17, 18] ∧
  (∀ r : Reply, r.payload.length ≤ 60 →
    ∃ check : Byte,
      r.bytes =
        [BitVec.ofNat 8 r.status.code, r.kind, BitVec.ofNat 8 r.payload.length] ++ r.payload ++ [check] ++
          List.replicate (60 - r.payload.length) 0 ∧
      r.bytes.length = 64 ∧ byteSum r.bytes = 0) ∧
  ∀ (s : State) (j : Byte) (p : List Byte),
    (∀ dt, s.taking → exec (.null dt j p) s = .next (s.answered dt 0 .done [])) ∧
    ∀ dt dt' t, s.link = .idle → s.inReset = false → s.readyAt ≤ s.time + dt →
      exec (.transactionBegin dt) s = .next t →
      (∀ i, t.shiftedOut i = some (s.reply.bytes.getD i 0)) ∧
        exec (.null dt' j p) t = .next (s.answered (dt + dt') 0 .done [])

/-- R180, R181, R132. The levels of the pins at power-on are the command's operands (log entry 6). -/
def Obligations.ResetsRestoreTheResetState : Prop :=
  ∀ (s : State) (stopLow selLow : Bool),
    exec (.powerOn stopLow selLow false) s =
      .next (s.afterReset .power stopLow (if selLow then .ignored else .idle)) ∧
    (∃ t, exec (.powerOn stopLow selLow true) s = .next t ∧ t.inReset = true ∧
      exec .pinReset t = .next (s.afterReset .power stopLow (if selLow then .ignored else .idle))) ∧
    (s.resetPin ≠ .lowThroughPowerOn →
      exec .pinReset s =
        .next (s.afterReset .pin s.stopLow (if s.link = .idle then .idle else .ignored))) ∧
    ∀ dt, s.taking → exec (.fullReset dt 0 []) s = .next (s.afterReset .request s.stopLow .idle)

/-- R3, R28, R67, R74, R96, R98, R101, R114, R118 to R120, R135, R156, R162, R181, value by value. The records that
other statements call `cleared`, `defaults`, `afterReset` and `awaiting` are these. The drain conditions, the length of
the leak window and the silence of the bus are kept by the model (log entries 13 and 23), and the pins at rest are log
entry 6. -/
def Obligations.ResetLeavesTheManualsValues : Prop :=
  let r := State.reset
  let zero : LimitSet := { fan := 0, watch := 0, defend := 0, guard := 0 }
  let awaiting : Destination :=
    { status := .awaiting, stored := none, staleSince := none, freshTimer := none, combineTimer := none,
      holdTimer := none }
  let cleared : SectionRecord :=
    { slot := .vacant
      config :=
        { loopOf := 0, designFlow := 0, weight := 0, hardFloor := 0, iWatch := 0, iDefend := 0, iTrip := 0,
          penalty := 0, grace := 0, emax := 0, lowering := .drop, riseStep := 0, fallStep := 0,
          valveNode := none, gangFlag := false, mild := zero, frost := zero }
      active := zero, hostDemand := 0, protection := .normal, integrator := 0, lastEval := none, mark := .none,
      evalTimer := none, refreshTimer := none, outlet := awaiting, air := awaiting, valve := awaiting,
      fanDrained := false, valveDrained := false }
  let disabled (period : Nat) : Channel :=
    { enabled := false, counter := 0, direction := .up, stagedDuty := 0, stagedPeriod := period,
      dutyInForce := 0, periodInForce := period, compareInForce := 0, output := .low }
  let empty : CaptureWindow := { count := 0, first := none, last := none }
  let defaults : LoopConfig :=
    { curve := .a, concentration := 0, frostAir := -3500, frostEntry := -1500, frostExit := -1000,
      dwell := 900, frostFloor := 64, defendFloor := 128, stopDuty := 64, riseStep := 4, fallStep := 2,
      period := 255, leakWindow := 600, suspect := 40, autoSearch := false,
      search := { settle := 120, observe := 300, rest := 120, quiet := 10, floor := 500, restarts := 1 } }
  let unset : LoopRecord :=
    { isSet := false, config := defaults, regime := .mild, regimeEntry := 0, coldest := none, hostDemand := 0,
      ramp := 0, rampTimer := none, leakTimer := none, leakLength := 0, leakWindow := empty,
      lastResult := .none, autoOutcome := .none, flow := awaiting, pressure := awaiting,
      concentration := awaiting, air := awaiting }
  (∀ n, r.sec n = cleared ∧
    r.fan n = { gen := disabled 160, ramp := 0, rampTimer := none, ownStaged := 0 }) ∧
  (∀ l, r.loopRec l = unset ∧ r.pump l = disabled 255) ∧
  (SectionRecord.cleared = cleared ∧ LimitSet.cleared = zero ∧ SectionConfig.cleared = cleared.config ∧
    Destination.awaiting = awaiting ∧ LoopConfig.defaults = defaults ∧ LoopRecord.afterReset = unset ∧
    CaptureWindow.empty = empty ∧ ∀ period, Channel.disabled period = disabled period) ∧
  r.drive =
    { fanPrescale := 3, pumpPrescale := 3, fanAlign := .left, pumpAlign := .left, fanPeriod := 160,
      fanLow := 0, pumpLow := 0 } ∧
  (2 ^ r.drive.fanPrescale.val = 8 ∧ 2 ^ r.drive.pumpPrescale.val = 8 ∧ (∀ n, r.fanActiveLow n = false) ∧
    ∀ l, r.pumpActiveLow l = false) ∧
  r.curveA.toList = [0, -250, -550, -900, -1350, -1900, -2600, -3400, -4300] ∧
  r.curveB.toList = [0, -280, -620, -1050, -1600, -2300, -3100, -4000, -5000] ∧
  r.evalQueue = [] ∧ r.txQueue = [] ∧ r.transmission = none ∧ r.busIdleFrom = 0 ∧ r.receiverSynced = false ∧
  (∀ b, r.binding b = .empty) ∧ (∀ node : Fin 256, r.seen[node] = 0) ∧
  r.search =
    { state := .idle, phase := none, loopOf := none, params := none, candidates := [], rangeLo := 0,
      rangeHi := 0, probed := 0, isolated := [], wait := [], steps := 0, repeats := 0, preemptions := 0,
      restartsUsed := 0, phaseTimer := none, deadline := none, window := empty, lastRate := none,
      heldUnit := none, result := .none } ∧
  (∀ k, r.line k = { mask := 0, delayCode := 0, timer := none, state := .released }) ∧
  r.attention = [{ kind := .restarted, subject := 0 }] ∧
  (∀ k ∈ [CauseKind.restarted, .stop, .trip, .frozenHold, .valveFault, .leakHeld], r.levelOf k = .high) ∧
  (∀ k ∈ [CauseKind.leakSuspect, .searchEnd, .defend, .stale, .watch, .regime], r.levelOf k = .low) ∧
  r.reply = { status := .none, kind := 0, payload := [] } ∧ r.readyAt = 1200 ∧ r.resetCause = .power ∧
  r.link = .idle ∧ r.resetPin = .released ∧ r.stopLow = false ∧ r.time = 0 ∧ r.partTime = 0 ∧ r.pending = []

/-- R89, R120, R156, R165, R168, R181: the outputs of every state in a reset and of every state outside one, with the
levels of each polarity, where ATTN_N and BUS_DRV have statements of their own; the falling edge, and every command until
the reset ends. That the records keep their values until the rising edge is the model's choice (log entry 5). -/
def Obligations.ResetInputHoldsThePart : Prop :=
  ∀ s : State,
    (s.inReset = true →
      (∀ n, s.fanPin n = .low) ∧ (∀ l, s.pumpPin l = .low) ∧ (∀ k, s.clearPin k = .highImpedance) ∧
        s.attentionPin = .highImpedance ∧ s.linkDriven = false ∧ s.busDrivePin = .low) ∧
    (s.inReset = false →
      (∀ n, s.fanPin n = if (s.fan n).gen.output = .high then .high else .low) ∧
      (∀ l, s.pumpPin l = if (s.pump l).output = .high then .high else .low) ∧
      (∀ k, s.clearPin k = if (s.line k).state = .asserted then .low else .highImpedance) ∧
      (s.linkDriven = true ↔ ∃ frame notReady, s.link = .answering frame notReady) ∧
      ∀ i, s.shiftedOut i =
        match s.link with
        | .answering frame _ => some (frame.bytes.getD i 0)
        | .idle | .ignored => none) ∧
    (activeLevel false = .high ∧ activeLevel true = .low ∧ idleLevel false = .low ∧ idleLevel true = .high) ∧
    ((∀ n, s.fanActiveLow n = s.drive.fanLow.getLsbD n.val) ∧
      ∀ l, s.pumpActiveLow l = s.drive.pumpLow.getLsbD l.val) ∧
    (∀ (c : Channel) (low : Bool), c.level low =
      if c.enabled = true ∧ c.periodInForce ≠ 0 ∧ c.compareInForce ≠ 0 ∧
          (c.periodInForce ≤ c.compareInForce ∨ c.counter < c.compareInForce) then activeLevel low
      else idleLevel low) ∧
    (∃ t, exec .resetInputAssertion s = .next t ∧ t.inReset = true ∧
      (∀ n, t.fan n = { s.fan n with gen := { (s.fan n).gen with output := .low } }) ∧
      (∀ l, t.pump l = { s.pump l with output := .low }) ∧
      t.link = (if s.link = .idle then .idle else .ignored) ∧
      t = { s with resetPin := t.resetPin, link := t.link, fans := t.fans, pumps := t.pumps }) ∧
    (s.inReset = true → ∀ c, (∀ a b d, c ≠ .powerOn a b d) → c ≠ .pinReset →
      ∃ t, exec c s = .next t ∧ t.inReset = true ∧
        (∀ n, { t.fan n with gen := { (t.fan n).gen with output := .low } } =
          { s.fan n with gen := { (s.fan n).gen with output := .low } }) ∧
        (∀ l, { t.pump l with output := .low } = { s.pump l with output := .low }) ∧
        t = { s with
              time := t.time, resetPin := t.resetPin, stopLow := t.stopLow, link := t.link, fans := t.fans,
              pumps := t.pumps })

/-- R162, R166; R46; R74; R5: ranges and orders that no command breaks. -/
def Obligations.RecordsStayInRange : Prop :=
  ∀ s t : State, s.attentionKept → s.integratorsBounded → s.curvesKept → s.orderingsKept →
    step s = .next t →
    t.attentionKept ∧ t.integratorsBounded ∧ t.curvesKept ∧ t.orderingsKept

/-- R28, R30; R114; R98; R156. -/
def Obligations.TablesAndQueuesStayConsistent : Prop :=
  ∀ s t : State, s.queueKept → s.entriesKept → s.bindingsKept → s.masksKept → step s = .next t →
    t.queueKept ∧ t.entriesKept ∧ t.bindingsKept ∧ t.masksKept

/-- R126, R129 to R132; R82: the staged duties follow every event that can change them. -/
def Obligations.DrivesStayWithinTheirCeilings : Prop :=
  ∀ s t : State, s.fansHeld → s.pumpsDecided → step s = .next t → t.fansHeld ∧ t.pumpsDecided

/-- R157, R158: every event that can change a condition evaluates its lines. -/
def Obligations.ClearLinesNeverHoldUnsafely : Prop :=
  ∀ s t : State, s.linesHeld → step s = .next t → t.linesHeld

/-- R135, R136: isolation is the search's alone and ends with it. -/
def Obligations.MarksBelongToTheSearch : Prop :=
  ∀ s t : State, s.marksKept → step s = .next t → t.marksKept

/-- R101, R104, R108, R109. -/
def Obligations.DestinationsKeepTheirTimers : Prop :=
  ∀ s t : State, s.destinationsKept → step s = .next t → t.destinationsKept

/-- The start of the invariants. -/
def Obligations.ResetMeetsTheInvariants : Prop :=
  let r := State.reset
  r.attentionKept ∧ r.integratorsBounded ∧ r.curvesKept ∧ r.orderingsKept ∧ r.queueKept ∧ r.entriesKept ∧
    r.bindingsKept ∧ r.masksKept ∧ r.fansHeld ∧ r.pumpsDecided ∧ r.linesHeld ∧ r.marksKept ∧
    r.destinationsKept
end

