-- ==== Sys2Proof/Laws/State.lean ====
section
/-! SUPPORT. The small lemmas of State: what each named update leaves as it was, field by field, and what reading
back one record after a change of one gives. -/

namespace Sys2Proof.Machine

open Sys2Proof

section Tables

variable {α : Type} {n : Nat}

@[simp] theorem tabGet_tabSet (v : Vector α n) (i j : Fin n) (a : α) :
    tabGet (tabSet v i a) j = if i = j then a else tabGet v j := by
  simp [tabGet, tabSet, Vector.getElem_set, Fin.ext_iff]

@[simp] theorem tabGet_tabMk (f : Fin n → α) (j : Fin n) : tabGet (tabMk f) j = f j := by
  simp [tabGet, tabMk]

@[simp] theorem tabGet_replicate (a : α) (j : Fin n) : tabGet (Vector.replicate n a) j = a := by
  simp [tabGet]

@[simp] theorem tabGet_map {β : Type} (g : α → β) (v : Vector α n) (j : Fin n) :
    tabGet (v.map g) j = g (tabGet v j) := by
  simp [tabGet]

/-- Two tables are equal where every record is. -/
theorem tab_ext {v w : Vector α n} (h : ∀ i, tabGet v i = tabGet w i) : v = w := by
  apply Vector.ext
  intro i hi
  exact h ⟨i, hi⟩

end Tables

/-! ### Reading back one record -/

theorem State.modSec_sec (s : State) (n m : Slot) (f : SectionRecord → SectionRecord) :
    (s.modSec n f).sec m = if n = m then f (s.sec n) else s.sec m := by
  simp [State.sec, State.modSec]

@[simp] theorem State.modSec_sec_self (s : State) (n : Slot) (f : SectionRecord → SectionRecord) :
    (s.modSec n f).sec n = f (s.sec n) := by
  simp [State.modSec_sec]

theorem State.modSec_sec_ne (s : State) {n m : Slot} (f : SectionRecord → SectionRecord) (h : m ≠ n) :
    (s.modSec n f).sec m = s.sec m := by
  simp [State.modSec_sec, Ne.symm h]

theorem State.modFan_fan (s : State) (n m : Slot) (f : FanChannel → FanChannel) :
    (s.modFan n f).fan m = if n = m then f (s.fan n) else s.fan m := by
  simp [State.fan, State.modFan]

@[simp] theorem State.modFan_fan_self (s : State) (n : Slot) (f : FanChannel → FanChannel) :
    (s.modFan n f).fan n = f (s.fan n) := by
  simp [State.modFan_fan]

theorem State.modFan_fan_ne (s : State) {n m : Slot} (f : FanChannel → FanChannel) (h : m ≠ n) :
    (s.modFan n f).fan m = s.fan m := by
  simp [State.modFan_fan, Ne.symm h]

theorem State.modLoop_loopRec (s : State) (l m : LoopId) (f : LoopRecord → LoopRecord) :
    (s.modLoop l f).loopRec m = if l = m then f (s.loopRec l) else s.loopRec m := by
  simp [State.loopRec, State.modLoop]

@[simp] theorem State.modLoop_loopRec_self (s : State) (l : LoopId) (f : LoopRecord → LoopRecord) :
    (s.modLoop l f).loopRec l = f (s.loopRec l) := by
  simp [State.modLoop_loopRec]

theorem State.modLoop_loopRec_ne (s : State) {l m : LoopId} (f : LoopRecord → LoopRecord) (h : m ≠ l) :
    (s.modLoop l f).loopRec m = s.loopRec m := by
  simp [State.modLoop_loopRec, Ne.symm h]

theorem State.modPump_pump (s : State) (l m : LoopId) (f : Channel → Channel) :
    (s.modPump l f).pump m = if l = m then f (s.pump l) else s.pump m := by
  simp [State.pump, State.modPump]

@[simp] theorem State.modPump_pump_self (s : State) (l : LoopId) (f : Channel → Channel) :
    (s.modPump l f).pump l = f (s.pump l) := by
  simp [State.modPump_pump]

theorem State.setBinding_binding (s : State) (b c : BindingId) (v : BindingState) :
    (s.setBinding b v).binding c = if b = c then v else s.binding c := by
  simp [State.binding, State.setBinding]

theorem State.modLine_line (s : State) (k j : LineId) (f : ClearLine → ClearLine) :
    (s.modLine k f).line j = if k = j then f (s.line k) else s.line j := by
  simp [State.line, State.modLine]

@[simp] theorem State.modLine_line_self (s : State) (k : LineId) (f : ClearLine → ClearLine) :
    (s.modLine k f).line k = f (s.line k) := by
  simp [State.modLine_line]

@[simp] theorem State.modSearch_search (s : State) (f : SearchContext → SearchContext) :
    (s.modSearch f).search = f s.search := rfl

@[simp] theorem State.advance_time (s : State) (dt : Nat) : (s.advance dt).time = s.time + dt := rfl

@[simp] theorem State.putReply_reply (s : State) (r : Reply) : (s.putReply r).reply = r := rfl

@[simp] theorem State.putReply_readyAt (s : State) (r : Reply) :
    (s.putReply r).readyAt = s.time + unitsToReady := rfl

/-! `advance` -/

@[simp] theorem State.advance_resetPin (s : State) (dt : Nat) :
    (s.advance dt).resetPin = s.resetPin := rfl

@[simp] theorem State.advance_stopLow (s : State) (dt : Nat) :
    (s.advance dt).stopLow = s.stopLow := rfl

@[simp] theorem State.advance_resetCause (s : State) (dt : Nat) :
    (s.advance dt).resetCause = s.resetCause := rfl

@[simp] theorem State.advance_sections (s : State) (dt : Nat) :
    (s.advance dt).sections = s.sections := rfl

@[simp] theorem State.advance_sec (s : State) (dt : Nat) (q : Slot) :
    (s.advance dt).sec q = s.sec q := rfl

@[simp] theorem State.advance_fans (s : State) (dt : Nat) :
    (s.advance dt).fans = s.fans := rfl

@[simp] theorem State.advance_fan (s : State) (dt : Nat) (q : Slot) :
    (s.advance dt).fan q = s.fan q := rfl

@[simp] theorem State.advance_loops (s : State) (dt : Nat) :
    (s.advance dt).loops = s.loops := rfl

@[simp] theorem State.advance_loopRec (s : State) (dt : Nat) (q : LoopId) :
    (s.advance dt).loopRec q = s.loopRec q := rfl

@[simp] theorem State.advance_pumps (s : State) (dt : Nat) :
    (s.advance dt).pumps = s.pumps := rfl

@[simp] theorem State.advance_pump (s : State) (dt : Nat) (q : LoopId) :
    (s.advance dt).pump q = s.pump q := rfl

@[simp] theorem State.advance_curveA (s : State) (dt : Nat) :
    (s.advance dt).curveA = s.curveA := rfl

@[simp] theorem State.advance_curveB (s : State) (dt : Nat) :
    (s.advance dt).curveB = s.curveB := rfl

@[simp] theorem State.advance_drive (s : State) (dt : Nat) :
    (s.advance dt).drive = s.drive := rfl

@[simp] theorem State.advance_evalQueue (s : State) (dt : Nat) :
    (s.advance dt).evalQueue = s.evalQueue := rfl

@[simp] theorem State.advance_seen (s : State) (dt : Nat) :
    (s.advance dt).seen = s.seen := rfl

@[simp] theorem State.advance_bindings (s : State) (dt : Nat) :
    (s.advance dt).bindings = s.bindings := rfl

@[simp] theorem State.advance_binding (s : State) (dt : Nat) (q : BindingId) :
    (s.advance dt).binding q = s.binding q := rfl

@[simp] theorem State.advance_txQueue (s : State) (dt : Nat) :
    (s.advance dt).txQueue = s.txQueue := rfl

@[simp] theorem State.advance_transmission (s : State) (dt : Nat) :
    (s.advance dt).transmission = s.transmission := rfl

@[simp] theorem State.advance_busIdleFrom (s : State) (dt : Nat) :
    (s.advance dt).busIdleFrom = s.busIdleFrom := rfl

@[simp] theorem State.advance_receiverSynced (s : State) (dt : Nat) :
    (s.advance dt).receiverSynced = s.receiverSynced := rfl

@[simp] theorem State.advance_search (s : State) (dt : Nat) :
    (s.advance dt).search = s.search := rfl

@[simp] theorem State.advance_lines (s : State) (dt : Nat) :
    (s.advance dt).lines = s.lines := rfl

@[simp] theorem State.advance_line (s : State) (dt : Nat) (q : LineId) :
    (s.advance dt).line q = s.line q := rfl

@[simp] theorem State.advance_attention (s : State) (dt : Nat) :
    (s.advance dt).attention = s.attention := rfl

@[simp] theorem State.advance_levels (s : State) (dt : Nat) :
    (s.advance dt).levels = s.levels := rfl

@[simp] theorem State.advance_link (s : State) (dt : Nat) :
    (s.advance dt).link = s.link := rfl

@[simp] theorem State.advance_reply (s : State) (dt : Nat) :
    (s.advance dt).reply = s.reply := rfl

@[simp] theorem State.advance_readyAt (s : State) (dt : Nat) :
    (s.advance dt).readyAt = s.readyAt := rfl

@[simp] theorem State.advance_freeCount (s : State) (dt : Nat) :
    (s.advance dt).freeCount = s.freeCount := rfl

@[simp] theorem State.advance_pending (s : State) (dt : Nat) :
    (s.advance dt).pending = s.pending := rfl

/-! `runTo` -/

@[simp] theorem State.runTo_resetPin (s : State) (m : Nat) :
    (s.runTo m).resetPin = s.resetPin := rfl

@[simp] theorem State.runTo_stopLow (s : State) (m : Nat) :
    (s.runTo m).stopLow = s.stopLow := rfl

@[simp] theorem State.runTo_resetCause (s : State) (m : Nat) :
    (s.runTo m).resetCause = s.resetCause := rfl

@[simp] theorem State.runTo_sections (s : State) (m : Nat) :
    (s.runTo m).sections = s.sections := rfl

@[simp] theorem State.runTo_sec (s : State) (m : Nat) (q : Slot) :
    (s.runTo m).sec q = s.sec q := rfl

@[simp] theorem State.runTo_fans (s : State) (m : Nat) :
    (s.runTo m).fans = s.fans := rfl

@[simp] theorem State.runTo_fan (s : State) (m : Nat) (q : Slot) :
    (s.runTo m).fan q = s.fan q := rfl

@[simp] theorem State.runTo_loops (s : State) (m : Nat) :
    (s.runTo m).loops = s.loops := rfl

@[simp] theorem State.runTo_loopRec (s : State) (m : Nat) (q : LoopId) :
    (s.runTo m).loopRec q = s.loopRec q := rfl

@[simp] theorem State.runTo_pumps (s : State) (m : Nat) :
    (s.runTo m).pumps = s.pumps := rfl

@[simp] theorem State.runTo_pump (s : State) (m : Nat) (q : LoopId) :
    (s.runTo m).pump q = s.pump q := rfl

@[simp] theorem State.runTo_curveA (s : State) (m : Nat) :
    (s.runTo m).curveA = s.curveA := rfl

@[simp] theorem State.runTo_curveB (s : State) (m : Nat) :
    (s.runTo m).curveB = s.curveB := rfl

@[simp] theorem State.runTo_drive (s : State) (m : Nat) :
    (s.runTo m).drive = s.drive := rfl

@[simp] theorem State.runTo_evalQueue (s : State) (m : Nat) :
    (s.runTo m).evalQueue = s.evalQueue := rfl

@[simp] theorem State.runTo_seen (s : State) (m : Nat) :
    (s.runTo m).seen = s.seen := rfl

@[simp] theorem State.runTo_bindings (s : State) (m : Nat) :
    (s.runTo m).bindings = s.bindings := rfl

@[simp] theorem State.runTo_binding (s : State) (m : Nat) (q : BindingId) :
    (s.runTo m).binding q = s.binding q := rfl

@[simp] theorem State.runTo_txQueue (s : State) (m : Nat) :
    (s.runTo m).txQueue = s.txQueue := rfl

@[simp] theorem State.runTo_transmission (s : State) (m : Nat) :
    (s.runTo m).transmission = s.transmission := rfl

@[simp] theorem State.runTo_busIdleFrom (s : State) (m : Nat) :
    (s.runTo m).busIdleFrom = s.busIdleFrom := rfl

@[simp] theorem State.runTo_receiverSynced (s : State) (m : Nat) :
    (s.runTo m).receiverSynced = s.receiverSynced := rfl

@[simp] theorem State.runTo_search (s : State) (m : Nat) :
    (s.runTo m).search = s.search := rfl

@[simp] theorem State.runTo_lines (s : State) (m : Nat) :
    (s.runTo m).lines = s.lines := rfl

@[simp] theorem State.runTo_line (s : State) (m : Nat) (q : LineId) :
    (s.runTo m).line q = s.line q := rfl

@[simp] theorem State.runTo_attention (s : State) (m : Nat) :
    (s.runTo m).attention = s.attention := rfl

@[simp] theorem State.runTo_levels (s : State) (m : Nat) :
    (s.runTo m).levels = s.levels := rfl

@[simp] theorem State.runTo_link (s : State) (m : Nat) :
    (s.runTo m).link = s.link := rfl

@[simp] theorem State.runTo_reply (s : State) (m : Nat) :
    (s.runTo m).reply = s.reply := rfl

@[simp] theorem State.runTo_readyAt (s : State) (m : Nat) :
    (s.runTo m).readyAt = s.readyAt := rfl

@[simp] theorem State.runTo_freeCount (s : State) (m : Nat) :
    (s.runTo m).freeCount = s.freeCount := rfl

@[simp] theorem State.runTo_pending (s : State) (m : Nat) :
    (s.runTo m).pending = s.pending := rfl

/-! `runToTenth` -/

@[simp] theorem State.runToTenth_resetPin (s : State) (m : Nat) :
    (s.runToTenth m).resetPin = s.resetPin := rfl

@[simp] theorem State.runToTenth_stopLow (s : State) (m : Nat) :
    (s.runToTenth m).stopLow = s.stopLow := rfl

@[simp] theorem State.runToTenth_resetCause (s : State) (m : Nat) :
    (s.runToTenth m).resetCause = s.resetCause := rfl

@[simp] theorem State.runToTenth_sections (s : State) (m : Nat) :
    (s.runToTenth m).sections = s.sections := rfl

@[simp] theorem State.runToTenth_sec (s : State) (m : Nat) (q : Slot) :
    (s.runToTenth m).sec q = s.sec q := rfl

@[simp] theorem State.runToTenth_fans (s : State) (m : Nat) :
    (s.runToTenth m).fans = s.fans := rfl

@[simp] theorem State.runToTenth_fan (s : State) (m : Nat) (q : Slot) :
    (s.runToTenth m).fan q = s.fan q := rfl

@[simp] theorem State.runToTenth_loops (s : State) (m : Nat) :
    (s.runToTenth m).loops = s.loops := rfl

@[simp] theorem State.runToTenth_loopRec (s : State) (m : Nat) (q : LoopId) :
    (s.runToTenth m).loopRec q = s.loopRec q := rfl

@[simp] theorem State.runToTenth_pumps (s : State) (m : Nat) :
    (s.runToTenth m).pumps = s.pumps := rfl

@[simp] theorem State.runToTenth_pump (s : State) (m : Nat) (q : LoopId) :
    (s.runToTenth m).pump q = s.pump q := rfl

@[simp] theorem State.runToTenth_curveA (s : State) (m : Nat) :
    (s.runToTenth m).curveA = s.curveA := rfl

@[simp] theorem State.runToTenth_curveB (s : State) (m : Nat) :
    (s.runToTenth m).curveB = s.curveB := rfl

@[simp] theorem State.runToTenth_drive (s : State) (m : Nat) :
    (s.runToTenth m).drive = s.drive := rfl

@[simp] theorem State.runToTenth_evalQueue (s : State) (m : Nat) :
    (s.runToTenth m).evalQueue = s.evalQueue := rfl

@[simp] theorem State.runToTenth_seen (s : State) (m : Nat) :
    (s.runToTenth m).seen = s.seen := rfl

@[simp] theorem State.runToTenth_bindings (s : State) (m : Nat) :
    (s.runToTenth m).bindings = s.bindings := rfl

@[simp] theorem State.runToTenth_binding (s : State) (m : Nat) (q : BindingId) :
    (s.runToTenth m).binding q = s.binding q := rfl

@[simp] theorem State.runToTenth_txQueue (s : State) (m : Nat) :
    (s.runToTenth m).txQueue = s.txQueue := rfl

@[simp] theorem State.runToTenth_transmission (s : State) (m : Nat) :
    (s.runToTenth m).transmission = s.transmission := rfl

@[simp] theorem State.runToTenth_busIdleFrom (s : State) (m : Nat) :
    (s.runToTenth m).busIdleFrom = s.busIdleFrom := rfl

@[simp] theorem State.runToTenth_receiverSynced (s : State) (m : Nat) :
    (s.runToTenth m).receiverSynced = s.receiverSynced := rfl

@[simp] theorem State.runToTenth_search (s : State) (m : Nat) :
    (s.runToTenth m).search = s.search := rfl

@[simp] theorem State.runToTenth_lines (s : State) (m : Nat) :
    (s.runToTenth m).lines = s.lines := rfl

@[simp] theorem State.runToTenth_line (s : State) (m : Nat) (q : LineId) :
    (s.runToTenth m).line q = s.line q := rfl

@[simp] theorem State.runToTenth_attention (s : State) (m : Nat) :
    (s.runToTenth m).attention = s.attention := rfl

@[simp] theorem State.runToTenth_levels (s : State) (m : Nat) :
    (s.runToTenth m).levels = s.levels := rfl

@[simp] theorem State.runToTenth_link (s : State) (m : Nat) :
    (s.runToTenth m).link = s.link := rfl

@[simp] theorem State.runToTenth_reply (s : State) (m : Nat) :
    (s.runToTenth m).reply = s.reply := rfl

@[simp] theorem State.runToTenth_readyAt (s : State) (m : Nat) :
    (s.runToTenth m).readyAt = s.readyAt := rfl

@[simp] theorem State.runToTenth_freeCount (s : State) (m : Nat) :
    (s.runToTenth m).freeCount = s.freeCount := rfl

@[simp] theorem State.runToTenth_pending (s : State) (m : Nat) :
    (s.runToTenth m).pending = s.pending := rfl

/-! `modSec` -/

@[simp] theorem State.modSec_time (s : State) (n : Slot) (f : SectionRecord → SectionRecord) :
    (s.modSec n f).time = s.time := rfl

@[simp] theorem State.modSec_resetPin (s : State) (n : Slot) (f : SectionRecord → SectionRecord) :
    (s.modSec n f).resetPin = s.resetPin := rfl

@[simp] theorem State.modSec_stopLow (s : State) (n : Slot) (f : SectionRecord → SectionRecord) :
    (s.modSec n f).stopLow = s.stopLow := rfl

@[simp] theorem State.modSec_resetCause (s : State) (n : Slot) (f : SectionRecord → SectionRecord) :
    (s.modSec n f).resetCause = s.resetCause := rfl

@[simp] theorem State.modSec_fans (s : State) (n : Slot) (f : SectionRecord → SectionRecord) :
    (s.modSec n f).fans = s.fans := rfl

@[simp] theorem State.modSec_fan (s : State) (n : Slot) (f : SectionRecord → SectionRecord) (q : Slot) :
    (s.modSec n f).fan q = s.fan q := rfl

@[simp] theorem State.modSec_loops (s : State) (n : Slot) (f : SectionRecord → SectionRecord) :
    (s.modSec n f).loops = s.loops := rfl

@[simp] theorem State.modSec_loopRec (s : State) (n : Slot) (f : SectionRecord → SectionRecord) (q : LoopId) :
    (s.modSec n f).loopRec q = s.loopRec q := rfl

@[simp] theorem State.modSec_pumps (s : State) (n : Slot) (f : SectionRecord → SectionRecord) :
    (s.modSec n f).pumps = s.pumps := rfl

@[simp] theorem State.modSec_pump (s : State) (n : Slot) (f : SectionRecord → SectionRecord) (q : LoopId) :
    (s.modSec n f).pump q = s.pump q := rfl

@[simp] theorem State.modSec_curveA (s : State) (n : Slot) (f : SectionRecord → SectionRecord) :
    (s.modSec n f).curveA = s.curveA := rfl

@[simp] theorem State.modSec_curveB (s : State) (n : Slot) (f : SectionRecord → SectionRecord) :
    (s.modSec n f).curveB = s.curveB := rfl

@[simp] theorem State.modSec_drive (s : State) (n : Slot) (f : SectionRecord → SectionRecord) :
    (s.modSec n f).drive = s.drive := rfl

@[simp] theorem State.modSec_evalQueue (s : State) (n : Slot) (f : SectionRecord → SectionRecord) :
    (s.modSec n f).evalQueue = s.evalQueue := rfl

@[simp] theorem State.modSec_seen (s : State) (n : Slot) (f : SectionRecord → SectionRecord) :
    (s.modSec n f).seen = s.seen := rfl

@[simp] theorem State.modSec_bindings (s : State) (n : Slot) (f : SectionRecord → SectionRecord) :
    (s.modSec n f).bindings = s.bindings := rfl

@[simp] theorem State.modSec_binding (s : State) (n : Slot) (f : SectionRecord → SectionRecord) (q : BindingId) :
    (s.modSec n f).binding q = s.binding q := rfl

@[simp] theorem State.modSec_txQueue (s : State) (n : Slot) (f : SectionRecord → SectionRecord) :
    (s.modSec n f).txQueue = s.txQueue := rfl

@[simp] theorem State.modSec_transmission (s : State) (n : Slot) (f : SectionRecord → SectionRecord) :
    (s.modSec n f).transmission = s.transmission := rfl

@[simp] theorem State.modSec_busIdleFrom (s : State) (n : Slot) (f : SectionRecord → SectionRecord) :
    (s.modSec n f).busIdleFrom = s.busIdleFrom := rfl

@[simp] theorem State.modSec_receiverSynced (s : State) (n : Slot) (f : SectionRecord → SectionRecord) :
    (s.modSec n f).receiverSynced = s.receiverSynced := rfl

@[simp] theorem State.modSec_search (s : State) (n : Slot) (f : SectionRecord → SectionRecord) :
    (s.modSec n f).search = s.search := rfl

@[simp] theorem State.modSec_lines (s : State) (n : Slot) (f : SectionRecord → SectionRecord) :
    (s.modSec n f).lines = s.lines := rfl

@[simp] theorem State.modSec_line (s : State) (n : Slot) (f : SectionRecord → SectionRecord) (q : LineId) :
    (s.modSec n f).line q = s.line q := rfl

@[simp] theorem State.modSec_attention (s : State) (n : Slot) (f : SectionRecord → SectionRecord) :
    (s.modSec n f).attention = s.attention := rfl

@[simp] theorem State.modSec_levels (s : State) (n : Slot) (f : SectionRecord → SectionRecord) :
    (s.modSec n f).levels = s.levels := rfl

@[simp] theorem State.modSec_link (s : State) (n : Slot) (f : SectionRecord → SectionRecord) :
    (s.modSec n f).link = s.link := rfl

@[simp] theorem State.modSec_reply (s : State) (n : Slot) (f : SectionRecord → SectionRecord) :
    (s.modSec n f).reply = s.reply := rfl

@[simp] theorem State.modSec_readyAt (s : State) (n : Slot) (f : SectionRecord → SectionRecord) :
    (s.modSec n f).readyAt = s.readyAt := rfl

@[simp] theorem State.modSec_freeCount (s : State) (n : Slot) (f : SectionRecord → SectionRecord) :
    (s.modSec n f).freeCount = s.freeCount := rfl

@[simp] theorem State.modSec_pending (s : State) (n : Slot) (f : SectionRecord → SectionRecord) :
    (s.modSec n f).pending = s.pending := rfl

/-! `modFan` -/

@[simp] theorem State.modFan_time (s : State) (n : Slot) (f : FanChannel → FanChannel) :
    (s.modFan n f).time = s.time := rfl

@[simp] theorem State.modFan_resetPin (s : State) (n : Slot) (f : FanChannel → FanChannel) :
    (s.modFan n f).resetPin = s.resetPin := rfl

@[simp] theorem State.modFan_stopLow (s : State) (n : Slot) (f : FanChannel → FanChannel) :
    (s.modFan n f).stopLow = s.stopLow := rfl

@[simp] theorem State.modFan_resetCause (s : State) (n : Slot) (f : FanChannel → FanChannel) :
    (s.modFan n f).resetCause = s.resetCause := rfl

@[simp] theorem State.modFan_sections (s : State) (n : Slot) (f : FanChannel → FanChannel) :
    (s.modFan n f).sections = s.sections := rfl

@[simp] theorem State.modFan_sec (s : State) (n : Slot) (f : FanChannel → FanChannel) (q : Slot) :
    (s.modFan n f).sec q = s.sec q := rfl

@[simp] theorem State.modFan_loops (s : State) (n : Slot) (f : FanChannel → FanChannel) :
    (s.modFan n f).loops = s.loops := rfl

@[simp] theorem State.modFan_loopRec (s : State) (n : Slot) (f : FanChannel → FanChannel) (q : LoopId) :
    (s.modFan n f).loopRec q = s.loopRec q := rfl

@[simp] theorem State.modFan_pumps (s : State) (n : Slot) (f : FanChannel → FanChannel) :
    (s.modFan n f).pumps = s.pumps := rfl

@[simp] theorem State.modFan_pump (s : State) (n : Slot) (f : FanChannel → FanChannel) (q : LoopId) :
    (s.modFan n f).pump q = s.pump q := rfl

@[simp] theorem State.modFan_curveA (s : State) (n : Slot) (f : FanChannel → FanChannel) :
    (s.modFan n f).curveA = s.curveA := rfl

@[simp] theorem State.modFan_curveB (s : State) (n : Slot) (f : FanChannel → FanChannel) :
    (s.modFan n f).curveB = s.curveB := rfl

@[simp] theorem State.modFan_drive (s : State) (n : Slot) (f : FanChannel → FanChannel) :
    (s.modFan n f).drive = s.drive := rfl

@[simp] theorem State.modFan_evalQueue (s : State) (n : Slot) (f : FanChannel → FanChannel) :
    (s.modFan n f).evalQueue = s.evalQueue := rfl

@[simp] theorem State.modFan_seen (s : State) (n : Slot) (f : FanChannel → FanChannel) :
    (s.modFan n f).seen = s.seen := rfl

@[simp] theorem State.modFan_bindings (s : State) (n : Slot) (f : FanChannel → FanChannel) :
    (s.modFan n f).bindings = s.bindings := rfl

@[simp] theorem State.modFan_binding (s : State) (n : Slot) (f : FanChannel → FanChannel) (q : BindingId) :
    (s.modFan n f).binding q = s.binding q := rfl

@[simp] theorem State.modFan_txQueue (s : State) (n : Slot) (f : FanChannel → FanChannel) :
    (s.modFan n f).txQueue = s.txQueue := rfl

@[simp] theorem State.modFan_transmission (s : State) (n : Slot) (f : FanChannel → FanChannel) :
    (s.modFan n f).transmission = s.transmission := rfl

@[simp] theorem State.modFan_busIdleFrom (s : State) (n : Slot) (f : FanChannel → FanChannel) :
    (s.modFan n f).busIdleFrom = s.busIdleFrom := rfl

@[simp] theorem State.modFan_receiverSynced (s : State) (n : Slot) (f : FanChannel → FanChannel) :
    (s.modFan n f).receiverSynced = s.receiverSynced := rfl

@[simp] theorem State.modFan_search (s : State) (n : Slot) (f : FanChannel → FanChannel) :
    (s.modFan n f).search = s.search := rfl

@[simp] theorem State.modFan_lines (s : State) (n : Slot) (f : FanChannel → FanChannel) :
    (s.modFan n f).lines = s.lines := rfl

@[simp] theorem State.modFan_line (s : State) (n : Slot) (f : FanChannel → FanChannel) (q : LineId) :
    (s.modFan n f).line q = s.line q := rfl

@[simp] theorem State.modFan_attention (s : State) (n : Slot) (f : FanChannel → FanChannel) :
    (s.modFan n f).attention = s.attention := rfl

@[simp] theorem State.modFan_levels (s : State) (n : Slot) (f : FanChannel → FanChannel) :
    (s.modFan n f).levels = s.levels := rfl

@[simp] theorem State.modFan_link (s : State) (n : Slot) (f : FanChannel → FanChannel) :
    (s.modFan n f).link = s.link := rfl

@[simp] theorem State.modFan_reply (s : State) (n : Slot) (f : FanChannel → FanChannel) :
    (s.modFan n f).reply = s.reply := rfl

@[simp] theorem State.modFan_readyAt (s : State) (n : Slot) (f : FanChannel → FanChannel) :
    (s.modFan n f).readyAt = s.readyAt := rfl

@[simp] theorem State.modFan_freeCount (s : State) (n : Slot) (f : FanChannel → FanChannel) :
    (s.modFan n f).freeCount = s.freeCount := rfl

@[simp] theorem State.modFan_pending (s : State) (n : Slot) (f : FanChannel → FanChannel) :
    (s.modFan n f).pending = s.pending := rfl

/-! `modLoop` -/

@[simp] theorem State.modLoop_time (s : State) (l : LoopId) (f : LoopRecord → LoopRecord) :
    (s.modLoop l f).time = s.time := rfl

@[simp] theorem State.modLoop_resetPin (s : State) (l : LoopId) (f : LoopRecord → LoopRecord) :
    (s.modLoop l f).resetPin = s.resetPin := rfl

@[simp] theorem State.modLoop_stopLow (s : State) (l : LoopId) (f : LoopRecord → LoopRecord) :
    (s.modLoop l f).stopLow = s.stopLow := rfl

@[simp] theorem State.modLoop_resetCause (s : State) (l : LoopId) (f : LoopRecord → LoopRecord) :
    (s.modLoop l f).resetCause = s.resetCause := rfl

@[simp] theorem State.modLoop_sections (s : State) (l : LoopId) (f : LoopRecord → LoopRecord) :
    (s.modLoop l f).sections = s.sections := rfl

@[simp] theorem State.modLoop_sec (s : State) (l : LoopId) (f : LoopRecord → LoopRecord) (q : Slot) :
    (s.modLoop l f).sec q = s.sec q := rfl

@[simp] theorem State.modLoop_fans (s : State) (l : LoopId) (f : LoopRecord → LoopRecord) :
    (s.modLoop l f).fans = s.fans := rfl

@[simp] theorem State.modLoop_fan (s : State) (l : LoopId) (f : LoopRecord → LoopRecord) (q : Slot) :
    (s.modLoop l f).fan q = s.fan q := rfl

@[simp] theorem State.modLoop_pumps (s : State) (l : LoopId) (f : LoopRecord → LoopRecord) :
    (s.modLoop l f).pumps = s.pumps := rfl

@[simp] theorem State.modLoop_pump (s : State) (l : LoopId) (f : LoopRecord → LoopRecord) (q : LoopId) :
    (s.modLoop l f).pump q = s.pump q := rfl

@[simp] theorem State.modLoop_curveA (s : State) (l : LoopId) (f : LoopRecord → LoopRecord) :
    (s.modLoop l f).curveA = s.curveA := rfl

@[simp] theorem State.modLoop_curveB (s : State) (l : LoopId) (f : LoopRecord → LoopRecord) :
    (s.modLoop l f).curveB = s.curveB := rfl

@[simp] theorem State.modLoop_drive (s : State) (l : LoopId) (f : LoopRecord → LoopRecord) :
    (s.modLoop l f).drive = s.drive := rfl

@[simp] theorem State.modLoop_evalQueue (s : State) (l : LoopId) (f : LoopRecord → LoopRecord) :
    (s.modLoop l f).evalQueue = s.evalQueue := rfl

@[simp] theorem State.modLoop_seen (s : State) (l : LoopId) (f : LoopRecord → LoopRecord) :
    (s.modLoop l f).seen = s.seen := rfl

@[simp] theorem State.modLoop_bindings (s : State) (l : LoopId) (f : LoopRecord → LoopRecord) :
    (s.modLoop l f).bindings = s.bindings := rfl

@[simp] theorem State.modLoop_binding (s : State) (l : LoopId) (f : LoopRecord → LoopRecord) (q : BindingId) :
    (s.modLoop l f).binding q = s.binding q := rfl

@[simp] theorem State.modLoop_txQueue (s : State) (l : LoopId) (f : LoopRecord → LoopRecord) :
    (s.modLoop l f).txQueue = s.txQueue := rfl

@[simp] theorem State.modLoop_transmission (s : State) (l : LoopId) (f : LoopRecord → LoopRecord) :
    (s.modLoop l f).transmission = s.transmission := rfl

@[simp] theorem State.modLoop_busIdleFrom (s : State) (l : LoopId) (f : LoopRecord → LoopRecord) :
    (s.modLoop l f).busIdleFrom = s.busIdleFrom := rfl

@[simp] theorem State.modLoop_receiverSynced (s : State) (l : LoopId) (f : LoopRecord → LoopRecord) :
    (s.modLoop l f).receiverSynced = s.receiverSynced := rfl

@[simp] theorem State.modLoop_search (s : State) (l : LoopId) (f : LoopRecord → LoopRecord) :
    (s.modLoop l f).search = s.search := rfl

@[simp] theorem State.modLoop_lines (s : State) (l : LoopId) (f : LoopRecord → LoopRecord) :
    (s.modLoop l f).lines = s.lines := rfl

@[simp] theorem State.modLoop_line (s : State) (l : LoopId) (f : LoopRecord → LoopRecord) (q : LineId) :
    (s.modLoop l f).line q = s.line q := rfl

@[simp] theorem State.modLoop_attention (s : State) (l : LoopId) (f : LoopRecord → LoopRecord) :
    (s.modLoop l f).attention = s.attention := rfl

@[simp] theorem State.modLoop_levels (s : State) (l : LoopId) (f : LoopRecord → LoopRecord) :
    (s.modLoop l f).levels = s.levels := rfl

@[simp] theorem State.modLoop_link (s : State) (l : LoopId) (f : LoopRecord → LoopRecord) :
    (s.modLoop l f).link = s.link := rfl

@[simp] theorem State.modLoop_reply (s : State) (l : LoopId) (f : LoopRecord → LoopRecord) :
    (s.modLoop l f).reply = s.reply := rfl

@[simp] theorem State.modLoop_readyAt (s : State) (l : LoopId) (f : LoopRecord → LoopRecord) :
    (s.modLoop l f).readyAt = s.readyAt := rfl

@[simp] theorem State.modLoop_freeCount (s : State) (l : LoopId) (f : LoopRecord → LoopRecord) :
    (s.modLoop l f).freeCount = s.freeCount := rfl

@[simp] theorem State.modLoop_pending (s : State) (l : LoopId) (f : LoopRecord → LoopRecord) :
    (s.modLoop l f).pending = s.pending := rfl

/-! `modPump` -/

@[simp] theorem State.modPump_time (s : State) (l : LoopId) (f : Channel → Channel) :
    (s.modPump l f).time = s.time := rfl

@[simp] theorem State.modPump_resetPin (s : State) (l : LoopId) (f : Channel → Channel) :
    (s.modPump l f).resetPin = s.resetPin := rfl

@[simp] theorem State.modPump_stopLow (s : State) (l : LoopId) (f : Channel → Channel) :
    (s.modPump l f).stopLow = s.stopLow := rfl

@[simp] theorem State.modPump_resetCause (s : State) (l : LoopId) (f : Channel → Channel) :
    (s.modPump l f).resetCause = s.resetCause := rfl

@[simp] theorem State.modPump_sections (s : State) (l : LoopId) (f : Channel → Channel) :
    (s.modPump l f).sections = s.sections := rfl

@[simp] theorem State.modPump_sec (s : State) (l : LoopId) (f : Channel → Channel) (q : Slot) :
    (s.modPump l f).sec q = s.sec q := rfl

@[simp] theorem State.modPump_fans (s : State) (l : LoopId) (f : Channel → Channel) :
    (s.modPump l f).fans = s.fans := rfl

@[simp] theorem State.modPump_fan (s : State) (l : LoopId) (f : Channel → Channel) (q : Slot) :
    (s.modPump l f).fan q = s.fan q := rfl

@[simp] theorem State.modPump_loops (s : State) (l : LoopId) (f : Channel → Channel) :
    (s.modPump l f).loops = s.loops := rfl

@[simp] theorem State.modPump_loopRec (s : State) (l : LoopId) (f : Channel → Channel) (q : LoopId) :
    (s.modPump l f).loopRec q = s.loopRec q := rfl

@[simp] theorem State.modPump_curveA (s : State) (l : LoopId) (f : Channel → Channel) :
    (s.modPump l f).curveA = s.curveA := rfl

@[simp] theorem State.modPump_curveB (s : State) (l : LoopId) (f : Channel → Channel) :
    (s.modPump l f).curveB = s.curveB := rfl

@[simp] theorem State.modPump_drive (s : State) (l : LoopId) (f : Channel → Channel) :
    (s.modPump l f).drive = s.drive := rfl

@[simp] theorem State.modPump_evalQueue (s : State) (l : LoopId) (f : Channel → Channel) :
    (s.modPump l f).evalQueue = s.evalQueue := rfl

@[simp] theorem State.modPump_seen (s : State) (l : LoopId) (f : Channel → Channel) :
    (s.modPump l f).seen = s.seen := rfl

@[simp] theorem State.modPump_bindings (s : State) (l : LoopId) (f : Channel → Channel) :
    (s.modPump l f).bindings = s.bindings := rfl

@[simp] theorem State.modPump_binding (s : State) (l : LoopId) (f : Channel → Channel) (q : BindingId) :
    (s.modPump l f).binding q = s.binding q := rfl

@[simp] theorem State.modPump_txQueue (s : State) (l : LoopId) (f : Channel → Channel) :
    (s.modPump l f).txQueue = s.txQueue := rfl

@[simp] theorem State.modPump_transmission (s : State) (l : LoopId) (f : Channel → Channel) :
    (s.modPump l f).transmission = s.transmission := rfl

@[simp] theorem State.modPump_busIdleFrom (s : State) (l : LoopId) (f : Channel → Channel) :
    (s.modPump l f).busIdleFrom = s.busIdleFrom := rfl

@[simp] theorem State.modPump_receiverSynced (s : State) (l : LoopId) (f : Channel → Channel) :
    (s.modPump l f).receiverSynced = s.receiverSynced := rfl

@[simp] theorem State.modPump_search (s : State) (l : LoopId) (f : Channel → Channel) :
    (s.modPump l f).search = s.search := rfl

@[simp] theorem State.modPump_lines (s : State) (l : LoopId) (f : Channel → Channel) :
    (s.modPump l f).lines = s.lines := rfl

@[simp] theorem State.modPump_line (s : State) (l : LoopId) (f : Channel → Channel) (q : LineId) :
    (s.modPump l f).line q = s.line q := rfl

@[simp] theorem State.modPump_attention (s : State) (l : LoopId) (f : Channel → Channel) :
    (s.modPump l f).attention = s.attention := rfl

@[simp] theorem State.modPump_levels (s : State) (l : LoopId) (f : Channel → Channel) :
    (s.modPump l f).levels = s.levels := rfl

@[simp] theorem State.modPump_link (s : State) (l : LoopId) (f : Channel → Channel) :
    (s.modPump l f).link = s.link := rfl

@[simp] theorem State.modPump_reply (s : State) (l : LoopId) (f : Channel → Channel) :
    (s.modPump l f).reply = s.reply := rfl

@[simp] theorem State.modPump_readyAt (s : State) (l : LoopId) (f : Channel → Channel) :
    (s.modPump l f).readyAt = s.readyAt := rfl

@[simp] theorem State.modPump_freeCount (s : State) (l : LoopId) (f : Channel → Channel) :
    (s.modPump l f).freeCount = s.freeCount := rfl

@[simp] theorem State.modPump_pending (s : State) (l : LoopId) (f : Channel → Channel) :
    (s.modPump l f).pending = s.pending := rfl

/-! `setBinding` -/

@[simp] theorem State.setBinding_time (s : State) (b : BindingId) (v : BindingState) :
    (s.setBinding b v).time = s.time := rfl

@[simp] theorem State.setBinding_resetPin (s : State) (b : BindingId) (v : BindingState) :
    (s.setBinding b v).resetPin = s.resetPin := rfl

@[simp] theorem State.setBinding_stopLow (s : State) (b : BindingId) (v : BindingState) :
    (s.setBinding b v).stopLow = s.stopLow := rfl

@[simp] theorem State.setBinding_resetCause (s : State) (b : BindingId) (v : BindingState) :
    (s.setBinding b v).resetCause = s.resetCause := rfl

@[simp] theorem State.setBinding_sections (s : State) (b : BindingId) (v : BindingState) :
    (s.setBinding b v).sections = s.sections := rfl

@[simp] theorem State.setBinding_sec (s : State) (b : BindingId) (v : BindingState) (q : Slot) :
    (s.setBinding b v).sec q = s.sec q := rfl

@[simp] theorem State.setBinding_fans (s : State) (b : BindingId) (v : BindingState) :
    (s.setBinding b v).fans = s.fans := rfl

@[simp] theorem State.setBinding_fan (s : State) (b : BindingId) (v : BindingState) (q : Slot) :
    (s.setBinding b v).fan q = s.fan q := rfl

@[simp] theorem State.setBinding_loops (s : State) (b : BindingId) (v : BindingState) :
    (s.setBinding b v).loops = s.loops := rfl

@[simp] theorem State.setBinding_loopRec (s : State) (b : BindingId) (v : BindingState) (q : LoopId) :
    (s.setBinding b v).loopRec q = s.loopRec q := rfl

@[simp] theorem State.setBinding_pumps (s : State) (b : BindingId) (v : BindingState) :
    (s.setBinding b v).pumps = s.pumps := rfl

@[simp] theorem State.setBinding_pump (s : State) (b : BindingId) (v : BindingState) (q : LoopId) :
    (s.setBinding b v).pump q = s.pump q := rfl

@[simp] theorem State.setBinding_curveA (s : State) (b : BindingId) (v : BindingState) :
    (s.setBinding b v).curveA = s.curveA := rfl

@[simp] theorem State.setBinding_curveB (s : State) (b : BindingId) (v : BindingState) :
    (s.setBinding b v).curveB = s.curveB := rfl

@[simp] theorem State.setBinding_drive (s : State) (b : BindingId) (v : BindingState) :
    (s.setBinding b v).drive = s.drive := rfl

@[simp] theorem State.setBinding_evalQueue (s : State) (b : BindingId) (v : BindingState) :
    (s.setBinding b v).evalQueue = s.evalQueue := rfl

@[simp] theorem State.setBinding_seen (s : State) (b : BindingId) (v : BindingState) :
    (s.setBinding b v).seen = s.seen := rfl

@[simp] theorem State.setBinding_txQueue (s : State) (b : BindingId) (v : BindingState) :
    (s.setBinding b v).txQueue = s.txQueue := rfl

@[simp] theorem State.setBinding_transmission (s : State) (b : BindingId) (v : BindingState) :
    (s.setBinding b v).transmission = s.transmission := rfl

@[simp] theorem State.setBinding_busIdleFrom (s : State) (b : BindingId) (v : BindingState) :
    (s.setBinding b v).busIdleFrom = s.busIdleFrom := rfl

@[simp] theorem State.setBinding_receiverSynced (s : State) (b : BindingId) (v : BindingState) :
    (s.setBinding b v).receiverSynced = s.receiverSynced := rfl

@[simp] theorem State.setBinding_search (s : State) (b : BindingId) (v : BindingState) :
    (s.setBinding b v).search = s.search := rfl

@[simp] theorem State.setBinding_lines (s : State) (b : BindingId) (v : BindingState) :
    (s.setBinding b v).lines = s.lines := rfl

@[simp] theorem State.setBinding_line (s : State) (b : BindingId) (v : BindingState) (q : LineId) :
    (s.setBinding b v).line q = s.line q := rfl

@[simp] theorem State.setBinding_attention (s : State) (b : BindingId) (v : BindingState) :
    (s.setBinding b v).attention = s.attention := rfl

@[simp] theorem State.setBinding_levels (s : State) (b : BindingId) (v : BindingState) :
    (s.setBinding b v).levels = s.levels := rfl

@[simp] theorem State.setBinding_link (s : State) (b : BindingId) (v : BindingState) :
    (s.setBinding b v).link = s.link := rfl

@[simp] theorem State.setBinding_reply (s : State) (b : BindingId) (v : BindingState) :
    (s.setBinding b v).reply = s.reply := rfl

@[simp] theorem State.setBinding_readyAt (s : State) (b : BindingId) (v : BindingState) :
    (s.setBinding b v).readyAt = s.readyAt := rfl

@[simp] theorem State.setBinding_freeCount (s : State) (b : BindingId) (v : BindingState) :
    (s.setBinding b v).freeCount = s.freeCount := rfl

@[simp] theorem State.setBinding_pending (s : State) (b : BindingId) (v : BindingState) :
    (s.setBinding b v).pending = s.pending := rfl

/-! `modLine` -/

@[simp] theorem State.modLine_time (s : State) (k : LineId) (f : ClearLine → ClearLine) :
    (s.modLine k f).time = s.time := rfl

@[simp] theorem State.modLine_resetPin (s : State) (k : LineId) (f : ClearLine → ClearLine) :
    (s.modLine k f).resetPin = s.resetPin := rfl

@[simp] theorem State.modLine_stopLow (s : State) (k : LineId) (f : ClearLine → ClearLine) :
    (s.modLine k f).stopLow = s.stopLow := rfl

@[simp] theorem State.modLine_resetCause (s : State) (k : LineId) (f : ClearLine → ClearLine) :
    (s.modLine k f).resetCause = s.resetCause := rfl

@[simp] theorem State.modLine_sections (s : State) (k : LineId) (f : ClearLine → ClearLine) :
    (s.modLine k f).sections = s.sections := rfl

@[simp] theorem State.modLine_sec (s : State) (k : LineId) (f : ClearLine → ClearLine) (q : Slot) :
    (s.modLine k f).sec q = s.sec q := rfl

@[simp] theorem State.modLine_fans (s : State) (k : LineId) (f : ClearLine → ClearLine) :
    (s.modLine k f).fans = s.fans := rfl

@[simp] theorem State.modLine_fan (s : State) (k : LineId) (f : ClearLine → ClearLine) (q : Slot) :
    (s.modLine k f).fan q = s.fan q := rfl

@[simp] theorem State.modLine_loops (s : State) (k : LineId) (f : ClearLine → ClearLine) :
    (s.modLine k f).loops = s.loops := rfl

@[simp] theorem State.modLine_loopRec (s : State) (k : LineId) (f : ClearLine → ClearLine) (q : LoopId) :
    (s.modLine k f).loopRec q = s.loopRec q := rfl

@[simp] theorem State.modLine_pumps (s : State) (k : LineId) (f : ClearLine → ClearLine) :
    (s.modLine k f).pumps = s.pumps := rfl

@[simp] theorem State.modLine_pump (s : State) (k : LineId) (f : ClearLine → ClearLine) (q : LoopId) :
    (s.modLine k f).pump q = s.pump q := rfl

@[simp] theorem State.modLine_curveA (s : State) (k : LineId) (f : ClearLine → ClearLine) :
    (s.modLine k f).curveA = s.curveA := rfl

@[simp] theorem State.modLine_curveB (s : State) (k : LineId) (f : ClearLine → ClearLine) :
    (s.modLine k f).curveB = s.curveB := rfl

@[simp] theorem State.modLine_drive (s : State) (k : LineId) (f : ClearLine → ClearLine) :
    (s.modLine k f).drive = s.drive := rfl

@[simp] theorem State.modLine_evalQueue (s : State) (k : LineId) (f : ClearLine → ClearLine) :
    (s.modLine k f).evalQueue = s.evalQueue := rfl

@[simp] theorem State.modLine_seen (s : State) (k : LineId) (f : ClearLine → ClearLine) :
    (s.modLine k f).seen = s.seen := rfl

@[simp] theorem State.modLine_bindings (s : State) (k : LineId) (f : ClearLine → ClearLine) :
    (s.modLine k f).bindings = s.bindings := rfl

@[simp] theorem State.modLine_binding (s : State) (k : LineId) (f : ClearLine → ClearLine) (q : BindingId) :
    (s.modLine k f).binding q = s.binding q := rfl

@[simp] theorem State.modLine_txQueue (s : State) (k : LineId) (f : ClearLine → ClearLine) :
    (s.modLine k f).txQueue = s.txQueue := rfl

@[simp] theorem State.modLine_transmission (s : State) (k : LineId) (f : ClearLine → ClearLine) :
    (s.modLine k f).transmission = s.transmission := rfl

@[simp] theorem State.modLine_busIdleFrom (s : State) (k : LineId) (f : ClearLine → ClearLine) :
    (s.modLine k f).busIdleFrom = s.busIdleFrom := rfl

@[simp] theorem State.modLine_receiverSynced (s : State) (k : LineId) (f : ClearLine → ClearLine) :
    (s.modLine k f).receiverSynced = s.receiverSynced := rfl

@[simp] theorem State.modLine_search (s : State) (k : LineId) (f : ClearLine → ClearLine) :
    (s.modLine k f).search = s.search := rfl

@[simp] theorem State.modLine_attention (s : State) (k : LineId) (f : ClearLine → ClearLine) :
    (s.modLine k f).attention = s.attention := rfl

@[simp] theorem State.modLine_levels (s : State) (k : LineId) (f : ClearLine → ClearLine) :
    (s.modLine k f).levels = s.levels := rfl

@[simp] theorem State.modLine_link (s : State) (k : LineId) (f : ClearLine → ClearLine) :
    (s.modLine k f).link = s.link := rfl

@[simp] theorem State.modLine_reply (s : State) (k : LineId) (f : ClearLine → ClearLine) :
    (s.modLine k f).reply = s.reply := rfl

@[simp] theorem State.modLine_readyAt (s : State) (k : LineId) (f : ClearLine → ClearLine) :
    (s.modLine k f).readyAt = s.readyAt := rfl

@[simp] theorem State.modLine_freeCount (s : State) (k : LineId) (f : ClearLine → ClearLine) :
    (s.modLine k f).freeCount = s.freeCount := rfl

@[simp] theorem State.modLine_pending (s : State) (k : LineId) (f : ClearLine → ClearLine) :
    (s.modLine k f).pending = s.pending := rfl

/-! `modSearch` -/

@[simp] theorem State.modSearch_time (s : State) (f : SearchContext → SearchContext) :
    (s.modSearch f).time = s.time := rfl

@[simp] theorem State.modSearch_resetPin (s : State) (f : SearchContext → SearchContext) :
    (s.modSearch f).resetPin = s.resetPin := rfl

@[simp] theorem State.modSearch_stopLow (s : State) (f : SearchContext → SearchContext) :
    (s.modSearch f).stopLow = s.stopLow := rfl

@[simp] theorem State.modSearch_resetCause (s : State) (f : SearchContext → SearchContext) :
    (s.modSearch f).resetCause = s.resetCause := rfl

@[simp] theorem State.modSearch_sections (s : State) (f : SearchContext → SearchContext) :
    (s.modSearch f).sections = s.sections := rfl

@[simp] theorem State.modSearch_sec (s : State) (f : SearchContext → SearchContext) (q : Slot) :
    (s.modSearch f).sec q = s.sec q := rfl

@[simp] theorem State.modSearch_fans (s : State) (f : SearchContext → SearchContext) :
    (s.modSearch f).fans = s.fans := rfl

@[simp] theorem State.modSearch_fan (s : State) (f : SearchContext → SearchContext) (q : Slot) :
    (s.modSearch f).fan q = s.fan q := rfl

@[simp] theorem State.modSearch_loops (s : State) (f : SearchContext → SearchContext) :
    (s.modSearch f).loops = s.loops := rfl

@[simp] theorem State.modSearch_loopRec (s : State) (f : SearchContext → SearchContext) (q : LoopId) :
    (s.modSearch f).loopRec q = s.loopRec q := rfl

@[simp] theorem State.modSearch_pumps (s : State) (f : SearchContext → SearchContext) :
    (s.modSearch f).pumps = s.pumps := rfl

@[simp] theorem State.modSearch_pump (s : State) (f : SearchContext → SearchContext) (q : LoopId) :
    (s.modSearch f).pump q = s.pump q := rfl

@[simp] theorem State.modSearch_curveA (s : State) (f : SearchContext → SearchContext) :
    (s.modSearch f).curveA = s.curveA := rfl

@[simp] theorem State.modSearch_curveB (s : State) (f : SearchContext → SearchContext) :
    (s.modSearch f).curveB = s.curveB := rfl

@[simp] theorem State.modSearch_drive (s : State) (f : SearchContext → SearchContext) :
    (s.modSearch f).drive = s.drive := rfl

@[simp] theorem State.modSearch_evalQueue (s : State) (f : SearchContext → SearchContext) :
    (s.modSearch f).evalQueue = s.evalQueue := rfl

@[simp] theorem State.modSearch_seen (s : State) (f : SearchContext → SearchContext) :
    (s.modSearch f).seen = s.seen := rfl

@[simp] theorem State.modSearch_bindings (s : State) (f : SearchContext → SearchContext) :
    (s.modSearch f).bindings = s.bindings := rfl

@[simp] theorem State.modSearch_binding (s : State) (f : SearchContext → SearchContext) (q : BindingId) :
    (s.modSearch f).binding q = s.binding q := rfl

@[simp] theorem State.modSearch_txQueue (s : State) (f : SearchContext → SearchContext) :
    (s.modSearch f).txQueue = s.txQueue := rfl

@[simp] theorem State.modSearch_transmission (s : State) (f : SearchContext → SearchContext) :
    (s.modSearch f).transmission = s.transmission := rfl

@[simp] theorem State.modSearch_busIdleFrom (s : State) (f : SearchContext → SearchContext) :
    (s.modSearch f).busIdleFrom = s.busIdleFrom := rfl

@[simp] theorem State.modSearch_receiverSynced (s : State) (f : SearchContext → SearchContext) :
    (s.modSearch f).receiverSynced = s.receiverSynced := rfl

@[simp] theorem State.modSearch_lines (s : State) (f : SearchContext → SearchContext) :
    (s.modSearch f).lines = s.lines := rfl

@[simp] theorem State.modSearch_line (s : State) (f : SearchContext → SearchContext) (q : LineId) :
    (s.modSearch f).line q = s.line q := rfl

@[simp] theorem State.modSearch_attention (s : State) (f : SearchContext → SearchContext) :
    (s.modSearch f).attention = s.attention := rfl

@[simp] theorem State.modSearch_levels (s : State) (f : SearchContext → SearchContext) :
    (s.modSearch f).levels = s.levels := rfl

@[simp] theorem State.modSearch_link (s : State) (f : SearchContext → SearchContext) :
    (s.modSearch f).link = s.link := rfl

@[simp] theorem State.modSearch_reply (s : State) (f : SearchContext → SearchContext) :
    (s.modSearch f).reply = s.reply := rfl

@[simp] theorem State.modSearch_readyAt (s : State) (f : SearchContext → SearchContext) :
    (s.modSearch f).readyAt = s.readyAt := rfl

@[simp] theorem State.modSearch_freeCount (s : State) (f : SearchContext → SearchContext) :
    (s.modSearch f).freeCount = s.freeCount := rfl

@[simp] theorem State.modSearch_pending (s : State) (f : SearchContext → SearchContext) :
    (s.modSearch f).pending = s.pending := rfl

/-! `post` -/

@[simp] theorem State.post_time (s : State) (k : CauseKind) (i : Nat) :
    (s.post k i).time = s.time := rfl

@[simp] theorem State.post_resetPin (s : State) (k : CauseKind) (i : Nat) :
    (s.post k i).resetPin = s.resetPin := rfl

@[simp] theorem State.post_stopLow (s : State) (k : CauseKind) (i : Nat) :
    (s.post k i).stopLow = s.stopLow := rfl

@[simp] theorem State.post_resetCause (s : State) (k : CauseKind) (i : Nat) :
    (s.post k i).resetCause = s.resetCause := rfl

@[simp] theorem State.post_sections (s : State) (k : CauseKind) (i : Nat) :
    (s.post k i).sections = s.sections := rfl

@[simp] theorem State.post_sec (s : State) (k : CauseKind) (i : Nat) (q : Slot) :
    (s.post k i).sec q = s.sec q := rfl

@[simp] theorem State.post_fans (s : State) (k : CauseKind) (i : Nat) :
    (s.post k i).fans = s.fans := rfl

@[simp] theorem State.post_fan (s : State) (k : CauseKind) (i : Nat) (q : Slot) :
    (s.post k i).fan q = s.fan q := rfl

@[simp] theorem State.post_loops (s : State) (k : CauseKind) (i : Nat) :
    (s.post k i).loops = s.loops := rfl

@[simp] theorem State.post_loopRec (s : State) (k : CauseKind) (i : Nat) (q : LoopId) :
    (s.post k i).loopRec q = s.loopRec q := rfl

@[simp] theorem State.post_pumps (s : State) (k : CauseKind) (i : Nat) :
    (s.post k i).pumps = s.pumps := rfl

@[simp] theorem State.post_pump (s : State) (k : CauseKind) (i : Nat) (q : LoopId) :
    (s.post k i).pump q = s.pump q := rfl

@[simp] theorem State.post_curveA (s : State) (k : CauseKind) (i : Nat) :
    (s.post k i).curveA = s.curveA := rfl

@[simp] theorem State.post_curveB (s : State) (k : CauseKind) (i : Nat) :
    (s.post k i).curveB = s.curveB := rfl

@[simp] theorem State.post_drive (s : State) (k : CauseKind) (i : Nat) :
    (s.post k i).drive = s.drive := rfl

@[simp] theorem State.post_evalQueue (s : State) (k : CauseKind) (i : Nat) :
    (s.post k i).evalQueue = s.evalQueue := rfl

@[simp] theorem State.post_seen (s : State) (k : CauseKind) (i : Nat) :
    (s.post k i).seen = s.seen := rfl

@[simp] theorem State.post_bindings (s : State) (k : CauseKind) (i : Nat) :
    (s.post k i).bindings = s.bindings := rfl

@[simp] theorem State.post_binding (s : State) (k : CauseKind) (i : Nat) (q : BindingId) :
    (s.post k i).binding q = s.binding q := rfl

@[simp] theorem State.post_txQueue (s : State) (k : CauseKind) (i : Nat) :
    (s.post k i).txQueue = s.txQueue := rfl

@[simp] theorem State.post_transmission (s : State) (k : CauseKind) (i : Nat) :
    (s.post k i).transmission = s.transmission := rfl

@[simp] theorem State.post_busIdleFrom (s : State) (k : CauseKind) (i : Nat) :
    (s.post k i).busIdleFrom = s.busIdleFrom := rfl

@[simp] theorem State.post_receiverSynced (s : State) (k : CauseKind) (i : Nat) :
    (s.post k i).receiverSynced = s.receiverSynced := rfl

@[simp] theorem State.post_search (s : State) (k : CauseKind) (i : Nat) :
    (s.post k i).search = s.search := rfl

@[simp] theorem State.post_lines (s : State) (k : CauseKind) (i : Nat) :
    (s.post k i).lines = s.lines := rfl

@[simp] theorem State.post_line (s : State) (k : CauseKind) (i : Nat) (q : LineId) :
    (s.post k i).line q = s.line q := rfl

@[simp] theorem State.post_levels (s : State) (k : CauseKind) (i : Nat) :
    (s.post k i).levels = s.levels := rfl

@[simp] theorem State.post_link (s : State) (k : CauseKind) (i : Nat) :
    (s.post k i).link = s.link := rfl

@[simp] theorem State.post_reply (s : State) (k : CauseKind) (i : Nat) :
    (s.post k i).reply = s.reply := rfl

@[simp] theorem State.post_readyAt (s : State) (k : CauseKind) (i : Nat) :
    (s.post k i).readyAt = s.readyAt := rfl

@[simp] theorem State.post_freeCount (s : State) (k : CauseKind) (i : Nat) :
    (s.post k i).freeCount = s.freeCount := rfl

@[simp] theorem State.post_pending (s : State) (k : CauseKind) (i : Nat) :
    (s.post k i).pending = s.pending := rfl

/-! `dropCauses` -/

@[simp] theorem State.dropCauses_time (s : State) (p : Cause → Bool) :
    (s.dropCauses p).time = s.time := rfl

@[simp] theorem State.dropCauses_resetPin (s : State) (p : Cause → Bool) :
    (s.dropCauses p).resetPin = s.resetPin := rfl

@[simp] theorem State.dropCauses_stopLow (s : State) (p : Cause → Bool) :
    (s.dropCauses p).stopLow = s.stopLow := rfl

@[simp] theorem State.dropCauses_resetCause (s : State) (p : Cause → Bool) :
    (s.dropCauses p).resetCause = s.resetCause := rfl

@[simp] theorem State.dropCauses_sections (s : State) (p : Cause → Bool) :
    (s.dropCauses p).sections = s.sections := rfl

@[simp] theorem State.dropCauses_sec (s : State) (p : Cause → Bool) (q : Slot) :
    (s.dropCauses p).sec q = s.sec q := rfl

@[simp] theorem State.dropCauses_fans (s : State) (p : Cause → Bool) :
    (s.dropCauses p).fans = s.fans := rfl

@[simp] theorem State.dropCauses_fan (s : State) (p : Cause → Bool) (q : Slot) :
    (s.dropCauses p).fan q = s.fan q := rfl

@[simp] theorem State.dropCauses_loops (s : State) (p : Cause → Bool) :
    (s.dropCauses p).loops = s.loops := rfl

@[simp] theorem State.dropCauses_loopRec (s : State) (p : Cause → Bool) (q : LoopId) :
    (s.dropCauses p).loopRec q = s.loopRec q := rfl

@[simp] theorem State.dropCauses_pumps (s : State) (p : Cause → Bool) :
    (s.dropCauses p).pumps = s.pumps := rfl

@[simp] theorem State.dropCauses_pump (s : State) (p : Cause → Bool) (q : LoopId) :
    (s.dropCauses p).pump q = s.pump q := rfl

@[simp] theorem State.dropCauses_curveA (s : State) (p : Cause → Bool) :
    (s.dropCauses p).curveA = s.curveA := rfl

@[simp] theorem State.dropCauses_curveB (s : State) (p : Cause → Bool) :
    (s.dropCauses p).curveB = s.curveB := rfl

@[simp] theorem State.dropCauses_drive (s : State) (p : Cause → Bool) :
    (s.dropCauses p).drive = s.drive := rfl

@[simp] theorem State.dropCauses_evalQueue (s : State) (p : Cause → Bool) :
    (s.dropCauses p).evalQueue = s.evalQueue := rfl

@[simp] theorem State.dropCauses_seen (s : State) (p : Cause → Bool) :
    (s.dropCauses p).seen = s.seen := rfl

@[simp] theorem State.dropCauses_bindings (s : State) (p : Cause → Bool) :
    (s.dropCauses p).bindings = s.bindings := rfl

@[simp] theorem State.dropCauses_binding (s : State) (p : Cause → Bool) (q : BindingId) :
    (s.dropCauses p).binding q = s.binding q := rfl

@[simp] theorem State.dropCauses_txQueue (s : State) (p : Cause → Bool) :
    (s.dropCauses p).txQueue = s.txQueue := rfl

@[simp] theorem State.dropCauses_transmission (s : State) (p : Cause → Bool) :
    (s.dropCauses p).transmission = s.transmission := rfl

@[simp] theorem State.dropCauses_busIdleFrom (s : State) (p : Cause → Bool) :
    (s.dropCauses p).busIdleFrom = s.busIdleFrom := rfl

@[simp] theorem State.dropCauses_receiverSynced (s : State) (p : Cause → Bool) :
    (s.dropCauses p).receiverSynced = s.receiverSynced := rfl

@[simp] theorem State.dropCauses_search (s : State) (p : Cause → Bool) :
    (s.dropCauses p).search = s.search := rfl

@[simp] theorem State.dropCauses_lines (s : State) (p : Cause → Bool) :
    (s.dropCauses p).lines = s.lines := rfl

@[simp] theorem State.dropCauses_line (s : State) (p : Cause → Bool) (q : LineId) :
    (s.dropCauses p).line q = s.line q := rfl

@[simp] theorem State.dropCauses_levels (s : State) (p : Cause → Bool) :
    (s.dropCauses p).levels = s.levels := rfl

@[simp] theorem State.dropCauses_link (s : State) (p : Cause → Bool) :
    (s.dropCauses p).link = s.link := rfl

@[simp] theorem State.dropCauses_reply (s : State) (p : Cause → Bool) :
    (s.dropCauses p).reply = s.reply := rfl

@[simp] theorem State.dropCauses_readyAt (s : State) (p : Cause → Bool) :
    (s.dropCauses p).readyAt = s.readyAt := rfl

@[simp] theorem State.dropCauses_freeCount (s : State) (p : Cause → Bool) :
    (s.dropCauses p).freeCount = s.freeCount := rfl

@[simp] theorem State.dropCauses_pending (s : State) (p : Cause → Bool) :
    (s.dropCauses p).pending = s.pending := rfl

/-! `dropSectionCauses` -/

@[simp] theorem State.dropSectionCauses_time (s : State) (n : Slot) :
    (s.dropSectionCauses n).time = s.time := rfl

@[simp] theorem State.dropSectionCauses_resetPin (s : State) (n : Slot) :
    (s.dropSectionCauses n).resetPin = s.resetPin := rfl

@[simp] theorem State.dropSectionCauses_stopLow (s : State) (n : Slot) :
    (s.dropSectionCauses n).stopLow = s.stopLow := rfl

@[simp] theorem State.dropSectionCauses_resetCause (s : State) (n : Slot) :
    (s.dropSectionCauses n).resetCause = s.resetCause := rfl

@[simp] theorem State.dropSectionCauses_sections (s : State) (n : Slot) :
    (s.dropSectionCauses n).sections = s.sections := rfl

@[simp] theorem State.dropSectionCauses_sec (s : State) (n : Slot) (q : Slot) :
    (s.dropSectionCauses n).sec q = s.sec q := rfl

@[simp] theorem State.dropSectionCauses_fans (s : State) (n : Slot) :
    (s.dropSectionCauses n).fans = s.fans := rfl

@[simp] theorem State.dropSectionCauses_fan (s : State) (n : Slot) (q : Slot) :
    (s.dropSectionCauses n).fan q = s.fan q := rfl

@[simp] theorem State.dropSectionCauses_loops (s : State) (n : Slot) :
    (s.dropSectionCauses n).loops = s.loops := rfl

@[simp] theorem State.dropSectionCauses_loopRec (s : State) (n : Slot) (q : LoopId) :
    (s.dropSectionCauses n).loopRec q = s.loopRec q := rfl

@[simp] theorem State.dropSectionCauses_pumps (s : State) (n : Slot) :
    (s.dropSectionCauses n).pumps = s.pumps := rfl

@[simp] theorem State.dropSectionCauses_pump (s : State) (n : Slot) (q : LoopId) :
    (s.dropSectionCauses n).pump q = s.pump q := rfl

@[simp] theorem State.dropSectionCauses_curveA (s : State) (n : Slot) :
    (s.dropSectionCauses n).curveA = s.curveA := rfl

@[simp] theorem State.dropSectionCauses_curveB (s : State) (n : Slot) :
    (s.dropSectionCauses n).curveB = s.curveB := rfl

@[simp] theorem State.dropSectionCauses_drive (s : State) (n : Slot) :
    (s.dropSectionCauses n).drive = s.drive := rfl

@[simp] theorem State.dropSectionCauses_evalQueue (s : State) (n : Slot) :
    (s.dropSectionCauses n).evalQueue = s.evalQueue := rfl

@[simp] theorem State.dropSectionCauses_seen (s : State) (n : Slot) :
    (s.dropSectionCauses n).seen = s.seen := rfl

@[simp] theorem State.dropSectionCauses_bindings (s : State) (n : Slot) :
    (s.dropSectionCauses n).bindings = s.bindings := rfl

@[simp] theorem State.dropSectionCauses_binding (s : State) (n : Slot) (q : BindingId) :
    (s.dropSectionCauses n).binding q = s.binding q := rfl

@[simp] theorem State.dropSectionCauses_txQueue (s : State) (n : Slot) :
    (s.dropSectionCauses n).txQueue = s.txQueue := rfl

@[simp] theorem State.dropSectionCauses_transmission (s : State) (n : Slot) :
    (s.dropSectionCauses n).transmission = s.transmission := rfl

@[simp] theorem State.dropSectionCauses_busIdleFrom (s : State) (n : Slot) :
    (s.dropSectionCauses n).busIdleFrom = s.busIdleFrom := rfl

@[simp] theorem State.dropSectionCauses_receiverSynced (s : State) (n : Slot) :
    (s.dropSectionCauses n).receiverSynced = s.receiverSynced := rfl

@[simp] theorem State.dropSectionCauses_search (s : State) (n : Slot) :
    (s.dropSectionCauses n).search = s.search := rfl

@[simp] theorem State.dropSectionCauses_lines (s : State) (n : Slot) :
    (s.dropSectionCauses n).lines = s.lines := rfl

@[simp] theorem State.dropSectionCauses_line (s : State) (n : Slot) (q : LineId) :
    (s.dropSectionCauses n).line q = s.line q := rfl

@[simp] theorem State.dropSectionCauses_levels (s : State) (n : Slot) :
    (s.dropSectionCauses n).levels = s.levels := rfl

@[simp] theorem State.dropSectionCauses_link (s : State) (n : Slot) :
    (s.dropSectionCauses n).link = s.link := rfl

@[simp] theorem State.dropSectionCauses_reply (s : State) (n : Slot) :
    (s.dropSectionCauses n).reply = s.reply := rfl

@[simp] theorem State.dropSectionCauses_readyAt (s : State) (n : Slot) :
    (s.dropSectionCauses n).readyAt = s.readyAt := rfl

@[simp] theorem State.dropSectionCauses_freeCount (s : State) (n : Slot) :
    (s.dropSectionCauses n).freeCount = s.freeCount := rfl

@[simp] theorem State.dropSectionCauses_pending (s : State) (n : Slot) :
    (s.dropSectionCauses n).pending = s.pending := rfl

/-! `dropStale` -/

@[simp] theorem State.dropStale_time (s : State) (b : BindingId) :
    (s.dropStale b).time = s.time := rfl

@[simp] theorem State.dropStale_resetPin (s : State) (b : BindingId) :
    (s.dropStale b).resetPin = s.resetPin := rfl

@[simp] theorem State.dropStale_stopLow (s : State) (b : BindingId) :
    (s.dropStale b).stopLow = s.stopLow := rfl

@[simp] theorem State.dropStale_resetCause (s : State) (b : BindingId) :
    (s.dropStale b).resetCause = s.resetCause := rfl

@[simp] theorem State.dropStale_sections (s : State) (b : BindingId) :
    (s.dropStale b).sections = s.sections := rfl

@[simp] theorem State.dropStale_sec (s : State) (b : BindingId) (q : Slot) :
    (s.dropStale b).sec q = s.sec q := rfl

@[simp] theorem State.dropStale_fans (s : State) (b : BindingId) :
    (s.dropStale b).fans = s.fans := rfl

@[simp] theorem State.dropStale_fan (s : State) (b : BindingId) (q : Slot) :
    (s.dropStale b).fan q = s.fan q := rfl

@[simp] theorem State.dropStale_loops (s : State) (b : BindingId) :
    (s.dropStale b).loops = s.loops := rfl

@[simp] theorem State.dropStale_loopRec (s : State) (b : BindingId) (q : LoopId) :
    (s.dropStale b).loopRec q = s.loopRec q := rfl

@[simp] theorem State.dropStale_pumps (s : State) (b : BindingId) :
    (s.dropStale b).pumps = s.pumps := rfl

@[simp] theorem State.dropStale_pump (s : State) (b : BindingId) (q : LoopId) :
    (s.dropStale b).pump q = s.pump q := rfl

@[simp] theorem State.dropStale_curveA (s : State) (b : BindingId) :
    (s.dropStale b).curveA = s.curveA := rfl

@[simp] theorem State.dropStale_curveB (s : State) (b : BindingId) :
    (s.dropStale b).curveB = s.curveB := rfl

@[simp] theorem State.dropStale_drive (s : State) (b : BindingId) :
    (s.dropStale b).drive = s.drive := rfl

@[simp] theorem State.dropStale_evalQueue (s : State) (b : BindingId) :
    (s.dropStale b).evalQueue = s.evalQueue := rfl

@[simp] theorem State.dropStale_seen (s : State) (b : BindingId) :
    (s.dropStale b).seen = s.seen := rfl

@[simp] theorem State.dropStale_bindings (s : State) (b : BindingId) :
    (s.dropStale b).bindings = s.bindings := rfl

@[simp] theorem State.dropStale_binding (s : State) (b : BindingId) (q : BindingId) :
    (s.dropStale b).binding q = s.binding q := rfl

@[simp] theorem State.dropStale_txQueue (s : State) (b : BindingId) :
    (s.dropStale b).txQueue = s.txQueue := rfl

@[simp] theorem State.dropStale_transmission (s : State) (b : BindingId) :
    (s.dropStale b).transmission = s.transmission := rfl

@[simp] theorem State.dropStale_busIdleFrom (s : State) (b : BindingId) :
    (s.dropStale b).busIdleFrom = s.busIdleFrom := rfl

@[simp] theorem State.dropStale_receiverSynced (s : State) (b : BindingId) :
    (s.dropStale b).receiverSynced = s.receiverSynced := rfl

@[simp] theorem State.dropStale_search (s : State) (b : BindingId) :
    (s.dropStale b).search = s.search := rfl

@[simp] theorem State.dropStale_lines (s : State) (b : BindingId) :
    (s.dropStale b).lines = s.lines := rfl

@[simp] theorem State.dropStale_line (s : State) (b : BindingId) (q : LineId) :
    (s.dropStale b).line q = s.line q := rfl

@[simp] theorem State.dropStale_levels (s : State) (b : BindingId) :
    (s.dropStale b).levels = s.levels := rfl

@[simp] theorem State.dropStale_link (s : State) (b : BindingId) :
    (s.dropStale b).link = s.link := rfl

@[simp] theorem State.dropStale_reply (s : State) (b : BindingId) :
    (s.dropStale b).reply = s.reply := rfl

@[simp] theorem State.dropStale_readyAt (s : State) (b : BindingId) :
    (s.dropStale b).readyAt = s.readyAt := rfl

@[simp] theorem State.dropStale_freeCount (s : State) (b : BindingId) :
    (s.dropStale b).freeCount = s.freeCount := rfl

@[simp] theorem State.dropStale_pending (s : State) (b : BindingId) :
    (s.dropStale b).pending = s.pending := rfl

/-! `dropLoopCauses` -/

@[simp] theorem State.dropLoopCauses_time (s : State) (l : LoopId) :
    (s.dropLoopCauses l).time = s.time := rfl

@[simp] theorem State.dropLoopCauses_resetPin (s : State) (l : LoopId) :
    (s.dropLoopCauses l).resetPin = s.resetPin := rfl

@[simp] theorem State.dropLoopCauses_stopLow (s : State) (l : LoopId) :
    (s.dropLoopCauses l).stopLow = s.stopLow := rfl

@[simp] theorem State.dropLoopCauses_resetCause (s : State) (l : LoopId) :
    (s.dropLoopCauses l).resetCause = s.resetCause := rfl

@[simp] theorem State.dropLoopCauses_sections (s : State) (l : LoopId) :
    (s.dropLoopCauses l).sections = s.sections := rfl

@[simp] theorem State.dropLoopCauses_sec (s : State) (l : LoopId) (q : Slot) :
    (s.dropLoopCauses l).sec q = s.sec q := rfl

@[simp] theorem State.dropLoopCauses_fans (s : State) (l : LoopId) :
    (s.dropLoopCauses l).fans = s.fans := rfl

@[simp] theorem State.dropLoopCauses_fan (s : State) (l : LoopId) (q : Slot) :
    (s.dropLoopCauses l).fan q = s.fan q := rfl

@[simp] theorem State.dropLoopCauses_loops (s : State) (l : LoopId) :
    (s.dropLoopCauses l).loops = s.loops := rfl

@[simp] theorem State.dropLoopCauses_loopRec (s : State) (l : LoopId) (q : LoopId) :
    (s.dropLoopCauses l).loopRec q = s.loopRec q := rfl

@[simp] theorem State.dropLoopCauses_pumps (s : State) (l : LoopId) :
    (s.dropLoopCauses l).pumps = s.pumps := rfl

@[simp] theorem State.dropLoopCauses_pump (s : State) (l : LoopId) (q : LoopId) :
    (s.dropLoopCauses l).pump q = s.pump q := rfl

@[simp] theorem State.dropLoopCauses_curveA (s : State) (l : LoopId) :
    (s.dropLoopCauses l).curveA = s.curveA := rfl

@[simp] theorem State.dropLoopCauses_curveB (s : State) (l : LoopId) :
    (s.dropLoopCauses l).curveB = s.curveB := rfl

@[simp] theorem State.dropLoopCauses_drive (s : State) (l : LoopId) :
    (s.dropLoopCauses l).drive = s.drive := rfl

@[simp] theorem State.dropLoopCauses_evalQueue (s : State) (l : LoopId) :
    (s.dropLoopCauses l).evalQueue = s.evalQueue := rfl

@[simp] theorem State.dropLoopCauses_seen (s : State) (l : LoopId) :
    (s.dropLoopCauses l).seen = s.seen := rfl

@[simp] theorem State.dropLoopCauses_bindings (s : State) (l : LoopId) :
    (s.dropLoopCauses l).bindings = s.bindings := rfl

@[simp] theorem State.dropLoopCauses_binding (s : State) (l : LoopId) (q : BindingId) :
    (s.dropLoopCauses l).binding q = s.binding q := rfl

@[simp] theorem State.dropLoopCauses_txQueue (s : State) (l : LoopId) :
    (s.dropLoopCauses l).txQueue = s.txQueue := rfl

@[simp] theorem State.dropLoopCauses_transmission (s : State) (l : LoopId) :
    (s.dropLoopCauses l).transmission = s.transmission := rfl

@[simp] theorem State.dropLoopCauses_busIdleFrom (s : State) (l : LoopId) :
    (s.dropLoopCauses l).busIdleFrom = s.busIdleFrom := rfl

@[simp] theorem State.dropLoopCauses_receiverSynced (s : State) (l : LoopId) :
    (s.dropLoopCauses l).receiverSynced = s.receiverSynced := rfl

@[simp] theorem State.dropLoopCauses_search (s : State) (l : LoopId) :
    (s.dropLoopCauses l).search = s.search := rfl

@[simp] theorem State.dropLoopCauses_lines (s : State) (l : LoopId) :
    (s.dropLoopCauses l).lines = s.lines := rfl

@[simp] theorem State.dropLoopCauses_line (s : State) (l : LoopId) (q : LineId) :
    (s.dropLoopCauses l).line q = s.line q := rfl

@[simp] theorem State.dropLoopCauses_levels (s : State) (l : LoopId) :
    (s.dropLoopCauses l).levels = s.levels := rfl

@[simp] theorem State.dropLoopCauses_link (s : State) (l : LoopId) :
    (s.dropLoopCauses l).link = s.link := rfl

@[simp] theorem State.dropLoopCauses_reply (s : State) (l : LoopId) :
    (s.dropLoopCauses l).reply = s.reply := rfl

@[simp] theorem State.dropLoopCauses_readyAt (s : State) (l : LoopId) :
    (s.dropLoopCauses l).readyAt = s.readyAt := rfl

@[simp] theorem State.dropLoopCauses_freeCount (s : State) (l : LoopId) :
    (s.dropLoopCauses l).freeCount = s.freeCount := rfl

@[simp] theorem State.dropLoopCauses_pending (s : State) (l : LoopId) :
    (s.dropLoopCauses l).pending = s.pending := rfl

/-! `joinQueue` -/

@[simp] theorem State.joinQueue_time (s : State) (n : Slot) :
    (s.joinQueue n).time = s.time := rfl

@[simp] theorem State.joinQueue_resetPin (s : State) (n : Slot) :
    (s.joinQueue n).resetPin = s.resetPin := rfl

@[simp] theorem State.joinQueue_stopLow (s : State) (n : Slot) :
    (s.joinQueue n).stopLow = s.stopLow := rfl

@[simp] theorem State.joinQueue_resetCause (s : State) (n : Slot) :
    (s.joinQueue n).resetCause = s.resetCause := rfl

@[simp] theorem State.joinQueue_sections (s : State) (n : Slot) :
    (s.joinQueue n).sections = s.sections := rfl

@[simp] theorem State.joinQueue_sec (s : State) (n : Slot) (q : Slot) :
    (s.joinQueue n).sec q = s.sec q := rfl

@[simp] theorem State.joinQueue_fans (s : State) (n : Slot) :
    (s.joinQueue n).fans = s.fans := rfl

@[simp] theorem State.joinQueue_fan (s : State) (n : Slot) (q : Slot) :
    (s.joinQueue n).fan q = s.fan q := rfl

@[simp] theorem State.joinQueue_loops (s : State) (n : Slot) :
    (s.joinQueue n).loops = s.loops := rfl

@[simp] theorem State.joinQueue_loopRec (s : State) (n : Slot) (q : LoopId) :
    (s.joinQueue n).loopRec q = s.loopRec q := rfl

@[simp] theorem State.joinQueue_pumps (s : State) (n : Slot) :
    (s.joinQueue n).pumps = s.pumps := rfl

@[simp] theorem State.joinQueue_pump (s : State) (n : Slot) (q : LoopId) :
    (s.joinQueue n).pump q = s.pump q := rfl

@[simp] theorem State.joinQueue_curveA (s : State) (n : Slot) :
    (s.joinQueue n).curveA = s.curveA := rfl

@[simp] theorem State.joinQueue_curveB (s : State) (n : Slot) :
    (s.joinQueue n).curveB = s.curveB := rfl

@[simp] theorem State.joinQueue_drive (s : State) (n : Slot) :
    (s.joinQueue n).drive = s.drive := rfl

@[simp] theorem State.joinQueue_seen (s : State) (n : Slot) :
    (s.joinQueue n).seen = s.seen := rfl

@[simp] theorem State.joinQueue_bindings (s : State) (n : Slot) :
    (s.joinQueue n).bindings = s.bindings := rfl

@[simp] theorem State.joinQueue_binding (s : State) (n : Slot) (q : BindingId) :
    (s.joinQueue n).binding q = s.binding q := rfl

@[simp] theorem State.joinQueue_txQueue (s : State) (n : Slot) :
    (s.joinQueue n).txQueue = s.txQueue := rfl

@[simp] theorem State.joinQueue_transmission (s : State) (n : Slot) :
    (s.joinQueue n).transmission = s.transmission := rfl

@[simp] theorem State.joinQueue_busIdleFrom (s : State) (n : Slot) :
    (s.joinQueue n).busIdleFrom = s.busIdleFrom := rfl

@[simp] theorem State.joinQueue_receiverSynced (s : State) (n : Slot) :
    (s.joinQueue n).receiverSynced = s.receiverSynced := rfl

@[simp] theorem State.joinQueue_search (s : State) (n : Slot) :
    (s.joinQueue n).search = s.search := rfl

@[simp] theorem State.joinQueue_lines (s : State) (n : Slot) :
    (s.joinQueue n).lines = s.lines := rfl

@[simp] theorem State.joinQueue_line (s : State) (n : Slot) (q : LineId) :
    (s.joinQueue n).line q = s.line q := rfl

@[simp] theorem State.joinQueue_attention (s : State) (n : Slot) :
    (s.joinQueue n).attention = s.attention := rfl

@[simp] theorem State.joinQueue_levels (s : State) (n : Slot) :
    (s.joinQueue n).levels = s.levels := rfl

@[simp] theorem State.joinQueue_link (s : State) (n : Slot) :
    (s.joinQueue n).link = s.link := rfl

@[simp] theorem State.joinQueue_reply (s : State) (n : Slot) :
    (s.joinQueue n).reply = s.reply := rfl

@[simp] theorem State.joinQueue_readyAt (s : State) (n : Slot) :
    (s.joinQueue n).readyAt = s.readyAt := rfl

@[simp] theorem State.joinQueue_freeCount (s : State) (n : Slot) :
    (s.joinQueue n).freeCount = s.freeCount := rfl

@[simp] theorem State.joinQueue_pending (s : State) (n : Slot) :
    (s.joinQueue n).pending = s.pending := rfl

/-! `leaveQueue` -/

@[simp] theorem State.leaveQueue_time (s : State) (n : Slot) :
    (s.leaveQueue n).time = s.time := rfl

@[simp] theorem State.leaveQueue_resetPin (s : State) (n : Slot) :
    (s.leaveQueue n).resetPin = s.resetPin := rfl

@[simp] theorem State.leaveQueue_stopLow (s : State) (n : Slot) :
    (s.leaveQueue n).stopLow = s.stopLow := rfl

@[simp] theorem State.leaveQueue_resetCause (s : State) (n : Slot) :
    (s.leaveQueue n).resetCause = s.resetCause := rfl

@[simp] theorem State.leaveQueue_sections (s : State) (n : Slot) :
    (s.leaveQueue n).sections = s.sections := rfl

@[simp] theorem State.leaveQueue_sec (s : State) (n : Slot) (q : Slot) :
    (s.leaveQueue n).sec q = s.sec q := rfl

@[simp] theorem State.leaveQueue_fans (s : State) (n : Slot) :
    (s.leaveQueue n).fans = s.fans := rfl

@[simp] theorem State.leaveQueue_fan (s : State) (n : Slot) (q : Slot) :
    (s.leaveQueue n).fan q = s.fan q := rfl

@[simp] theorem State.leaveQueue_loops (s : State) (n : Slot) :
    (s.leaveQueue n).loops = s.loops := rfl

@[simp] theorem State.leaveQueue_loopRec (s : State) (n : Slot) (q : LoopId) :
    (s.leaveQueue n).loopRec q = s.loopRec q := rfl

@[simp] theorem State.leaveQueue_pumps (s : State) (n : Slot) :
    (s.leaveQueue n).pumps = s.pumps := rfl

@[simp] theorem State.leaveQueue_pump (s : State) (n : Slot) (q : LoopId) :
    (s.leaveQueue n).pump q = s.pump q := rfl

@[simp] theorem State.leaveQueue_curveA (s : State) (n : Slot) :
    (s.leaveQueue n).curveA = s.curveA := rfl

@[simp] theorem State.leaveQueue_curveB (s : State) (n : Slot) :
    (s.leaveQueue n).curveB = s.curveB := rfl

@[simp] theorem State.leaveQueue_drive (s : State) (n : Slot) :
    (s.leaveQueue n).drive = s.drive := rfl

@[simp] theorem State.leaveQueue_seen (s : State) (n : Slot) :
    (s.leaveQueue n).seen = s.seen := rfl

@[simp] theorem State.leaveQueue_bindings (s : State) (n : Slot) :
    (s.leaveQueue n).bindings = s.bindings := rfl

@[simp] theorem State.leaveQueue_binding (s : State) (n : Slot) (q : BindingId) :
    (s.leaveQueue n).binding q = s.binding q := rfl

@[simp] theorem State.leaveQueue_txQueue (s : State) (n : Slot) :
    (s.leaveQueue n).txQueue = s.txQueue := rfl

@[simp] theorem State.leaveQueue_transmission (s : State) (n : Slot) :
    (s.leaveQueue n).transmission = s.transmission := rfl

@[simp] theorem State.leaveQueue_busIdleFrom (s : State) (n : Slot) :
    (s.leaveQueue n).busIdleFrom = s.busIdleFrom := rfl

@[simp] theorem State.leaveQueue_receiverSynced (s : State) (n : Slot) :
    (s.leaveQueue n).receiverSynced = s.receiverSynced := rfl

@[simp] theorem State.leaveQueue_search (s : State) (n : Slot) :
    (s.leaveQueue n).search = s.search := rfl

@[simp] theorem State.leaveQueue_lines (s : State) (n : Slot) :
    (s.leaveQueue n).lines = s.lines := rfl

@[simp] theorem State.leaveQueue_line (s : State) (n : Slot) (q : LineId) :
    (s.leaveQueue n).line q = s.line q := rfl

@[simp] theorem State.leaveQueue_attention (s : State) (n : Slot) :
    (s.leaveQueue n).attention = s.attention := rfl

@[simp] theorem State.leaveQueue_levels (s : State) (n : Slot) :
    (s.leaveQueue n).levels = s.levels := rfl

@[simp] theorem State.leaveQueue_link (s : State) (n : Slot) :
    (s.leaveQueue n).link = s.link := rfl

@[simp] theorem State.leaveQueue_reply (s : State) (n : Slot) :
    (s.leaveQueue n).reply = s.reply := rfl

@[simp] theorem State.leaveQueue_readyAt (s : State) (n : Slot) :
    (s.leaveQueue n).readyAt = s.readyAt := rfl

@[simp] theorem State.leaveQueue_freeCount (s : State) (n : Slot) :
    (s.leaveQueue n).freeCount = s.freeCount := rfl

@[simp] theorem State.leaveQueue_pending (s : State) (n : Slot) :
    (s.leaveQueue n).pending = s.pending := rfl

/-! `postValve` -/

@[simp] theorem State.postValve_time (s : State) (n : Slot) (c : ValveCommand) :
    (s.postValve n c).time = s.time := rfl

@[simp] theorem State.postValve_resetPin (s : State) (n : Slot) (c : ValveCommand) :
    (s.postValve n c).resetPin = s.resetPin := rfl

@[simp] theorem State.postValve_stopLow (s : State) (n : Slot) (c : ValveCommand) :
    (s.postValve n c).stopLow = s.stopLow := rfl

@[simp] theorem State.postValve_resetCause (s : State) (n : Slot) (c : ValveCommand) :
    (s.postValve n c).resetCause = s.resetCause := rfl

@[simp] theorem State.postValve_sections (s : State) (n : Slot) (c : ValveCommand) :
    (s.postValve n c).sections = s.sections := rfl

@[simp] theorem State.postValve_sec (s : State) (n : Slot) (c : ValveCommand) (q : Slot) :
    (s.postValve n c).sec q = s.sec q := rfl

@[simp] theorem State.postValve_fans (s : State) (n : Slot) (c : ValveCommand) :
    (s.postValve n c).fans = s.fans := rfl

@[simp] theorem State.postValve_fan (s : State) (n : Slot) (c : ValveCommand) (q : Slot) :
    (s.postValve n c).fan q = s.fan q := rfl

@[simp] theorem State.postValve_loops (s : State) (n : Slot) (c : ValveCommand) :
    (s.postValve n c).loops = s.loops := rfl

@[simp] theorem State.postValve_loopRec (s : State) (n : Slot) (c : ValveCommand) (q : LoopId) :
    (s.postValve n c).loopRec q = s.loopRec q := rfl

@[simp] theorem State.postValve_pumps (s : State) (n : Slot) (c : ValveCommand) :
    (s.postValve n c).pumps = s.pumps := rfl

@[simp] theorem State.postValve_pump (s : State) (n : Slot) (c : ValveCommand) (q : LoopId) :
    (s.postValve n c).pump q = s.pump q := rfl

@[simp] theorem State.postValve_curveA (s : State) (n : Slot) (c : ValveCommand) :
    (s.postValve n c).curveA = s.curveA := rfl

@[simp] theorem State.postValve_curveB (s : State) (n : Slot) (c : ValveCommand) :
    (s.postValve n c).curveB = s.curveB := rfl

@[simp] theorem State.postValve_drive (s : State) (n : Slot) (c : ValveCommand) :
    (s.postValve n c).drive = s.drive := rfl

@[simp] theorem State.postValve_evalQueue (s : State) (n : Slot) (c : ValveCommand) :
    (s.postValve n c).evalQueue = s.evalQueue := rfl

@[simp] theorem State.postValve_seen (s : State) (n : Slot) (c : ValveCommand) :
    (s.postValve n c).seen = s.seen := rfl

@[simp] theorem State.postValve_bindings (s : State) (n : Slot) (c : ValveCommand) :
    (s.postValve n c).bindings = s.bindings := rfl

@[simp] theorem State.postValve_binding (s : State) (n : Slot) (c : ValveCommand) (q : BindingId) :
    (s.postValve n c).binding q = s.binding q := rfl

@[simp] theorem State.postValve_transmission (s : State) (n : Slot) (c : ValveCommand) :
    (s.postValve n c).transmission = s.transmission := rfl

@[simp] theorem State.postValve_busIdleFrom (s : State) (n : Slot) (c : ValveCommand) :
    (s.postValve n c).busIdleFrom = s.busIdleFrom := rfl

@[simp] theorem State.postValve_receiverSynced (s : State) (n : Slot) (c : ValveCommand) :
    (s.postValve n c).receiverSynced = s.receiverSynced := rfl

@[simp] theorem State.postValve_search (s : State) (n : Slot) (c : ValveCommand) :
    (s.postValve n c).search = s.search := rfl

@[simp] theorem State.postValve_lines (s : State) (n : Slot) (c : ValveCommand) :
    (s.postValve n c).lines = s.lines := rfl

@[simp] theorem State.postValve_line (s : State) (n : Slot) (c : ValveCommand) (q : LineId) :
    (s.postValve n c).line q = s.line q := rfl

@[simp] theorem State.postValve_attention (s : State) (n : Slot) (c : ValveCommand) :
    (s.postValve n c).attention = s.attention := rfl

@[simp] theorem State.postValve_levels (s : State) (n : Slot) (c : ValveCommand) :
    (s.postValve n c).levels = s.levels := rfl

@[simp] theorem State.postValve_link (s : State) (n : Slot) (c : ValveCommand) :
    (s.postValve n c).link = s.link := rfl

@[simp] theorem State.postValve_reply (s : State) (n : Slot) (c : ValveCommand) :
    (s.postValve n c).reply = s.reply := rfl

@[simp] theorem State.postValve_readyAt (s : State) (n : Slot) (c : ValveCommand) :
    (s.postValve n c).readyAt = s.readyAt := rfl

@[simp] theorem State.postValve_freeCount (s : State) (n : Slot) (c : ValveCommand) :
    (s.postValve n c).freeCount = s.freeCount := rfl

@[simp] theorem State.postValve_pending (s : State) (n : Slot) (c : ValveCommand) :
    (s.postValve n c).pending = s.pending := rfl

/-! `removeEntry` -/

@[simp] theorem State.removeEntry_time (s : State) (n : Slot) :
    (s.removeEntry n).time = s.time := rfl

@[simp] theorem State.removeEntry_resetPin (s : State) (n : Slot) :
    (s.removeEntry n).resetPin = s.resetPin := rfl

@[simp] theorem State.removeEntry_stopLow (s : State) (n : Slot) :
    (s.removeEntry n).stopLow = s.stopLow := rfl

@[simp] theorem State.removeEntry_resetCause (s : State) (n : Slot) :
    (s.removeEntry n).resetCause = s.resetCause := rfl

@[simp] theorem State.removeEntry_sections (s : State) (n : Slot) :
    (s.removeEntry n).sections = s.sections := rfl

@[simp] theorem State.removeEntry_sec (s : State) (n : Slot) (q : Slot) :
    (s.removeEntry n).sec q = s.sec q := rfl

@[simp] theorem State.removeEntry_fans (s : State) (n : Slot) :
    (s.removeEntry n).fans = s.fans := rfl

@[simp] theorem State.removeEntry_fan (s : State) (n : Slot) (q : Slot) :
    (s.removeEntry n).fan q = s.fan q := rfl

@[simp] theorem State.removeEntry_loops (s : State) (n : Slot) :
    (s.removeEntry n).loops = s.loops := rfl

@[simp] theorem State.removeEntry_loopRec (s : State) (n : Slot) (q : LoopId) :
    (s.removeEntry n).loopRec q = s.loopRec q := rfl

@[simp] theorem State.removeEntry_pumps (s : State) (n : Slot) :
    (s.removeEntry n).pumps = s.pumps := rfl

@[simp] theorem State.removeEntry_pump (s : State) (n : Slot) (q : LoopId) :
    (s.removeEntry n).pump q = s.pump q := rfl

@[simp] theorem State.removeEntry_curveA (s : State) (n : Slot) :
    (s.removeEntry n).curveA = s.curveA := rfl

@[simp] theorem State.removeEntry_curveB (s : State) (n : Slot) :
    (s.removeEntry n).curveB = s.curveB := rfl

@[simp] theorem State.removeEntry_drive (s : State) (n : Slot) :
    (s.removeEntry n).drive = s.drive := rfl

@[simp] theorem State.removeEntry_evalQueue (s : State) (n : Slot) :
    (s.removeEntry n).evalQueue = s.evalQueue := rfl

@[simp] theorem State.removeEntry_seen (s : State) (n : Slot) :
    (s.removeEntry n).seen = s.seen := rfl

@[simp] theorem State.removeEntry_bindings (s : State) (n : Slot) :
    (s.removeEntry n).bindings = s.bindings := rfl

@[simp] theorem State.removeEntry_binding (s : State) (n : Slot) (q : BindingId) :
    (s.removeEntry n).binding q = s.binding q := rfl

@[simp] theorem State.removeEntry_busIdleFrom (s : State) (n : Slot) :
    (s.removeEntry n).busIdleFrom = s.busIdleFrom := rfl

@[simp] theorem State.removeEntry_receiverSynced (s : State) (n : Slot) :
    (s.removeEntry n).receiverSynced = s.receiverSynced := rfl

@[simp] theorem State.removeEntry_search (s : State) (n : Slot) :
    (s.removeEntry n).search = s.search := rfl

@[simp] theorem State.removeEntry_lines (s : State) (n : Slot) :
    (s.removeEntry n).lines = s.lines := rfl

@[simp] theorem State.removeEntry_line (s : State) (n : Slot) (q : LineId) :
    (s.removeEntry n).line q = s.line q := rfl

@[simp] theorem State.removeEntry_attention (s : State) (n : Slot) :
    (s.removeEntry n).attention = s.attention := rfl

@[simp] theorem State.removeEntry_levels (s : State) (n : Slot) :
    (s.removeEntry n).levels = s.levels := rfl

@[simp] theorem State.removeEntry_link (s : State) (n : Slot) :
    (s.removeEntry n).link = s.link := rfl

@[simp] theorem State.removeEntry_reply (s : State) (n : Slot) :
    (s.removeEntry n).reply = s.reply := rfl

@[simp] theorem State.removeEntry_readyAt (s : State) (n : Slot) :
    (s.removeEntry n).readyAt = s.readyAt := rfl

@[simp] theorem State.removeEntry_freeCount (s : State) (n : Slot) :
    (s.removeEntry n).freeCount = s.freeCount := rfl

@[simp] theorem State.removeEntry_pending (s : State) (n : Slot) :
    (s.removeEntry n).pending = s.pending := rfl

/-! `setDest` -/

@[simp] theorem State.setDest_time (s : State) (d : DestField) (v : Destination) :
    (s.setDest d v).time = s.time := by
  cases d <;> rfl

@[simp] theorem State.setDest_resetPin (s : State) (d : DestField) (v : Destination) :
    (s.setDest d v).resetPin = s.resetPin := by
  cases d <;> rfl

@[simp] theorem State.setDest_stopLow (s : State) (d : DestField) (v : Destination) :
    (s.setDest d v).stopLow = s.stopLow := by
  cases d <;> rfl

@[simp] theorem State.setDest_resetCause (s : State) (d : DestField) (v : Destination) :
    (s.setDest d v).resetCause = s.resetCause := by
  cases d <;> rfl

@[simp] theorem State.setDest_fans (s : State) (d : DestField) (v : Destination) :
    (s.setDest d v).fans = s.fans := by
  cases d <;> rfl

@[simp] theorem State.setDest_fan (s : State) (d : DestField) (v : Destination) (q : Slot) :
    (s.setDest d v).fan q = s.fan q := by
  simp [State.fan]

@[simp] theorem State.setDest_pumps (s : State) (d : DestField) (v : Destination) :
    (s.setDest d v).pumps = s.pumps := by
  cases d <;> rfl

@[simp] theorem State.setDest_pump (s : State) (d : DestField) (v : Destination) (q : LoopId) :
    (s.setDest d v).pump q = s.pump q := by
  simp [State.pump]

@[simp] theorem State.setDest_curveA (s : State) (d : DestField) (v : Destination) :
    (s.setDest d v).curveA = s.curveA := by
  cases d <;> rfl

@[simp] theorem State.setDest_curveB (s : State) (d : DestField) (v : Destination) :
    (s.setDest d v).curveB = s.curveB := by
  cases d <;> rfl

@[simp] theorem State.setDest_drive (s : State) (d : DestField) (v : Destination) :
    (s.setDest d v).drive = s.drive := by
  cases d <;> rfl

@[simp] theorem State.setDest_evalQueue (s : State) (d : DestField) (v : Destination) :
    (s.setDest d v).evalQueue = s.evalQueue := by
  cases d <;> rfl

@[simp] theorem State.setDest_seen (s : State) (d : DestField) (v : Destination) :
    (s.setDest d v).seen = s.seen := by
  cases d <;> rfl

@[simp] theorem State.setDest_bindings (s : State) (d : DestField) (v : Destination) :
    (s.setDest d v).bindings = s.bindings := by
  cases d <;> rfl

@[simp] theorem State.setDest_binding (s : State) (d : DestField) (v : Destination) (q : BindingId) :
    (s.setDest d v).binding q = s.binding q := by
  simp [State.binding]

@[simp] theorem State.setDest_txQueue (s : State) (d : DestField) (v : Destination) :
    (s.setDest d v).txQueue = s.txQueue := by
  cases d <;> rfl

@[simp] theorem State.setDest_transmission (s : State) (d : DestField) (v : Destination) :
    (s.setDest d v).transmission = s.transmission := by
  cases d <;> rfl

@[simp] theorem State.setDest_busIdleFrom (s : State) (d : DestField) (v : Destination) :
    (s.setDest d v).busIdleFrom = s.busIdleFrom := by
  cases d <;> rfl

@[simp] theorem State.setDest_receiverSynced (s : State) (d : DestField) (v : Destination) :
    (s.setDest d v).receiverSynced = s.receiverSynced := by
  cases d <;> rfl

@[simp] theorem State.setDest_search (s : State) (d : DestField) (v : Destination) :
    (s.setDest d v).search = s.search := by
  cases d <;> rfl

@[simp] theorem State.setDest_lines (s : State) (d : DestField) (v : Destination) :
    (s.setDest d v).lines = s.lines := by
  cases d <;> rfl

@[simp] theorem State.setDest_line (s : State) (d : DestField) (v : Destination) (q : LineId) :
    (s.setDest d v).line q = s.line q := by
  simp [State.line]

@[simp] theorem State.setDest_attention (s : State) (d : DestField) (v : Destination) :
    (s.setDest d v).attention = s.attention := by
  cases d <;> rfl

@[simp] theorem State.setDest_levels (s : State) (d : DestField) (v : Destination) :
    (s.setDest d v).levels = s.levels := by
  cases d <;> rfl

@[simp] theorem State.setDest_link (s : State) (d : DestField) (v : Destination) :
    (s.setDest d v).link = s.link := by
  cases d <;> rfl

@[simp] theorem State.setDest_reply (s : State) (d : DestField) (v : Destination) :
    (s.setDest d v).reply = s.reply := by
  cases d <;> rfl

@[simp] theorem State.setDest_readyAt (s : State) (d : DestField) (v : Destination) :
    (s.setDest d v).readyAt = s.readyAt := by
  cases d <;> rfl

@[simp] theorem State.setDest_freeCount (s : State) (d : DestField) (v : Destination) :
    (s.setDest d v).freeCount = s.freeCount := by
  cases d <;> rfl

@[simp] theorem State.setDest_pending (s : State) (d : DestField) (v : Destination) :
    (s.setDest d v).pending = s.pending := by
  cases d <;> rfl

/-! `putReply` -/

@[simp] theorem State.putReply_time (s : State) (r : Reply) :
    (s.putReply r).time = s.time := rfl

@[simp] theorem State.putReply_resetPin (s : State) (r : Reply) :
    (s.putReply r).resetPin = s.resetPin := rfl

@[simp] theorem State.putReply_stopLow (s : State) (r : Reply) :
    (s.putReply r).stopLow = s.stopLow := rfl

@[simp] theorem State.putReply_resetCause (s : State) (r : Reply) :
    (s.putReply r).resetCause = s.resetCause := rfl

@[simp] theorem State.putReply_sections (s : State) (r : Reply) :
    (s.putReply r).sections = s.sections := rfl

@[simp] theorem State.putReply_sec (s : State) (r : Reply) (q : Slot) :
    (s.putReply r).sec q = s.sec q := rfl

@[simp] theorem State.putReply_fans (s : State) (r : Reply) :
    (s.putReply r).fans = s.fans := rfl

@[simp] theorem State.putReply_fan (s : State) (r : Reply) (q : Slot) :
    (s.putReply r).fan q = s.fan q := rfl

@[simp] theorem State.putReply_loops (s : State) (r : Reply) :
    (s.putReply r).loops = s.loops := rfl

@[simp] theorem State.putReply_loopRec (s : State) (r : Reply) (q : LoopId) :
    (s.putReply r).loopRec q = s.loopRec q := rfl

@[simp] theorem State.putReply_pumps (s : State) (r : Reply) :
    (s.putReply r).pumps = s.pumps := rfl

@[simp] theorem State.putReply_pump (s : State) (r : Reply) (q : LoopId) :
    (s.putReply r).pump q = s.pump q := rfl

@[simp] theorem State.putReply_curveA (s : State) (r : Reply) :
    (s.putReply r).curveA = s.curveA := rfl

@[simp] theorem State.putReply_curveB (s : State) (r : Reply) :
    (s.putReply r).curveB = s.curveB := rfl

@[simp] theorem State.putReply_drive (s : State) (r : Reply) :
    (s.putReply r).drive = s.drive := rfl

@[simp] theorem State.putReply_evalQueue (s : State) (r : Reply) :
    (s.putReply r).evalQueue = s.evalQueue := rfl

@[simp] theorem State.putReply_seen (s : State) (r : Reply) :
    (s.putReply r).seen = s.seen := rfl

@[simp] theorem State.putReply_bindings (s : State) (r : Reply) :
    (s.putReply r).bindings = s.bindings := rfl

@[simp] theorem State.putReply_binding (s : State) (r : Reply) (q : BindingId) :
    (s.putReply r).binding q = s.binding q := rfl

@[simp] theorem State.putReply_txQueue (s : State) (r : Reply) :
    (s.putReply r).txQueue = s.txQueue := rfl

@[simp] theorem State.putReply_transmission (s : State) (r : Reply) :
    (s.putReply r).transmission = s.transmission := rfl

@[simp] theorem State.putReply_busIdleFrom (s : State) (r : Reply) :
    (s.putReply r).busIdleFrom = s.busIdleFrom := rfl

@[simp] theorem State.putReply_receiverSynced (s : State) (r : Reply) :
    (s.putReply r).receiverSynced = s.receiverSynced := rfl

@[simp] theorem State.putReply_search (s : State) (r : Reply) :
    (s.putReply r).search = s.search := rfl

@[simp] theorem State.putReply_lines (s : State) (r : Reply) :
    (s.putReply r).lines = s.lines := rfl

@[simp] theorem State.putReply_line (s : State) (r : Reply) (q : LineId) :
    (s.putReply r).line q = s.line q := rfl

@[simp] theorem State.putReply_attention (s : State) (r : Reply) :
    (s.putReply r).attention = s.attention := rfl

@[simp] theorem State.putReply_levels (s : State) (r : Reply) :
    (s.putReply r).levels = s.levels := rfl

@[simp] theorem State.putReply_link (s : State) (r : Reply) :
    (s.putReply r).link = s.link := rfl

@[simp] theorem State.putReply_freeCount (s : State) (r : Reply) :
    (s.putReply r).freeCount = s.freeCount := rfl

@[simp] theorem State.putReply_pending (s : State) (r : Reply) :
    (s.putReply r).pending = s.pending := rfl

end Sys2Proof.Machine
end

