-- ==== Sys2Proof/Laws/Frames.lean ====
section
/-! SUPPORT. Frames: for each composite operation, the fields it leaves as they were. `State.rest` stands for the
fields that no operation below the link and the events touches. -/

namespace Sys2Proof.Machine

open Sys2Proof

-- One declaration after another: side by side, their proofs wait for each other's equation lemmas in many threads.
set_option Elab.async false

/-- A fold of steps that keep a reading of the state keeps it. -/
theorem foldl_keeps {α β : Type} (read : State → β) (f : State → α → State)
    (h : ∀ s a, read (f s a) = read s) (l : List α) (s : State) : read (l.foldl f s) = read s := by
  induction l generalizing s with
  | nil => rfl
  | cons a l ih => rw [List.foldl_cons, ih, h]

/-- The fields that only the link's events, the bus events, the resets and the part requests change. -/
def State.rest (s : State) : State :=
  { State.reset with
    resetCause := s.resetCause, curveA := s.curveA, curveB := s.curveB, busIdleFrom := s.busIdleFrom,
    receiverSynced := s.receiverSynced, levels := s.levels, link := s.link, reply := s.reply,
    readyAt := s.readyAt, freeCount := s.freeCount, pending := s.pending }

@[simp] theorem State.advance_rest (s : State) (dt : Nat) :
    (s.advance dt).rest = s.rest := rfl

@[simp] theorem State.runTo_rest (s : State) (m : Nat) :
    (s.runTo m).rest = s.rest := rfl

@[simp] theorem State.runToTenth_rest (s : State) (m : Nat) :
    (s.runToTenth m).rest = s.rest := rfl

@[simp] theorem State.modSec_rest (s : State) (n : Slot) (f : SectionRecord → SectionRecord) :
    (s.modSec n f).rest = s.rest := rfl

@[simp] theorem State.modFan_rest (s : State) (n : Slot) (f : FanChannel → FanChannel) :
    (s.modFan n f).rest = s.rest := rfl

@[simp] theorem State.modLoop_rest (s : State) (l : LoopId) (f : LoopRecord → LoopRecord) :
    (s.modLoop l f).rest = s.rest := rfl

@[simp] theorem State.modPump_rest (s : State) (l : LoopId) (f : Channel → Channel) :
    (s.modPump l f).rest = s.rest := rfl

@[simp] theorem State.setBinding_rest (s : State) (b : BindingId) (v : BindingState) :
    (s.setBinding b v).rest = s.rest := rfl

@[simp] theorem State.modLine_rest (s : State) (k : LineId) (f : ClearLine → ClearLine) :
    (s.modLine k f).rest = s.rest := rfl

@[simp] theorem State.modSearch_rest (s : State) (f : SearchContext → SearchContext) :
    (s.modSearch f).rest = s.rest := rfl

@[simp] theorem State.post_rest (s : State) (k : CauseKind) (i : Nat) :
    (s.post k i).rest = s.rest := rfl

@[simp] theorem State.dropCauses_rest (s : State) (p : Cause → Bool) :
    (s.dropCauses p).rest = s.rest := rfl

@[simp] theorem State.dropSectionCauses_rest (s : State) (n : Slot) :
    (s.dropSectionCauses n).rest = s.rest := rfl

@[simp] theorem State.dropStale_rest (s : State) (b : BindingId) :
    (s.dropStale b).rest = s.rest := rfl

@[simp] theorem State.dropLoopCauses_rest (s : State) (l : LoopId) :
    (s.dropLoopCauses l).rest = s.rest := rfl

@[simp] theorem State.joinQueue_rest (s : State) (n : Slot) :
    (s.joinQueue n).rest = s.rest := rfl

@[simp] theorem State.leaveQueue_rest (s : State) (n : Slot) :
    (s.leaveQueue n).rest = s.rest := rfl

@[simp] theorem State.postValve_rest (s : State) (n : Slot) (c : ValveCommand) :
    (s.postValve n c).rest = s.rest := rfl

@[simp] theorem State.removeEntry_rest (s : State) (n : Slot) :
    (s.removeEntry n).rest = s.rest := rfl

@[simp] theorem State.setDest_rest (s : State) (d : DestField) (v : Destination) :
    (s.setDest d v).rest = s.rest := by
  cases d <;> rfl

/-! `formOwn` -/


@[simp] theorem State.formOwn_time (s : State) (n : Slot) :
    (s.formOwn n).time = s.time := by
  simp [State.formOwn]

@[simp] theorem State.formOwn_stopLow (s : State) (n : Slot) :
    (s.formOwn n).stopLow = s.stopLow := by
  simp [State.formOwn]

@[simp] theorem State.formOwn_resetPin (s : State) (n : Slot) :
    (s.formOwn n).resetPin = s.resetPin := by
  simp [State.formOwn]

@[simp] theorem State.formOwn_drive (s : State) (n : Slot) :
    (s.formOwn n).drive = s.drive := by
  simp [State.formOwn]

@[simp] theorem State.formOwn_sections (s : State) (n : Slot) :
    (s.formOwn n).sections = s.sections := by
  simp [State.formOwn]

@[simp] theorem State.formOwn_sec (s : State) (n : Slot) (i : Slot) :
    (s.formOwn n).sec i = s.sec i := by
  simp [State.sec]

@[simp] theorem State.formOwn_loops (s : State) (n : Slot) :
    (s.formOwn n).loops = s.loops := by
  simp [State.formOwn]

@[simp] theorem State.formOwn_loopRec (s : State) (n : Slot) (i : LoopId) :
    (s.formOwn n).loopRec i = s.loopRec i := by
  simp [State.loopRec]

@[simp] theorem State.formOwn_pumps (s : State) (n : Slot) :
    (s.formOwn n).pumps = s.pumps := by
  simp [State.formOwn]

@[simp] theorem State.formOwn_pump (s : State) (n : Slot) (i : LoopId) :
    (s.formOwn n).pump i = s.pump i := by
  simp [State.pump]

@[simp] theorem State.formOwn_evalQueue (s : State) (n : Slot) :
    (s.formOwn n).evalQueue = s.evalQueue := by
  simp [State.formOwn]

@[simp] theorem State.formOwn_bindings (s : State) (n : Slot) :
    (s.formOwn n).bindings = s.bindings := by
  simp [State.formOwn]

@[simp] theorem State.formOwn_binding (s : State) (n : Slot) (i : BindingId) :
    (s.formOwn n).binding i = s.binding i := by
  simp [State.binding]

@[simp] theorem State.formOwn_txQueue (s : State) (n : Slot) :
    (s.formOwn n).txQueue = s.txQueue := by
  simp [State.formOwn]

@[simp] theorem State.formOwn_transmission (s : State) (n : Slot) :
    (s.formOwn n).transmission = s.transmission := by
  simp [State.formOwn]

@[simp] theorem State.formOwn_search (s : State) (n : Slot) :
    (s.formOwn n).search = s.search := by
  simp [State.formOwn]

@[simp] theorem State.formOwn_lines (s : State) (n : Slot) :
    (s.formOwn n).lines = s.lines := by
  simp [State.formOwn]

@[simp] theorem State.formOwn_line (s : State) (n : Slot) (i : LineId) :
    (s.formOwn n).line i = s.line i := by
  simp [State.line]

@[simp] theorem State.formOwn_attention (s : State) (n : Slot) :
    (s.formOwn n).attention = s.attention := by
  simp [State.formOwn]

@[simp] theorem State.formOwn_seen (s : State) (n : Slot) :
    (s.formOwn n).seen = s.seen := by
  simp [State.formOwn]

@[simp] theorem State.formOwn_rest (s : State) (n : Slot) :
    (s.formOwn n).rest = s.rest := by
  simp [State.formOwn]

/-! `handFan` -/


@[simp] theorem State.handFan_time (s : State) (n : Slot) (d : Nat) :
    (s.handFan n d).time = s.time := by
  simp [State.handFan]

@[simp] theorem State.handFan_stopLow (s : State) (n : Slot) (d : Nat) :
    (s.handFan n d).stopLow = s.stopLow := by
  simp [State.handFan]

@[simp] theorem State.handFan_resetPin (s : State) (n : Slot) (d : Nat) :
    (s.handFan n d).resetPin = s.resetPin := by
  simp [State.handFan]

@[simp] theorem State.handFan_drive (s : State) (n : Slot) (d : Nat) :
    (s.handFan n d).drive = s.drive := by
  simp [State.handFan]

@[simp] theorem State.handFan_sections (s : State) (n : Slot) (d : Nat) :
    (s.handFan n d).sections = s.sections := by
  simp [State.handFan]

@[simp] theorem State.handFan_sec (s : State) (n : Slot) (d : Nat) (i : Slot) :
    (s.handFan n d).sec i = s.sec i := by
  simp [State.sec]

@[simp] theorem State.handFan_loops (s : State) (n : Slot) (d : Nat) :
    (s.handFan n d).loops = s.loops := by
  simp [State.handFan]

@[simp] theorem State.handFan_loopRec (s : State) (n : Slot) (d : Nat) (i : LoopId) :
    (s.handFan n d).loopRec i = s.loopRec i := by
  simp [State.loopRec]

@[simp] theorem State.handFan_pumps (s : State) (n : Slot) (d : Nat) :
    (s.handFan n d).pumps = s.pumps := by
  simp [State.handFan]

@[simp] theorem State.handFan_pump (s : State) (n : Slot) (d : Nat) (i : LoopId) :
    (s.handFan n d).pump i = s.pump i := by
  simp [State.pump]

@[simp] theorem State.handFan_evalQueue (s : State) (n : Slot) (d : Nat) :
    (s.handFan n d).evalQueue = s.evalQueue := by
  simp [State.handFan]

@[simp] theorem State.handFan_bindings (s : State) (n : Slot) (d : Nat) :
    (s.handFan n d).bindings = s.bindings := by
  simp [State.handFan]

@[simp] theorem State.handFan_binding (s : State) (n : Slot) (d : Nat) (i : BindingId) :
    (s.handFan n d).binding i = s.binding i := by
  simp [State.binding]

@[simp] theorem State.handFan_txQueue (s : State) (n : Slot) (d : Nat) :
    (s.handFan n d).txQueue = s.txQueue := by
  simp [State.handFan]

@[simp] theorem State.handFan_transmission (s : State) (n : Slot) (d : Nat) :
    (s.handFan n d).transmission = s.transmission := by
  simp [State.handFan]

@[simp] theorem State.handFan_search (s : State) (n : Slot) (d : Nat) :
    (s.handFan n d).search = s.search := by
  simp [State.handFan]

@[simp] theorem State.handFan_lines (s : State) (n : Slot) (d : Nat) :
    (s.handFan n d).lines = s.lines := by
  simp [State.handFan]

@[simp] theorem State.handFan_line (s : State) (n : Slot) (d : Nat) (i : LineId) :
    (s.handFan n d).line i = s.line i := by
  simp [State.line]

@[simp] theorem State.handFan_attention (s : State) (n : Slot) (d : Nat) :
    (s.handFan n d).attention = s.attention := by
  simp [State.handFan]

@[simp] theorem State.handFan_seen (s : State) (n : Slot) (d : Nat) :
    (s.handFan n d).seen = s.seen := by
  simp [State.handFan]

@[simp] theorem State.handFan_rest (s : State) (n : Slot) (d : Nat) :
    (s.handFan n d).rest = s.rest := by
  simp [State.handFan]

/-! `handAll` -/


@[simp] theorem State.handAll_time (s : State) (n : Slot) :
    (s.handAll n).time = s.time := by
  simp only [State.handAll]
  split <;> simp

@[simp] theorem State.handAll_stopLow (s : State) (n : Slot) :
    (s.handAll n).stopLow = s.stopLow := by
  simp only [State.handAll]
  split <;> simp

@[simp] theorem State.handAll_resetPin (s : State) (n : Slot) :
    (s.handAll n).resetPin = s.resetPin := by
  simp only [State.handAll]
  split <;> simp

@[simp] theorem State.handAll_drive (s : State) (n : Slot) :
    (s.handAll n).drive = s.drive := by
  simp only [State.handAll]
  split <;> simp

@[simp] theorem State.handAll_sections (s : State) (n : Slot) :
    (s.handAll n).sections = s.sections := by
  simp only [State.handAll]
  split <;> simp

@[simp] theorem State.handAll_sec (s : State) (n : Slot) (i : Slot) :
    (s.handAll n).sec i = s.sec i := by
  simp [State.sec]

@[simp] theorem State.handAll_loops (s : State) (n : Slot) :
    (s.handAll n).loops = s.loops := by
  simp only [State.handAll]
  split <;> simp

@[simp] theorem State.handAll_loopRec (s : State) (n : Slot) (i : LoopId) :
    (s.handAll n).loopRec i = s.loopRec i := by
  simp [State.loopRec]

@[simp] theorem State.handAll_pumps (s : State) (n : Slot) :
    (s.handAll n).pumps = s.pumps := by
  simp only [State.handAll]
  split <;> simp

@[simp] theorem State.handAll_pump (s : State) (n : Slot) (i : LoopId) :
    (s.handAll n).pump i = s.pump i := by
  simp [State.pump]

@[simp] theorem State.handAll_evalQueue (s : State) (n : Slot) :
    (s.handAll n).evalQueue = s.evalQueue := by
  simp only [State.handAll]
  split <;> simp

@[simp] theorem State.handAll_bindings (s : State) (n : Slot) :
    (s.handAll n).bindings = s.bindings := by
  simp only [State.handAll]
  split <;> simp

@[simp] theorem State.handAll_binding (s : State) (n : Slot) (i : BindingId) :
    (s.handAll n).binding i = s.binding i := by
  simp [State.binding]

@[simp] theorem State.handAll_txQueue (s : State) (n : Slot) :
    (s.handAll n).txQueue = s.txQueue := by
  simp only [State.handAll]
  split <;> simp

@[simp] theorem State.handAll_transmission (s : State) (n : Slot) :
    (s.handAll n).transmission = s.transmission := by
  simp only [State.handAll]
  split <;> simp

@[simp] theorem State.handAll_search (s : State) (n : Slot) :
    (s.handAll n).search = s.search := by
  simp only [State.handAll]
  split <;> simp

@[simp] theorem State.handAll_lines (s : State) (n : Slot) :
    (s.handAll n).lines = s.lines := by
  simp only [State.handAll]
  split <;> simp

@[simp] theorem State.handAll_line (s : State) (n : Slot) (i : LineId) :
    (s.handAll n).line i = s.line i := by
  simp [State.line]

@[simp] theorem State.handAll_attention (s : State) (n : Slot) :
    (s.handAll n).attention = s.attention := by
  simp only [State.handAll]
  split <;> simp

@[simp] theorem State.handAll_seen (s : State) (n : Slot) :
    (s.handAll n).seen = s.seen := by
  simp only [State.handAll]
  split <;> simp

@[simp] theorem State.handAll_rest (s : State) (n : Slot) :
    (s.handAll n).rest = s.rest := by
  simp only [State.handAll]
  split <;> simp

/-! `restage` -/


@[simp] theorem State.restage_time (s : State) (n : Slot) :
    (s.restage n).time = s.time := by
  simp [State.restage]

@[simp] theorem State.restage_stopLow (s : State) (n : Slot) :
    (s.restage n).stopLow = s.stopLow := by
  simp [State.restage]

@[simp] theorem State.restage_resetPin (s : State) (n : Slot) :
    (s.restage n).resetPin = s.resetPin := by
  simp [State.restage]

@[simp] theorem State.restage_drive (s : State) (n : Slot) :
    (s.restage n).drive = s.drive := by
  simp [State.restage]

@[simp] theorem State.restage_sections (s : State) (n : Slot) :
    (s.restage n).sections = s.sections := by
  simp [State.restage]

@[simp] theorem State.restage_sec (s : State) (n : Slot) (i : Slot) :
    (s.restage n).sec i = s.sec i := by
  simp [State.sec]

@[simp] theorem State.restage_loops (s : State) (n : Slot) :
    (s.restage n).loops = s.loops := by
  simp [State.restage]

@[simp] theorem State.restage_loopRec (s : State) (n : Slot) (i : LoopId) :
    (s.restage n).loopRec i = s.loopRec i := by
  simp [State.loopRec]

@[simp] theorem State.restage_pumps (s : State) (n : Slot) :
    (s.restage n).pumps = s.pumps := by
  simp [State.restage]

@[simp] theorem State.restage_pump (s : State) (n : Slot) (i : LoopId) :
    (s.restage n).pump i = s.pump i := by
  simp [State.pump]

@[simp] theorem State.restage_evalQueue (s : State) (n : Slot) :
    (s.restage n).evalQueue = s.evalQueue := by
  simp [State.restage]

@[simp] theorem State.restage_bindings (s : State) (n : Slot) :
    (s.restage n).bindings = s.bindings := by
  simp [State.restage]

@[simp] theorem State.restage_binding (s : State) (n : Slot) (i : BindingId) :
    (s.restage n).binding i = s.binding i := by
  simp [State.binding]

@[simp] theorem State.restage_txQueue (s : State) (n : Slot) :
    (s.restage n).txQueue = s.txQueue := by
  simp [State.restage]

@[simp] theorem State.restage_transmission (s : State) (n : Slot) :
    (s.restage n).transmission = s.transmission := by
  simp [State.restage]

@[simp] theorem State.restage_search (s : State) (n : Slot) :
    (s.restage n).search = s.search := by
  simp [State.restage]

@[simp] theorem State.restage_lines (s : State) (n : Slot) :
    (s.restage n).lines = s.lines := by
  simp [State.restage]

@[simp] theorem State.restage_line (s : State) (n : Slot) (i : LineId) :
    (s.restage n).line i = s.line i := by
  simp [State.line]

@[simp] theorem State.restage_attention (s : State) (n : Slot) :
    (s.restage n).attention = s.attention := by
  simp [State.restage]

@[simp] theorem State.restage_seen (s : State) (n : Slot) :
    (s.restage n).seen = s.seen := by
  simp [State.restage]

@[simp] theorem State.restage_rest (s : State) (n : Slot) :
    (s.restage n).rest = s.rest := by
  simp [State.restage]

/-! `restagePair` -/


@[simp] theorem State.restagePair_time (s : State) (n : Slot) :
    (s.restagePair n).time = s.time := by
  simp [State.restagePair]

@[simp] theorem State.restagePair_stopLow (s : State) (n : Slot) :
    (s.restagePair n).stopLow = s.stopLow := by
  simp [State.restagePair]

@[simp] theorem State.restagePair_resetPin (s : State) (n : Slot) :
    (s.restagePair n).resetPin = s.resetPin := by
  simp [State.restagePair]

@[simp] theorem State.restagePair_drive (s : State) (n : Slot) :
    (s.restagePair n).drive = s.drive := by
  simp [State.restagePair]

@[simp] theorem State.restagePair_sections (s : State) (n : Slot) :
    (s.restagePair n).sections = s.sections := by
  simp [State.restagePair]

@[simp] theorem State.restagePair_sec (s : State) (n : Slot) (i : Slot) :
    (s.restagePair n).sec i = s.sec i := by
  simp [State.sec]

@[simp] theorem State.restagePair_loops (s : State) (n : Slot) :
    (s.restagePair n).loops = s.loops := by
  simp [State.restagePair]

@[simp] theorem State.restagePair_loopRec (s : State) (n : Slot) (i : LoopId) :
    (s.restagePair n).loopRec i = s.loopRec i := by
  simp [State.loopRec]

@[simp] theorem State.restagePair_pumps (s : State) (n : Slot) :
    (s.restagePair n).pumps = s.pumps := by
  simp [State.restagePair]

@[simp] theorem State.restagePair_pump (s : State) (n : Slot) (i : LoopId) :
    (s.restagePair n).pump i = s.pump i := by
  simp [State.pump]

@[simp] theorem State.restagePair_evalQueue (s : State) (n : Slot) :
    (s.restagePair n).evalQueue = s.evalQueue := by
  simp [State.restagePair]

@[simp] theorem State.restagePair_bindings (s : State) (n : Slot) :
    (s.restagePair n).bindings = s.bindings := by
  simp [State.restagePair]

@[simp] theorem State.restagePair_binding (s : State) (n : Slot) (i : BindingId) :
    (s.restagePair n).binding i = s.binding i := by
  simp [State.binding]

@[simp] theorem State.restagePair_txQueue (s : State) (n : Slot) :
    (s.restagePair n).txQueue = s.txQueue := by
  simp [State.restagePair]

@[simp] theorem State.restagePair_transmission (s : State) (n : Slot) :
    (s.restagePair n).transmission = s.transmission := by
  simp [State.restagePair]

@[simp] theorem State.restagePair_search (s : State) (n : Slot) :
    (s.restagePair n).search = s.search := by
  simp [State.restagePair]

@[simp] theorem State.restagePair_lines (s : State) (n : Slot) :
    (s.restagePair n).lines = s.lines := by
  simp [State.restagePair]

@[simp] theorem State.restagePair_line (s : State) (n : Slot) (i : LineId) :
    (s.restagePair n).line i = s.line i := by
  simp [State.line]

@[simp] theorem State.restagePair_attention (s : State) (n : Slot) :
    (s.restagePair n).attention = s.attention := by
  simp [State.restagePair]

@[simp] theorem State.restagePair_seen (s : State) (n : Slot) :
    (s.restagePair n).seen = s.seen := by
  simp [State.restagePair]

@[simp] theorem State.restagePair_rest (s : State) (n : Slot) :
    (s.restagePair n).rest = s.rest := by
  simp [State.restagePair]

/-! `enableFan` -/


@[simp] theorem State.enableFan_time (s : State) (n : Slot) :
    (s.enableFan n).time = s.time := by
  simp [State.enableFan]

@[simp] theorem State.enableFan_stopLow (s : State) (n : Slot) :
    (s.enableFan n).stopLow = s.stopLow := by
  simp [State.enableFan]

@[simp] theorem State.enableFan_resetPin (s : State) (n : Slot) :
    (s.enableFan n).resetPin = s.resetPin := by
  simp [State.enableFan]

@[simp] theorem State.enableFan_drive (s : State) (n : Slot) :
    (s.enableFan n).drive = s.drive := by
  simp [State.enableFan]

@[simp] theorem State.enableFan_sections (s : State) (n : Slot) :
    (s.enableFan n).sections = s.sections := by
  simp [State.enableFan]

@[simp] theorem State.enableFan_sec (s : State) (n : Slot) (i : Slot) :
    (s.enableFan n).sec i = s.sec i := by
  simp [State.sec]

@[simp] theorem State.enableFan_loops (s : State) (n : Slot) :
    (s.enableFan n).loops = s.loops := by
  simp [State.enableFan]

@[simp] theorem State.enableFan_loopRec (s : State) (n : Slot) (i : LoopId) :
    (s.enableFan n).loopRec i = s.loopRec i := by
  simp [State.loopRec]

@[simp] theorem State.enableFan_pumps (s : State) (n : Slot) :
    (s.enableFan n).pumps = s.pumps := by
  simp [State.enableFan]

@[simp] theorem State.enableFan_pump (s : State) (n : Slot) (i : LoopId) :
    (s.enableFan n).pump i = s.pump i := by
  simp [State.pump]

@[simp] theorem State.enableFan_evalQueue (s : State) (n : Slot) :
    (s.enableFan n).evalQueue = s.evalQueue := by
  simp [State.enableFan]

@[simp] theorem State.enableFan_bindings (s : State) (n : Slot) :
    (s.enableFan n).bindings = s.bindings := by
  simp [State.enableFan]

@[simp] theorem State.enableFan_binding (s : State) (n : Slot) (i : BindingId) :
    (s.enableFan n).binding i = s.binding i := by
  simp [State.binding]

@[simp] theorem State.enableFan_txQueue (s : State) (n : Slot) :
    (s.enableFan n).txQueue = s.txQueue := by
  simp [State.enableFan]

@[simp] theorem State.enableFan_transmission (s : State) (n : Slot) :
    (s.enableFan n).transmission = s.transmission := by
  simp [State.enableFan]

@[simp] theorem State.enableFan_search (s : State) (n : Slot) :
    (s.enableFan n).search = s.search := by
  simp [State.enableFan]

@[simp] theorem State.enableFan_lines (s : State) (n : Slot) :
    (s.enableFan n).lines = s.lines := by
  simp [State.enableFan]

@[simp] theorem State.enableFan_line (s : State) (n : Slot) (i : LineId) :
    (s.enableFan n).line i = s.line i := by
  simp [State.line]

@[simp] theorem State.enableFan_attention (s : State) (n : Slot) :
    (s.enableFan n).attention = s.attention := by
  simp [State.enableFan]

@[simp] theorem State.enableFan_seen (s : State) (n : Slot) :
    (s.enableFan n).seen = s.seen := by
  simp [State.enableFan]

@[simp] theorem State.enableFan_rest (s : State) (n : Slot) :
    (s.enableFan n).rest = s.rest := by
  simp [State.enableFan]

/-! `disableFan` -/


@[simp] theorem State.disableFan_time (s : State) (n : Slot) :
    (s.disableFan n).time = s.time := by
  simp [State.disableFan]

@[simp] theorem State.disableFan_stopLow (s : State) (n : Slot) :
    (s.disableFan n).stopLow = s.stopLow := by
  simp [State.disableFan]

@[simp] theorem State.disableFan_resetPin (s : State) (n : Slot) :
    (s.disableFan n).resetPin = s.resetPin := by
  simp [State.disableFan]

@[simp] theorem State.disableFan_drive (s : State) (n : Slot) :
    (s.disableFan n).drive = s.drive := by
  simp [State.disableFan]

@[simp] theorem State.disableFan_sections (s : State) (n : Slot) :
    (s.disableFan n).sections = s.sections := by
  simp [State.disableFan]

@[simp] theorem State.disableFan_sec (s : State) (n : Slot) (i : Slot) :
    (s.disableFan n).sec i = s.sec i := by
  simp [State.sec]

@[simp] theorem State.disableFan_loops (s : State) (n : Slot) :
    (s.disableFan n).loops = s.loops := by
  simp [State.disableFan]

@[simp] theorem State.disableFan_loopRec (s : State) (n : Slot) (i : LoopId) :
    (s.disableFan n).loopRec i = s.loopRec i := by
  simp [State.loopRec]

@[simp] theorem State.disableFan_pumps (s : State) (n : Slot) :
    (s.disableFan n).pumps = s.pumps := by
  simp [State.disableFan]

@[simp] theorem State.disableFan_pump (s : State) (n : Slot) (i : LoopId) :
    (s.disableFan n).pump i = s.pump i := by
  simp [State.pump]

@[simp] theorem State.disableFan_evalQueue (s : State) (n : Slot) :
    (s.disableFan n).evalQueue = s.evalQueue := by
  simp [State.disableFan]

@[simp] theorem State.disableFan_bindings (s : State) (n : Slot) :
    (s.disableFan n).bindings = s.bindings := by
  simp [State.disableFan]

@[simp] theorem State.disableFan_binding (s : State) (n : Slot) (i : BindingId) :
    (s.disableFan n).binding i = s.binding i := by
  simp [State.binding]

@[simp] theorem State.disableFan_txQueue (s : State) (n : Slot) :
    (s.disableFan n).txQueue = s.txQueue := by
  simp [State.disableFan]

@[simp] theorem State.disableFan_transmission (s : State) (n : Slot) :
    (s.disableFan n).transmission = s.transmission := by
  simp [State.disableFan]

@[simp] theorem State.disableFan_search (s : State) (n : Slot) :
    (s.disableFan n).search = s.search := by
  simp [State.disableFan]

@[simp] theorem State.disableFan_lines (s : State) (n : Slot) :
    (s.disableFan n).lines = s.lines := by
  simp [State.disableFan]

@[simp] theorem State.disableFan_line (s : State) (n : Slot) (i : LineId) :
    (s.disableFan n).line i = s.line i := by
  simp [State.line]

@[simp] theorem State.disableFan_attention (s : State) (n : Slot) :
    (s.disableFan n).attention = s.attention := by
  simp [State.disableFan]

@[simp] theorem State.disableFan_seen (s : State) (n : Slot) :
    (s.disableFan n).seen = s.seen := by
  simp [State.disableFan]

@[simp] theorem State.disableFan_rest (s : State) (n : Slot) :
    (s.disableFan n).rest = s.rest := by
  simp [State.disableFan]

/-! `decidePump` -/


@[simp] theorem State.decidePump_time (s : State) (l : LoopId) :
    (s.decidePump l).time = s.time := by
  simp only [State.decidePump]
  split <;> simp

@[simp] theorem State.decidePump_stopLow (s : State) (l : LoopId) :
    (s.decidePump l).stopLow = s.stopLow := by
  simp only [State.decidePump]
  split <;> simp

@[simp] theorem State.decidePump_resetPin (s : State) (l : LoopId) :
    (s.decidePump l).resetPin = s.resetPin := by
  simp only [State.decidePump]
  split <;> simp

@[simp] theorem State.decidePump_drive (s : State) (l : LoopId) :
    (s.decidePump l).drive = s.drive := by
  simp only [State.decidePump]
  split <;> simp

@[simp] theorem State.decidePump_sections (s : State) (l : LoopId) :
    (s.decidePump l).sections = s.sections := by
  simp only [State.decidePump]
  split <;> simp

@[simp] theorem State.decidePump_sec (s : State) (l : LoopId) (i : Slot) :
    (s.decidePump l).sec i = s.sec i := by
  simp [State.sec]

@[simp] theorem State.decidePump_fans (s : State) (l : LoopId) :
    (s.decidePump l).fans = s.fans := by
  simp only [State.decidePump]
  split <;> simp

@[simp] theorem State.decidePump_fan (s : State) (l : LoopId) (i : Slot) :
    (s.decidePump l).fan i = s.fan i := by
  simp [State.fan]

@[simp] theorem State.decidePump_loops (s : State) (l : LoopId) :
    (s.decidePump l).loops = s.loops := by
  simp only [State.decidePump]
  split <;> simp

@[simp] theorem State.decidePump_loopRec (s : State) (l : LoopId) (i : LoopId) :
    (s.decidePump l).loopRec i = s.loopRec i := by
  simp [State.loopRec]

@[simp] theorem State.decidePump_evalQueue (s : State) (l : LoopId) :
    (s.decidePump l).evalQueue = s.evalQueue := by
  simp only [State.decidePump]
  split <;> simp

@[simp] theorem State.decidePump_bindings (s : State) (l : LoopId) :
    (s.decidePump l).bindings = s.bindings := by
  simp only [State.decidePump]
  split <;> simp

@[simp] theorem State.decidePump_binding (s : State) (l : LoopId) (i : BindingId) :
    (s.decidePump l).binding i = s.binding i := by
  simp [State.binding]

@[simp] theorem State.decidePump_txQueue (s : State) (l : LoopId) :
    (s.decidePump l).txQueue = s.txQueue := by
  simp only [State.decidePump]
  split <;> simp

@[simp] theorem State.decidePump_transmission (s : State) (l : LoopId) :
    (s.decidePump l).transmission = s.transmission := by
  simp only [State.decidePump]
  split <;> simp

@[simp] theorem State.decidePump_search (s : State) (l : LoopId) :
    (s.decidePump l).search = s.search := by
  simp only [State.decidePump]
  split <;> simp

@[simp] theorem State.decidePump_lines (s : State) (l : LoopId) :
    (s.decidePump l).lines = s.lines := by
  simp only [State.decidePump]
  split <;> simp

@[simp] theorem State.decidePump_line (s : State) (l : LoopId) (i : LineId) :
    (s.decidePump l).line i = s.line i := by
  simp [State.line]

@[simp] theorem State.decidePump_attention (s : State) (l : LoopId) :
    (s.decidePump l).attention = s.attention := by
  simp only [State.decidePump]
  split <;> simp

@[simp] theorem State.decidePump_seen (s : State) (l : LoopId) :
    (s.decidePump l).seen = s.seen := by
  simp only [State.decidePump]
  split <;> simp

@[simp] theorem State.decidePump_rest (s : State) (l : LoopId) :
    (s.decidePump l).rest = s.rest := by
  simp only [State.decidePump]
  split <;> simp

/-! `decidePumps` -/


@[simp] theorem State.decidePumps_time (s : State) :
    s.decidePumps.time = s.time := by
  simp only [State.decidePumps]
  exact foldl_keeps State.time _ (by intro s a; simp) _ _

@[simp] theorem State.decidePumps_stopLow (s : State) :
    s.decidePumps.stopLow = s.stopLow := by
  simp only [State.decidePumps]
  exact foldl_keeps State.stopLow _ (by intro s a; simp) _ _

@[simp] theorem State.decidePumps_resetPin (s : State) :
    s.decidePumps.resetPin = s.resetPin := by
  simp only [State.decidePumps]
  exact foldl_keeps State.resetPin _ (by intro s a; simp) _ _

@[simp] theorem State.decidePumps_drive (s : State) :
    s.decidePumps.drive = s.drive := by
  simp only [State.decidePumps]
  exact foldl_keeps State.drive _ (by intro s a; simp) _ _

@[simp] theorem State.decidePumps_sections (s : State) :
    s.decidePumps.sections = s.sections := by
  simp only [State.decidePumps]
  exact foldl_keeps State.sections _ (by intro s a; simp) _ _

@[simp] theorem State.decidePumps_sec (s : State)  (i : Slot) :
    s.decidePumps.sec i = s.sec i := by
  simp [State.sec]

@[simp] theorem State.decidePumps_fans (s : State) :
    s.decidePumps.fans = s.fans := by
  simp only [State.decidePumps]
  exact foldl_keeps State.fans _ (by intro s a; simp) _ _

@[simp] theorem State.decidePumps_fan (s : State)  (i : Slot) :
    s.decidePumps.fan i = s.fan i := by
  simp [State.fan]

@[simp] theorem State.decidePumps_loops (s : State) :
    s.decidePumps.loops = s.loops := by
  simp only [State.decidePumps]
  exact foldl_keeps State.loops _ (by intro s a; simp) _ _

@[simp] theorem State.decidePumps_loopRec (s : State)  (i : LoopId) :
    s.decidePumps.loopRec i = s.loopRec i := by
  simp [State.loopRec]

@[simp] theorem State.decidePumps_evalQueue (s : State) :
    s.decidePumps.evalQueue = s.evalQueue := by
  simp only [State.decidePumps]
  exact foldl_keeps State.evalQueue _ (by intro s a; simp) _ _

@[simp] theorem State.decidePumps_bindings (s : State) :
    s.decidePumps.bindings = s.bindings := by
  simp only [State.decidePumps]
  exact foldl_keeps State.bindings _ (by intro s a; simp) _ _

@[simp] theorem State.decidePumps_binding (s : State)  (i : BindingId) :
    s.decidePumps.binding i = s.binding i := by
  simp [State.binding]

@[simp] theorem State.decidePumps_txQueue (s : State) :
    s.decidePumps.txQueue = s.txQueue := by
  simp only [State.decidePumps]
  exact foldl_keeps State.txQueue _ (by intro s a; simp) _ _

@[simp] theorem State.decidePumps_transmission (s : State) :
    s.decidePumps.transmission = s.transmission := by
  simp only [State.decidePumps]
  exact foldl_keeps State.transmission _ (by intro s a; simp) _ _

@[simp] theorem State.decidePumps_search (s : State) :
    s.decidePumps.search = s.search := by
  simp only [State.decidePumps]
  exact foldl_keeps State.search _ (by intro s a; simp) _ _

@[simp] theorem State.decidePumps_lines (s : State) :
    s.decidePumps.lines = s.lines := by
  simp only [State.decidePumps]
  exact foldl_keeps State.lines _ (by intro s a; simp) _ _

@[simp] theorem State.decidePumps_line (s : State)  (i : LineId) :
    s.decidePumps.line i = s.line i := by
  simp [State.line]

@[simp] theorem State.decidePumps_attention (s : State) :
    s.decidePumps.attention = s.attention := by
  simp only [State.decidePumps]
  exact foldl_keeps State.attention _ (by intro s a; simp) _ _

@[simp] theorem State.decidePumps_seen (s : State) :
    s.decidePumps.seen = s.seen := by
  simp only [State.decidePumps]
  exact foldl_keeps State.seen _ (by intro s a; simp) _ _

@[simp] theorem State.decidePumps_rest (s : State) :
    s.decidePumps.rest = s.rest := by
  simp only [State.decidePumps]
  exact foldl_keeps State.rest _ (by intro s a; simp) _ _

/-! `drain` -/


@[simp] theorem State.drain_time (s : State) (n : Slot) :
    (s.drain n).time = s.time := by
  simp only [State.drain]
  split <;> simp

@[simp] theorem State.drain_stopLow (s : State) (n : Slot) :
    (s.drain n).stopLow = s.stopLow := by
  simp only [State.drain]
  split <;> simp

@[simp] theorem State.drain_resetPin (s : State) (n : Slot) :
    (s.drain n).resetPin = s.resetPin := by
  simp only [State.drain]
  split <;> simp

@[simp] theorem State.drain_drive (s : State) (n : Slot) :
    (s.drain n).drive = s.drive := by
  simp only [State.drain]
  split <;> simp

@[simp] theorem State.drain_loops (s : State) (n : Slot) :
    (s.drain n).loops = s.loops := by
  simp only [State.drain]
  split <;> simp

@[simp] theorem State.drain_loopRec (s : State) (n : Slot) (i : LoopId) :
    (s.drain n).loopRec i = s.loopRec i := by
  simp [State.loopRec]

@[simp] theorem State.drain_pumps (s : State) (n : Slot) :
    (s.drain n).pumps = s.pumps := by
  simp only [State.drain]
  split <;> simp

@[simp] theorem State.drain_pump (s : State) (n : Slot) (i : LoopId) :
    (s.drain n).pump i = s.pump i := by
  simp [State.pump]

@[simp] theorem State.drain_evalQueue (s : State) (n : Slot) :
    (s.drain n).evalQueue = s.evalQueue := by
  simp only [State.drain]
  split <;> simp

@[simp] theorem State.drain_bindings (s : State) (n : Slot) :
    (s.drain n).bindings = s.bindings := by
  simp only [State.drain]
  split <;> simp

@[simp] theorem State.drain_binding (s : State) (n : Slot) (i : BindingId) :
    (s.drain n).binding i = s.binding i := by
  simp [State.binding]

@[simp] theorem State.drain_txQueue (s : State) (n : Slot) :
    (s.drain n).txQueue = s.txQueue := by
  simp only [State.drain]
  split <;> simp

@[simp] theorem State.drain_transmission (s : State) (n : Slot) :
    (s.drain n).transmission = s.transmission := by
  simp only [State.drain]
  split <;> simp

@[simp] theorem State.drain_search (s : State) (n : Slot) :
    (s.drain n).search = s.search := by
  simp only [State.drain]
  split <;> simp

@[simp] theorem State.drain_lines (s : State) (n : Slot) :
    (s.drain n).lines = s.lines := by
  simp only [State.drain]
  split <;> simp

@[simp] theorem State.drain_line (s : State) (n : Slot) (i : LineId) :
    (s.drain n).line i = s.line i := by
  simp [State.line]

@[simp] theorem State.drain_attention (s : State) (n : Slot) :
    (s.drain n).attention = s.attention := by
  simp only [State.drain]
  split <;> simp

@[simp] theorem State.drain_seen (s : State) (n : Slot) :
    (s.drain n).seen = s.seen := by
  simp only [State.drain]
  split <;> simp

@[simp] theorem State.drain_rest (s : State) (n : Slot) :
    (s.drain n).rest = s.rest := by
  simp only [State.drain]
  split <;> simp

/-! `checkFanDrain` -/


@[simp] theorem State.checkFanDrain_time (s : State) (n : Slot) :
    (s.checkFanDrain n).time = s.time := by
  simp only [State.checkFanDrain]
  split <;> simp

@[simp] theorem State.checkFanDrain_stopLow (s : State) (n : Slot) :
    (s.checkFanDrain n).stopLow = s.stopLow := by
  simp only [State.checkFanDrain]
  split <;> simp

@[simp] theorem State.checkFanDrain_resetPin (s : State) (n : Slot) :
    (s.checkFanDrain n).resetPin = s.resetPin := by
  simp only [State.checkFanDrain]
  split <;> simp

@[simp] theorem State.checkFanDrain_drive (s : State) (n : Slot) :
    (s.checkFanDrain n).drive = s.drive := by
  simp only [State.checkFanDrain]
  split <;> simp

@[simp] theorem State.checkFanDrain_loops (s : State) (n : Slot) :
    (s.checkFanDrain n).loops = s.loops := by
  simp only [State.checkFanDrain]
  split <;> simp

@[simp] theorem State.checkFanDrain_loopRec (s : State) (n : Slot) (i : LoopId) :
    (s.checkFanDrain n).loopRec i = s.loopRec i := by
  simp [State.loopRec]

@[simp] theorem State.checkFanDrain_pumps (s : State) (n : Slot) :
    (s.checkFanDrain n).pumps = s.pumps := by
  simp only [State.checkFanDrain]
  split <;> simp

@[simp] theorem State.checkFanDrain_pump (s : State) (n : Slot) (i : LoopId) :
    (s.checkFanDrain n).pump i = s.pump i := by
  simp [State.pump]

@[simp] theorem State.checkFanDrain_evalQueue (s : State) (n : Slot) :
    (s.checkFanDrain n).evalQueue = s.evalQueue := by
  simp only [State.checkFanDrain]
  split <;> simp

@[simp] theorem State.checkFanDrain_bindings (s : State) (n : Slot) :
    (s.checkFanDrain n).bindings = s.bindings := by
  simp only [State.checkFanDrain]
  split <;> simp

@[simp] theorem State.checkFanDrain_binding (s : State) (n : Slot) (i : BindingId) :
    (s.checkFanDrain n).binding i = s.binding i := by
  simp [State.binding]

@[simp] theorem State.checkFanDrain_txQueue (s : State) (n : Slot) :
    (s.checkFanDrain n).txQueue = s.txQueue := by
  simp only [State.checkFanDrain]
  split <;> simp

@[simp] theorem State.checkFanDrain_transmission (s : State) (n : Slot) :
    (s.checkFanDrain n).transmission = s.transmission := by
  simp only [State.checkFanDrain]
  split <;> simp

@[simp] theorem State.checkFanDrain_search (s : State) (n : Slot) :
    (s.checkFanDrain n).search = s.search := by
  simp only [State.checkFanDrain]
  split <;> simp

@[simp] theorem State.checkFanDrain_lines (s : State) (n : Slot) :
    (s.checkFanDrain n).lines = s.lines := by
  simp only [State.checkFanDrain]
  split <;> simp

@[simp] theorem State.checkFanDrain_line (s : State) (n : Slot) (i : LineId) :
    (s.checkFanDrain n).line i = s.line i := by
  simp [State.line]

@[simp] theorem State.checkFanDrain_attention (s : State) (n : Slot) :
    (s.checkFanDrain n).attention = s.attention := by
  simp only [State.checkFanDrain]
  split <;> simp

@[simp] theorem State.checkFanDrain_seen (s : State) (n : Slot) :
    (s.checkFanDrain n).seen = s.seen := by
  simp only [State.checkFanDrain]
  split <;> simp

@[simp] theorem State.checkFanDrain_rest (s : State) (n : Slot) :
    (s.checkFanDrain n).rest = s.rest := by
  simp only [State.checkFanDrain]
  split <;> simp

/-! `meetValveDrain` -/


@[simp] theorem State.meetValveDrain_time (s : State) (n : Slot) :
    (s.meetValveDrain n).time = s.time := by
  simp only [State.meetValveDrain]
  split <;> simp

@[simp] theorem State.meetValveDrain_stopLow (s : State) (n : Slot) :
    (s.meetValveDrain n).stopLow = s.stopLow := by
  simp only [State.meetValveDrain]
  split <;> simp

@[simp] theorem State.meetValveDrain_resetPin (s : State) (n : Slot) :
    (s.meetValveDrain n).resetPin = s.resetPin := by
  simp only [State.meetValveDrain]
  split <;> simp

@[simp] theorem State.meetValveDrain_drive (s : State) (n : Slot) :
    (s.meetValveDrain n).drive = s.drive := by
  simp only [State.meetValveDrain]
  split <;> simp

@[simp] theorem State.meetValveDrain_loops (s : State) (n : Slot) :
    (s.meetValveDrain n).loops = s.loops := by
  simp only [State.meetValveDrain]
  split <;> simp

@[simp] theorem State.meetValveDrain_loopRec (s : State) (n : Slot) (i : LoopId) :
    (s.meetValveDrain n).loopRec i = s.loopRec i := by
  simp [State.loopRec]

@[simp] theorem State.meetValveDrain_pumps (s : State) (n : Slot) :
    (s.meetValveDrain n).pumps = s.pumps := by
  simp only [State.meetValveDrain]
  split <;> simp

@[simp] theorem State.meetValveDrain_pump (s : State) (n : Slot) (i : LoopId) :
    (s.meetValveDrain n).pump i = s.pump i := by
  simp [State.pump]

@[simp] theorem State.meetValveDrain_evalQueue (s : State) (n : Slot) :
    (s.meetValveDrain n).evalQueue = s.evalQueue := by
  simp only [State.meetValveDrain]
  split <;> simp

@[simp] theorem State.meetValveDrain_bindings (s : State) (n : Slot) :
    (s.meetValveDrain n).bindings = s.bindings := by
  simp only [State.meetValveDrain]
  split <;> simp

@[simp] theorem State.meetValveDrain_binding (s : State) (n : Slot) (i : BindingId) :
    (s.meetValveDrain n).binding i = s.binding i := by
  simp [State.binding]

@[simp] theorem State.meetValveDrain_txQueue (s : State) (n : Slot) :
    (s.meetValveDrain n).txQueue = s.txQueue := by
  simp only [State.meetValveDrain]
  split <;> simp

@[simp] theorem State.meetValveDrain_transmission (s : State) (n : Slot) :
    (s.meetValveDrain n).transmission = s.transmission := by
  simp only [State.meetValveDrain]
  split <;> simp

@[simp] theorem State.meetValveDrain_search (s : State) (n : Slot) :
    (s.meetValveDrain n).search = s.search := by
  simp only [State.meetValveDrain]
  split <;> simp

@[simp] theorem State.meetValveDrain_lines (s : State) (n : Slot) :
    (s.meetValveDrain n).lines = s.lines := by
  simp only [State.meetValveDrain]
  split <;> simp

@[simp] theorem State.meetValveDrain_line (s : State) (n : Slot) (i : LineId) :
    (s.meetValveDrain n).line i = s.line i := by
  simp [State.line]

@[simp] theorem State.meetValveDrain_attention (s : State) (n : Slot) :
    (s.meetValveDrain n).attention = s.attention := by
  simp only [State.meetValveDrain]
  split <;> simp

@[simp] theorem State.meetValveDrain_seen (s : State) (n : Slot) :
    (s.meetValveDrain n).seen = s.seen := by
  simp only [State.meetValveDrain]
  split <;> simp

@[simp] theorem State.meetValveDrain_rest (s : State) (n : Slot) :
    (s.meetValveDrain n).rest = s.rest := by
  simp only [State.meetValveDrain]
  split <;> simp

/-! `evalLine` -/


@[simp] theorem State.evalLine_time (s : State) (k : LineId) :
    (s.evalLine k).time = s.time := by
  simp [State.evalLine]

@[simp] theorem State.evalLine_stopLow (s : State) (k : LineId) :
    (s.evalLine k).stopLow = s.stopLow := by
  simp [State.evalLine]

@[simp] theorem State.evalLine_resetPin (s : State) (k : LineId) :
    (s.evalLine k).resetPin = s.resetPin := by
  simp [State.evalLine]

@[simp] theorem State.evalLine_drive (s : State) (k : LineId) :
    (s.evalLine k).drive = s.drive := by
  simp [State.evalLine]

@[simp] theorem State.evalLine_sections (s : State) (k : LineId) :
    (s.evalLine k).sections = s.sections := by
  simp [State.evalLine]

@[simp] theorem State.evalLine_sec (s : State) (k : LineId) (i : Slot) :
    (s.evalLine k).sec i = s.sec i := by
  simp [State.sec]

@[simp] theorem State.evalLine_fans (s : State) (k : LineId) :
    (s.evalLine k).fans = s.fans := by
  simp [State.evalLine]

@[simp] theorem State.evalLine_fan (s : State) (k : LineId) (i : Slot) :
    (s.evalLine k).fan i = s.fan i := by
  simp [State.fan]

@[simp] theorem State.evalLine_loops (s : State) (k : LineId) :
    (s.evalLine k).loops = s.loops := by
  simp [State.evalLine]

@[simp] theorem State.evalLine_loopRec (s : State) (k : LineId) (i : LoopId) :
    (s.evalLine k).loopRec i = s.loopRec i := by
  simp [State.loopRec]

@[simp] theorem State.evalLine_pumps (s : State) (k : LineId) :
    (s.evalLine k).pumps = s.pumps := by
  simp [State.evalLine]

@[simp] theorem State.evalLine_pump (s : State) (k : LineId) (i : LoopId) :
    (s.evalLine k).pump i = s.pump i := by
  simp [State.pump]

@[simp] theorem State.evalLine_evalQueue (s : State) (k : LineId) :
    (s.evalLine k).evalQueue = s.evalQueue := by
  simp [State.evalLine]

@[simp] theorem State.evalLine_bindings (s : State) (k : LineId) :
    (s.evalLine k).bindings = s.bindings := by
  simp [State.evalLine]

@[simp] theorem State.evalLine_binding (s : State) (k : LineId) (i : BindingId) :
    (s.evalLine k).binding i = s.binding i := by
  simp [State.binding]

@[simp] theorem State.evalLine_txQueue (s : State) (k : LineId) :
    (s.evalLine k).txQueue = s.txQueue := by
  simp [State.evalLine]

@[simp] theorem State.evalLine_transmission (s : State) (k : LineId) :
    (s.evalLine k).transmission = s.transmission := by
  simp [State.evalLine]

@[simp] theorem State.evalLine_search (s : State) (k : LineId) :
    (s.evalLine k).search = s.search := by
  simp [State.evalLine]

@[simp] theorem State.evalLine_attention (s : State) (k : LineId) :
    (s.evalLine k).attention = s.attention := by
  simp [State.evalLine]

@[simp] theorem State.evalLine_seen (s : State) (k : LineId) :
    (s.evalLine k).seen = s.seen := by
  simp [State.evalLine]

@[simp] theorem State.evalLine_rest (s : State) (k : LineId) :
    (s.evalLine k).rest = s.rest := by
  simp [State.evalLine]

/-! `evalLines` -/


@[simp] theorem State.evalLines_time (s : State) (n : Slot) :
    (s.evalLines n).time = s.time := by
  simp only [State.evalLines]
  exact foldl_keeps State.time _ (by intro s a; split <;> simp) _ _

@[simp] theorem State.evalLines_stopLow (s : State) (n : Slot) :
    (s.evalLines n).stopLow = s.stopLow := by
  simp only [State.evalLines]
  exact foldl_keeps State.stopLow _ (by intro s a; split <;> simp) _ _

@[simp] theorem State.evalLines_resetPin (s : State) (n : Slot) :
    (s.evalLines n).resetPin = s.resetPin := by
  simp only [State.evalLines]
  exact foldl_keeps State.resetPin _ (by intro s a; split <;> simp) _ _

@[simp] theorem State.evalLines_drive (s : State) (n : Slot) :
    (s.evalLines n).drive = s.drive := by
  simp only [State.evalLines]
  exact foldl_keeps State.drive _ (by intro s a; split <;> simp) _ _

@[simp] theorem State.evalLines_sections (s : State) (n : Slot) :
    (s.evalLines n).sections = s.sections := by
  simp only [State.evalLines]
  exact foldl_keeps State.sections _ (by intro s a; split <;> simp) _ _

@[simp] theorem State.evalLines_sec (s : State) (n : Slot) (i : Slot) :
    (s.evalLines n).sec i = s.sec i := by
  simp [State.sec]

@[simp] theorem State.evalLines_fans (s : State) (n : Slot) :
    (s.evalLines n).fans = s.fans := by
  simp only [State.evalLines]
  exact foldl_keeps State.fans _ (by intro s a; split <;> simp) _ _

@[simp] theorem State.evalLines_fan (s : State) (n : Slot) (i : Slot) :
    (s.evalLines n).fan i = s.fan i := by
  simp [State.fan]

@[simp] theorem State.evalLines_loops (s : State) (n : Slot) :
    (s.evalLines n).loops = s.loops := by
  simp only [State.evalLines]
  exact foldl_keeps State.loops _ (by intro s a; split <;> simp) _ _

@[simp] theorem State.evalLines_loopRec (s : State) (n : Slot) (i : LoopId) :
    (s.evalLines n).loopRec i = s.loopRec i := by
  simp [State.loopRec]

@[simp] theorem State.evalLines_pumps (s : State) (n : Slot) :
    (s.evalLines n).pumps = s.pumps := by
  simp only [State.evalLines]
  exact foldl_keeps State.pumps _ (by intro s a; split <;> simp) _ _

@[simp] theorem State.evalLines_pump (s : State) (n : Slot) (i : LoopId) :
    (s.evalLines n).pump i = s.pump i := by
  simp [State.pump]

@[simp] theorem State.evalLines_evalQueue (s : State) (n : Slot) :
    (s.evalLines n).evalQueue = s.evalQueue := by
  simp only [State.evalLines]
  exact foldl_keeps State.evalQueue _ (by intro s a; split <;> simp) _ _

@[simp] theorem State.evalLines_bindings (s : State) (n : Slot) :
    (s.evalLines n).bindings = s.bindings := by
  simp only [State.evalLines]
  exact foldl_keeps State.bindings _ (by intro s a; split <;> simp) _ _

@[simp] theorem State.evalLines_binding (s : State) (n : Slot) (i : BindingId) :
    (s.evalLines n).binding i = s.binding i := by
  simp [State.binding]

@[simp] theorem State.evalLines_txQueue (s : State) (n : Slot) :
    (s.evalLines n).txQueue = s.txQueue := by
  simp only [State.evalLines]
  exact foldl_keeps State.txQueue _ (by intro s a; split <;> simp) _ _

@[simp] theorem State.evalLines_transmission (s : State) (n : Slot) :
    (s.evalLines n).transmission = s.transmission := by
  simp only [State.evalLines]
  exact foldl_keeps State.transmission _ (by intro s a; split <;> simp) _ _

@[simp] theorem State.evalLines_search (s : State) (n : Slot) :
    (s.evalLines n).search = s.search := by
  simp only [State.evalLines]
  exact foldl_keeps State.search _ (by intro s a; split <;> simp) _ _

@[simp] theorem State.evalLines_attention (s : State) (n : Slot) :
    (s.evalLines n).attention = s.attention := by
  simp only [State.evalLines]
  exact foldl_keeps State.attention _ (by intro s a; split <;> simp) _ _

@[simp] theorem State.evalLines_seen (s : State) (n : Slot) :
    (s.evalLines n).seen = s.seen := by
  simp only [State.evalLines]
  exact foldl_keeps State.seen _ (by intro s a; split <;> simp) _ _

@[simp] theorem State.evalLines_rest (s : State) (n : Slot) :
    (s.evalLines n).rest = s.rest := by
  simp only [State.evalLines]
  exact foldl_keeps State.rest _ (by intro s a; split <;> simp) _ _

/-! `evalLinesOf` -/


@[simp] theorem State.evalLinesOf_time (s : State) (d : DestField) :
    (s.evalLinesOf d).time = s.time := by
  simp only [State.evalLinesOf]
  split <;> simp

@[simp] theorem State.evalLinesOf_stopLow (s : State) (d : DestField) :
    (s.evalLinesOf d).stopLow = s.stopLow := by
  simp only [State.evalLinesOf]
  split <;> simp

@[simp] theorem State.evalLinesOf_resetPin (s : State) (d : DestField) :
    (s.evalLinesOf d).resetPin = s.resetPin := by
  simp only [State.evalLinesOf]
  split <;> simp

@[simp] theorem State.evalLinesOf_drive (s : State) (d : DestField) :
    (s.evalLinesOf d).drive = s.drive := by
  simp only [State.evalLinesOf]
  split <;> simp

@[simp] theorem State.evalLinesOf_sections (s : State) (d : DestField) :
    (s.evalLinesOf d).sections = s.sections := by
  simp only [State.evalLinesOf]
  split <;> simp

@[simp] theorem State.evalLinesOf_sec (s : State) (d : DestField) (i : Slot) :
    (s.evalLinesOf d).sec i = s.sec i := by
  simp [State.sec]

@[simp] theorem State.evalLinesOf_fans (s : State) (d : DestField) :
    (s.evalLinesOf d).fans = s.fans := by
  simp only [State.evalLinesOf]
  split <;> simp

@[simp] theorem State.evalLinesOf_fan (s : State) (d : DestField) (i : Slot) :
    (s.evalLinesOf d).fan i = s.fan i := by
  simp [State.fan]

@[simp] theorem State.evalLinesOf_loops (s : State) (d : DestField) :
    (s.evalLinesOf d).loops = s.loops := by
  simp only [State.evalLinesOf]
  split <;> simp

@[simp] theorem State.evalLinesOf_loopRec (s : State) (d : DestField) (i : LoopId) :
    (s.evalLinesOf d).loopRec i = s.loopRec i := by
  simp [State.loopRec]

@[simp] theorem State.evalLinesOf_pumps (s : State) (d : DestField) :
    (s.evalLinesOf d).pumps = s.pumps := by
  simp only [State.evalLinesOf]
  split <;> simp

@[simp] theorem State.evalLinesOf_pump (s : State) (d : DestField) (i : LoopId) :
    (s.evalLinesOf d).pump i = s.pump i := by
  simp [State.pump]

@[simp] theorem State.evalLinesOf_evalQueue (s : State) (d : DestField) :
    (s.evalLinesOf d).evalQueue = s.evalQueue := by
  simp only [State.evalLinesOf]
  split <;> simp

@[simp] theorem State.evalLinesOf_bindings (s : State) (d : DestField) :
    (s.evalLinesOf d).bindings = s.bindings := by
  simp only [State.evalLinesOf]
  split <;> simp

@[simp] theorem State.evalLinesOf_binding (s : State) (d : DestField) (i : BindingId) :
    (s.evalLinesOf d).binding i = s.binding i := by
  simp [State.binding]

@[simp] theorem State.evalLinesOf_txQueue (s : State) (d : DestField) :
    (s.evalLinesOf d).txQueue = s.txQueue := by
  simp only [State.evalLinesOf]
  split <;> simp

@[simp] theorem State.evalLinesOf_transmission (s : State) (d : DestField) :
    (s.evalLinesOf d).transmission = s.transmission := by
  simp only [State.evalLinesOf]
  split <;> simp

@[simp] theorem State.evalLinesOf_search (s : State) (d : DestField) :
    (s.evalLinesOf d).search = s.search := by
  simp only [State.evalLinesOf]
  split <;> simp

@[simp] theorem State.evalLinesOf_attention (s : State) (d : DestField) :
    (s.evalLinesOf d).attention = s.attention := by
  simp only [State.evalLinesOf]
  split <;> simp

@[simp] theorem State.evalLinesOf_seen (s : State) (d : DestField) :
    (s.evalLinesOf d).seen = s.seen := by
  simp only [State.evalLinesOf]
  split <;> simp

@[simp] theorem State.evalLinesOf_rest (s : State) (d : DestField) :
    (s.evalLinesOf d).rest = s.rest := by
  simp only [State.evalLinesOf]
  split <;> simp

/-! `leaveMasks` -/


@[simp] theorem State.leaveMasks_time (s : State) (n : Slot) :
    (s.leaveMasks n).time = s.time := by
  simp only [State.leaveMasks]
  exact foldl_keeps State.time _ (by intro s a; split <;> simp) _ _

@[simp] theorem State.leaveMasks_stopLow (s : State) (n : Slot) :
    (s.leaveMasks n).stopLow = s.stopLow := by
  simp only [State.leaveMasks]
  exact foldl_keeps State.stopLow _ (by intro s a; split <;> simp) _ _

@[simp] theorem State.leaveMasks_resetPin (s : State) (n : Slot) :
    (s.leaveMasks n).resetPin = s.resetPin := by
  simp only [State.leaveMasks]
  exact foldl_keeps State.resetPin _ (by intro s a; split <;> simp) _ _

@[simp] theorem State.leaveMasks_drive (s : State) (n : Slot) :
    (s.leaveMasks n).drive = s.drive := by
  simp only [State.leaveMasks]
  exact foldl_keeps State.drive _ (by intro s a; split <;> simp) _ _

@[simp] theorem State.leaveMasks_sections (s : State) (n : Slot) :
    (s.leaveMasks n).sections = s.sections := by
  simp only [State.leaveMasks]
  exact foldl_keeps State.sections _ (by intro s a; split <;> simp) _ _

@[simp] theorem State.leaveMasks_sec (s : State) (n : Slot) (i : Slot) :
    (s.leaveMasks n).sec i = s.sec i := by
  simp [State.sec]

@[simp] theorem State.leaveMasks_fans (s : State) (n : Slot) :
    (s.leaveMasks n).fans = s.fans := by
  simp only [State.leaveMasks]
  exact foldl_keeps State.fans _ (by intro s a; split <;> simp) _ _

@[simp] theorem State.leaveMasks_fan (s : State) (n : Slot) (i : Slot) :
    (s.leaveMasks n).fan i = s.fan i := by
  simp [State.fan]

@[simp] theorem State.leaveMasks_loops (s : State) (n : Slot) :
    (s.leaveMasks n).loops = s.loops := by
  simp only [State.leaveMasks]
  exact foldl_keeps State.loops _ (by intro s a; split <;> simp) _ _

@[simp] theorem State.leaveMasks_loopRec (s : State) (n : Slot) (i : LoopId) :
    (s.leaveMasks n).loopRec i = s.loopRec i := by
  simp [State.loopRec]

@[simp] theorem State.leaveMasks_pumps (s : State) (n : Slot) :
    (s.leaveMasks n).pumps = s.pumps := by
  simp only [State.leaveMasks]
  exact foldl_keeps State.pumps _ (by intro s a; split <;> simp) _ _

@[simp] theorem State.leaveMasks_pump (s : State) (n : Slot) (i : LoopId) :
    (s.leaveMasks n).pump i = s.pump i := by
  simp [State.pump]

@[simp] theorem State.leaveMasks_evalQueue (s : State) (n : Slot) :
    (s.leaveMasks n).evalQueue = s.evalQueue := by
  simp only [State.leaveMasks]
  exact foldl_keeps State.evalQueue _ (by intro s a; split <;> simp) _ _

@[simp] theorem State.leaveMasks_bindings (s : State) (n : Slot) :
    (s.leaveMasks n).bindings = s.bindings := by
  simp only [State.leaveMasks]
  exact foldl_keeps State.bindings _ (by intro s a; split <;> simp) _ _

@[simp] theorem State.leaveMasks_binding (s : State) (n : Slot) (i : BindingId) :
    (s.leaveMasks n).binding i = s.binding i := by
  simp [State.binding]

@[simp] theorem State.leaveMasks_txQueue (s : State) (n : Slot) :
    (s.leaveMasks n).txQueue = s.txQueue := by
  simp only [State.leaveMasks]
  exact foldl_keeps State.txQueue _ (by intro s a; split <;> simp) _ _

@[simp] theorem State.leaveMasks_transmission (s : State) (n : Slot) :
    (s.leaveMasks n).transmission = s.transmission := by
  simp only [State.leaveMasks]
  exact foldl_keeps State.transmission _ (by intro s a; split <;> simp) _ _

@[simp] theorem State.leaveMasks_search (s : State) (n : Slot) :
    (s.leaveMasks n).search = s.search := by
  simp only [State.leaveMasks]
  exact foldl_keeps State.search _ (by intro s a; split <;> simp) _ _

@[simp] theorem State.leaveMasks_attention (s : State) (n : Slot) :
    (s.leaveMasks n).attention = s.attention := by
  simp only [State.leaveMasks]
  exact foldl_keeps State.attention _ (by intro s a; split <;> simp) _ _

@[simp] theorem State.leaveMasks_seen (s : State) (n : Slot) :
    (s.leaveMasks n).seen = s.seen := by
  simp only [State.leaveMasks]
  exact foldl_keeps State.seen _ (by intro s a; split <;> simp) _ _

@[simp] theorem State.leaveMasks_rest (s : State) (n : Slot) :
    (s.leaveMasks n).rest = s.rest := by
  simp only [State.leaveMasks]
  exact foldl_keeps State.rest _ (by intro s a; split <;> simp) _ _

/-! `postAll` -/


@[simp] theorem State.postAll_time (s : State) (k : CauseKind) (l : List Slot) :
    (s.postAll k l).time = s.time := by
  simp only [State.postAll]
  exact foldl_keeps State.time _ (by intro s a; simp) _ _

@[simp] theorem State.postAll_stopLow (s : State) (k : CauseKind) (l : List Slot) :
    (s.postAll k l).stopLow = s.stopLow := by
  simp only [State.postAll]
  exact foldl_keeps State.stopLow _ (by intro s a; simp) _ _

@[simp] theorem State.postAll_resetPin (s : State) (k : CauseKind) (l : List Slot) :
    (s.postAll k l).resetPin = s.resetPin := by
  simp only [State.postAll]
  exact foldl_keeps State.resetPin _ (by intro s a; simp) _ _

@[simp] theorem State.postAll_drive (s : State) (k : CauseKind) (l : List Slot) :
    (s.postAll k l).drive = s.drive := by
  simp only [State.postAll]
  exact foldl_keeps State.drive _ (by intro s a; simp) _ _

@[simp] theorem State.postAll_sections (s : State) (k : CauseKind) (l : List Slot) :
    (s.postAll k l).sections = s.sections := by
  simp only [State.postAll]
  exact foldl_keeps State.sections _ (by intro s a; simp) _ _

@[simp] theorem State.postAll_sec (s : State) (k : CauseKind) (l : List Slot) (i : Slot) :
    (s.postAll k l).sec i = s.sec i := by
  simp [State.sec]

@[simp] theorem State.postAll_fans (s : State) (k : CauseKind) (l : List Slot) :
    (s.postAll k l).fans = s.fans := by
  simp only [State.postAll]
  exact foldl_keeps State.fans _ (by intro s a; simp) _ _

@[simp] theorem State.postAll_fan (s : State) (k : CauseKind) (l : List Slot) (i : Slot) :
    (s.postAll k l).fan i = s.fan i := by
  simp [State.fan]

@[simp] theorem State.postAll_loops (s : State) (k : CauseKind) (l : List Slot) :
    (s.postAll k l).loops = s.loops := by
  simp only [State.postAll]
  exact foldl_keeps State.loops _ (by intro s a; simp) _ _

@[simp] theorem State.postAll_loopRec (s : State) (k : CauseKind) (l : List Slot) (i : LoopId) :
    (s.postAll k l).loopRec i = s.loopRec i := by
  simp [State.loopRec]

@[simp] theorem State.postAll_pumps (s : State) (k : CauseKind) (l : List Slot) :
    (s.postAll k l).pumps = s.pumps := by
  simp only [State.postAll]
  exact foldl_keeps State.pumps _ (by intro s a; simp) _ _

@[simp] theorem State.postAll_pump (s : State) (k : CauseKind) (l : List Slot) (i : LoopId) :
    (s.postAll k l).pump i = s.pump i := by
  simp [State.pump]

@[simp] theorem State.postAll_evalQueue (s : State) (k : CauseKind) (l : List Slot) :
    (s.postAll k l).evalQueue = s.evalQueue := by
  simp only [State.postAll]
  exact foldl_keeps State.evalQueue _ (by intro s a; simp) _ _

@[simp] theorem State.postAll_bindings (s : State) (k : CauseKind) (l : List Slot) :
    (s.postAll k l).bindings = s.bindings := by
  simp only [State.postAll]
  exact foldl_keeps State.bindings _ (by intro s a; simp) _ _

@[simp] theorem State.postAll_binding (s : State) (k : CauseKind) (l : List Slot) (i : BindingId) :
    (s.postAll k l).binding i = s.binding i := by
  simp [State.binding]

@[simp] theorem State.postAll_txQueue (s : State) (k : CauseKind) (l : List Slot) :
    (s.postAll k l).txQueue = s.txQueue := by
  simp only [State.postAll]
  exact foldl_keeps State.txQueue _ (by intro s a; simp) _ _

@[simp] theorem State.postAll_transmission (s : State) (k : CauseKind) (l : List Slot) :
    (s.postAll k l).transmission = s.transmission := by
  simp only [State.postAll]
  exact foldl_keeps State.transmission _ (by intro s a; simp) _ _

@[simp] theorem State.postAll_search (s : State) (k : CauseKind) (l : List Slot) :
    (s.postAll k l).search = s.search := by
  simp only [State.postAll]
  exact foldl_keeps State.search _ (by intro s a; simp) _ _

@[simp] theorem State.postAll_lines (s : State) (k : CauseKind) (l : List Slot) :
    (s.postAll k l).lines = s.lines := by
  simp only [State.postAll]
  exact foldl_keeps State.lines _ (by intro s a; simp) _ _

@[simp] theorem State.postAll_line (s : State) (k : CauseKind) (l : List Slot) (i : LineId) :
    (s.postAll k l).line i = s.line i := by
  simp [State.line]

@[simp] theorem State.postAll_seen (s : State) (k : CauseKind) (l : List Slot) :
    (s.postAll k l).seen = s.seen := by
  simp only [State.postAll]
  exact foldl_keeps State.seen _ (by intro s a; simp) _ _

@[simp] theorem State.postAll_rest (s : State) (k : CauseKind) (l : List Slot) :
    (s.postAll k l).rest = s.rest := by
  simp only [State.postAll]
  exact foldl_keeps State.rest _ (by intro s a; simp) _ _

/-! `beginWindow` -/


@[simp] theorem State.beginWindow_time (s : State) (l : LoopId) :
    (s.beginWindow l).time = s.time := by
  simp [State.beginWindow]

@[simp] theorem State.beginWindow_stopLow (s : State) (l : LoopId) :
    (s.beginWindow l).stopLow = s.stopLow := by
  simp [State.beginWindow]

@[simp] theorem State.beginWindow_resetPin (s : State) (l : LoopId) :
    (s.beginWindow l).resetPin = s.resetPin := by
  simp [State.beginWindow]

@[simp] theorem State.beginWindow_drive (s : State) (l : LoopId) :
    (s.beginWindow l).drive = s.drive := by
  simp [State.beginWindow]

@[simp] theorem State.beginWindow_sections (s : State) (l : LoopId) :
    (s.beginWindow l).sections = s.sections := by
  simp [State.beginWindow]

@[simp] theorem State.beginWindow_sec (s : State) (l : LoopId) (i : Slot) :
    (s.beginWindow l).sec i = s.sec i := by
  simp [State.sec]

@[simp] theorem State.beginWindow_fans (s : State) (l : LoopId) :
    (s.beginWindow l).fans = s.fans := by
  simp [State.beginWindow]

@[simp] theorem State.beginWindow_fan (s : State) (l : LoopId) (i : Slot) :
    (s.beginWindow l).fan i = s.fan i := by
  simp [State.fan]

@[simp] theorem State.beginWindow_pumps (s : State) (l : LoopId) :
    (s.beginWindow l).pumps = s.pumps := by
  simp [State.beginWindow]

@[simp] theorem State.beginWindow_pump (s : State) (l : LoopId) (i : LoopId) :
    (s.beginWindow l).pump i = s.pump i := by
  simp [State.pump]

@[simp] theorem State.beginWindow_evalQueue (s : State) (l : LoopId) :
    (s.beginWindow l).evalQueue = s.evalQueue := by
  simp [State.beginWindow]

@[simp] theorem State.beginWindow_bindings (s : State) (l : LoopId) :
    (s.beginWindow l).bindings = s.bindings := by
  simp [State.beginWindow]

@[simp] theorem State.beginWindow_binding (s : State) (l : LoopId) (i : BindingId) :
    (s.beginWindow l).binding i = s.binding i := by
  simp [State.binding]

@[simp] theorem State.beginWindow_txQueue (s : State) (l : LoopId) :
    (s.beginWindow l).txQueue = s.txQueue := by
  simp [State.beginWindow]

@[simp] theorem State.beginWindow_transmission (s : State) (l : LoopId) :
    (s.beginWindow l).transmission = s.transmission := by
  simp [State.beginWindow]

@[simp] theorem State.beginWindow_search (s : State) (l : LoopId) :
    (s.beginWindow l).search = s.search := by
  simp [State.beginWindow]

@[simp] theorem State.beginWindow_lines (s : State) (l : LoopId) :
    (s.beginWindow l).lines = s.lines := by
  simp [State.beginWindow]

@[simp] theorem State.beginWindow_line (s : State) (l : LoopId) (i : LineId) :
    (s.beginWindow l).line i = s.line i := by
  simp [State.line]

@[simp] theorem State.beginWindow_attention (s : State) (l : LoopId) :
    (s.beginWindow l).attention = s.attention := by
  simp [State.beginWindow]

@[simp] theorem State.beginWindow_seen (s : State) (l : LoopId) :
    (s.beginWindow l).seen = s.seen := by
  simp [State.beginWindow]

@[simp] theorem State.beginWindow_rest (s : State) (l : LoopId) :
    (s.beginWindow l).rest = s.rest := by
  simp [State.beginWindow]

/-! `abandonWindow` -/


@[simp] theorem State.abandonWindow_time (s : State) (l : LoopId) :
    (s.abandonWindow l).time = s.time := by
  simp [State.abandonWindow]

@[simp] theorem State.abandonWindow_stopLow (s : State) (l : LoopId) :
    (s.abandonWindow l).stopLow = s.stopLow := by
  simp [State.abandonWindow]

@[simp] theorem State.abandonWindow_resetPin (s : State) (l : LoopId) :
    (s.abandonWindow l).resetPin = s.resetPin := by
  simp [State.abandonWindow]

@[simp] theorem State.abandonWindow_drive (s : State) (l : LoopId) :
    (s.abandonWindow l).drive = s.drive := by
  simp [State.abandonWindow]

@[simp] theorem State.abandonWindow_sections (s : State) (l : LoopId) :
    (s.abandonWindow l).sections = s.sections := by
  simp [State.abandonWindow]

@[simp] theorem State.abandonWindow_sec (s : State) (l : LoopId) (i : Slot) :
    (s.abandonWindow l).sec i = s.sec i := by
  simp [State.sec]

@[simp] theorem State.abandonWindow_fans (s : State) (l : LoopId) :
    (s.abandonWindow l).fans = s.fans := by
  simp [State.abandonWindow]

@[simp] theorem State.abandonWindow_fan (s : State) (l : LoopId) (i : Slot) :
    (s.abandonWindow l).fan i = s.fan i := by
  simp [State.fan]

@[simp] theorem State.abandonWindow_pumps (s : State) (l : LoopId) :
    (s.abandonWindow l).pumps = s.pumps := by
  simp [State.abandonWindow]

@[simp] theorem State.abandonWindow_pump (s : State) (l : LoopId) (i : LoopId) :
    (s.abandonWindow l).pump i = s.pump i := by
  simp [State.pump]

@[simp] theorem State.abandonWindow_evalQueue (s : State) (l : LoopId) :
    (s.abandonWindow l).evalQueue = s.evalQueue := by
  simp [State.abandonWindow]

@[simp] theorem State.abandonWindow_bindings (s : State) (l : LoopId) :
    (s.abandonWindow l).bindings = s.bindings := by
  simp [State.abandonWindow]

@[simp] theorem State.abandonWindow_binding (s : State) (l : LoopId) (i : BindingId) :
    (s.abandonWindow l).binding i = s.binding i := by
  simp [State.binding]

@[simp] theorem State.abandonWindow_txQueue (s : State) (l : LoopId) :
    (s.abandonWindow l).txQueue = s.txQueue := by
  simp [State.abandonWindow]

@[simp] theorem State.abandonWindow_transmission (s : State) (l : LoopId) :
    (s.abandonWindow l).transmission = s.transmission := by
  simp [State.abandonWindow]

@[simp] theorem State.abandonWindow_search (s : State) (l : LoopId) :
    (s.abandonWindow l).search = s.search := by
  simp [State.abandonWindow]

@[simp] theorem State.abandonWindow_lines (s : State) (l : LoopId) :
    (s.abandonWindow l).lines = s.lines := by
  simp [State.abandonWindow]

@[simp] theorem State.abandonWindow_line (s : State) (l : LoopId) (i : LineId) :
    (s.abandonWindow l).line i = s.line i := by
  simp [State.line]

@[simp] theorem State.abandonWindow_attention (s : State) (l : LoopId) :
    (s.abandonWindow l).attention = s.attention := by
  simp [State.abandonWindow]

@[simp] theorem State.abandonWindow_seen (s : State) (l : LoopId) :
    (s.abandonWindow l).seen = s.seen := by
  simp [State.abandonWindow]

@[simp] theorem State.abandonWindow_rest (s : State) (l : LoopId) :
    (s.abandonWindow l).rest = s.rest := by
  simp [State.abandonWindow]

/-! `resumeMonitor` -/


@[simp] theorem State.resumeMonitor_time (s : State) :
    s.resumeMonitor.time = s.time := by
  simp only [State.resumeMonitor]
  split <;> simp

@[simp] theorem State.resumeMonitor_stopLow (s : State) :
    s.resumeMonitor.stopLow = s.stopLow := by
  simp only [State.resumeMonitor]
  split <;> simp

@[simp] theorem State.resumeMonitor_resetPin (s : State) :
    s.resumeMonitor.resetPin = s.resetPin := by
  simp only [State.resumeMonitor]
  split <;> simp

@[simp] theorem State.resumeMonitor_drive (s : State) :
    s.resumeMonitor.drive = s.drive := by
  simp only [State.resumeMonitor]
  split <;> simp

@[simp] theorem State.resumeMonitor_sections (s : State) :
    s.resumeMonitor.sections = s.sections := by
  simp only [State.resumeMonitor]
  split <;> simp

@[simp] theorem State.resumeMonitor_sec (s : State)  (i : Slot) :
    s.resumeMonitor.sec i = s.sec i := by
  simp [State.sec]

@[simp] theorem State.resumeMonitor_fans (s : State) :
    s.resumeMonitor.fans = s.fans := by
  simp only [State.resumeMonitor]
  split <;> simp

@[simp] theorem State.resumeMonitor_fan (s : State)  (i : Slot) :
    s.resumeMonitor.fan i = s.fan i := by
  simp [State.fan]

@[simp] theorem State.resumeMonitor_pumps (s : State) :
    s.resumeMonitor.pumps = s.pumps := by
  simp only [State.resumeMonitor]
  split <;> simp

@[simp] theorem State.resumeMonitor_pump (s : State)  (i : LoopId) :
    s.resumeMonitor.pump i = s.pump i := by
  simp [State.pump]

@[simp] theorem State.resumeMonitor_evalQueue (s : State) :
    s.resumeMonitor.evalQueue = s.evalQueue := by
  simp only [State.resumeMonitor]
  split <;> simp

@[simp] theorem State.resumeMonitor_bindings (s : State) :
    s.resumeMonitor.bindings = s.bindings := by
  simp only [State.resumeMonitor]
  split <;> simp

@[simp] theorem State.resumeMonitor_binding (s : State)  (i : BindingId) :
    s.resumeMonitor.binding i = s.binding i := by
  simp [State.binding]

@[simp] theorem State.resumeMonitor_txQueue (s : State) :
    s.resumeMonitor.txQueue = s.txQueue := by
  simp only [State.resumeMonitor]
  split <;> simp

@[simp] theorem State.resumeMonitor_transmission (s : State) :
    s.resumeMonitor.transmission = s.transmission := by
  simp only [State.resumeMonitor]
  split <;> simp

@[simp] theorem State.resumeMonitor_search (s : State) :
    s.resumeMonitor.search = s.search := by
  simp only [State.resumeMonitor]
  split <;> simp

@[simp] theorem State.resumeMonitor_lines (s : State) :
    s.resumeMonitor.lines = s.lines := by
  simp only [State.resumeMonitor]
  split <;> simp

@[simp] theorem State.resumeMonitor_line (s : State)  (i : LineId) :
    s.resumeMonitor.line i = s.line i := by
  simp [State.line]

@[simp] theorem State.resumeMonitor_attention (s : State) :
    s.resumeMonitor.attention = s.attention := by
  simp only [State.resumeMonitor]
  split <;> simp

@[simp] theorem State.resumeMonitor_seen (s : State) :
    s.resumeMonitor.seen = s.seen := by
  simp only [State.resumeMonitor]
  split <;> simp

@[simp] theorem State.resumeMonitor_rest (s : State) :
    s.resumeMonitor.rest = s.rest := by
  simp only [State.resumeMonitor]
  split <;> simp

/-! `setMark` -/


@[simp] theorem State.setMark_time (s : State) (m : Mark) (n : Slot) :
    (s.setMark m n).time = s.time := by
  simp only [State.setMark]
  split <;> simp

@[simp] theorem State.setMark_stopLow (s : State) (m : Mark) (n : Slot) :
    (s.setMark m n).stopLow = s.stopLow := by
  simp only [State.setMark]
  split <;> simp

@[simp] theorem State.setMark_resetPin (s : State) (m : Mark) (n : Slot) :
    (s.setMark m n).resetPin = s.resetPin := by
  simp only [State.setMark]
  split <;> simp

@[simp] theorem State.setMark_drive (s : State) (m : Mark) (n : Slot) :
    (s.setMark m n).drive = s.drive := by
  simp only [State.setMark]
  split <;> simp

@[simp] theorem State.setMark_loops (s : State) (m : Mark) (n : Slot) :
    (s.setMark m n).loops = s.loops := by
  simp only [State.setMark]
  split <;> simp

@[simp] theorem State.setMark_loopRec (s : State) (m : Mark) (n : Slot) (i : LoopId) :
    (s.setMark m n).loopRec i = s.loopRec i := by
  simp [State.loopRec]

@[simp] theorem State.setMark_pumps (s : State) (m : Mark) (n : Slot) :
    (s.setMark m n).pumps = s.pumps := by
  simp only [State.setMark]
  split <;> simp

@[simp] theorem State.setMark_pump (s : State) (m : Mark) (n : Slot) (i : LoopId) :
    (s.setMark m n).pump i = s.pump i := by
  simp [State.pump]

@[simp] theorem State.setMark_evalQueue (s : State) (m : Mark) (n : Slot) :
    (s.setMark m n).evalQueue = s.evalQueue := by
  simp only [State.setMark]
  split <;> simp

@[simp] theorem State.setMark_bindings (s : State) (m : Mark) (n : Slot) :
    (s.setMark m n).bindings = s.bindings := by
  simp only [State.setMark]
  split <;> simp

@[simp] theorem State.setMark_binding (s : State) (m : Mark) (n : Slot) (i : BindingId) :
    (s.setMark m n).binding i = s.binding i := by
  simp [State.binding]

@[simp] theorem State.setMark_transmission (s : State) (m : Mark) (n : Slot) :
    (s.setMark m n).transmission = s.transmission := by
  simp only [State.setMark]
  split <;> simp

@[simp] theorem State.setMark_search (s : State) (m : Mark) (n : Slot) :
    (s.setMark m n).search = s.search := by
  simp only [State.setMark]
  split <;> simp

@[simp] theorem State.setMark_attention (s : State) (m : Mark) (n : Slot) :
    (s.setMark m n).attention = s.attention := by
  simp only [State.setMark]
  split <;> simp

@[simp] theorem State.setMark_seen (s : State) (m : Mark) (n : Slot) :
    (s.setMark m n).seen = s.seen := by
  simp only [State.setMark]
  split <;> simp

@[simp] theorem State.setMark_rest (s : State) (m : Mark) (n : Slot) :
    (s.setMark m n).rest = s.rest := by
  simp only [State.setMark]
  split <;> simp

/-! `setMarks` -/


@[simp] theorem State.setMarks_time (s : State) (m : Mark) (l : List Slot) :
    (s.setMarks m l).time = s.time := by
  simp only [State.setMarks]
  exact foldl_keeps State.time _ (by intro s a; simp) _ _

@[simp] theorem State.setMarks_stopLow (s : State) (m : Mark) (l : List Slot) :
    (s.setMarks m l).stopLow = s.stopLow := by
  simp only [State.setMarks]
  exact foldl_keeps State.stopLow _ (by intro s a; simp) _ _

@[simp] theorem State.setMarks_resetPin (s : State) (m : Mark) (l : List Slot) :
    (s.setMarks m l).resetPin = s.resetPin := by
  simp only [State.setMarks]
  exact foldl_keeps State.resetPin _ (by intro s a; simp) _ _

@[simp] theorem State.setMarks_drive (s : State) (m : Mark) (l : List Slot) :
    (s.setMarks m l).drive = s.drive := by
  simp only [State.setMarks]
  exact foldl_keeps State.drive _ (by intro s a; simp) _ _

@[simp] theorem State.setMarks_loops (s : State) (m : Mark) (l : List Slot) :
    (s.setMarks m l).loops = s.loops := by
  simp only [State.setMarks]
  exact foldl_keeps State.loops _ (by intro s a; simp) _ _

@[simp] theorem State.setMarks_loopRec (s : State) (m : Mark) (l : List Slot) (i : LoopId) :
    (s.setMarks m l).loopRec i = s.loopRec i := by
  simp [State.loopRec]

@[simp] theorem State.setMarks_pumps (s : State) (m : Mark) (l : List Slot) :
    (s.setMarks m l).pumps = s.pumps := by
  simp only [State.setMarks]
  exact foldl_keeps State.pumps _ (by intro s a; simp) _ _

@[simp] theorem State.setMarks_pump (s : State) (m : Mark) (l : List Slot) (i : LoopId) :
    (s.setMarks m l).pump i = s.pump i := by
  simp [State.pump]

@[simp] theorem State.setMarks_evalQueue (s : State) (m : Mark) (l : List Slot) :
    (s.setMarks m l).evalQueue = s.evalQueue := by
  simp only [State.setMarks]
  exact foldl_keeps State.evalQueue _ (by intro s a; simp) _ _

@[simp] theorem State.setMarks_bindings (s : State) (m : Mark) (l : List Slot) :
    (s.setMarks m l).bindings = s.bindings := by
  simp only [State.setMarks]
  exact foldl_keeps State.bindings _ (by intro s a; simp) _ _

@[simp] theorem State.setMarks_binding (s : State) (m : Mark) (l : List Slot) (i : BindingId) :
    (s.setMarks m l).binding i = s.binding i := by
  simp [State.binding]

@[simp] theorem State.setMarks_transmission (s : State) (m : Mark) (l : List Slot) :
    (s.setMarks m l).transmission = s.transmission := by
  simp only [State.setMarks]
  exact foldl_keeps State.transmission _ (by intro s a; simp) _ _

@[simp] theorem State.setMarks_search (s : State) (m : Mark) (l : List Slot) :
    (s.setMarks m l).search = s.search := by
  simp only [State.setMarks]
  exact foldl_keeps State.search _ (by intro s a; simp) _ _

@[simp] theorem State.setMarks_attention (s : State) (m : Mark) (l : List Slot) :
    (s.setMarks m l).attention = s.attention := by
  simp only [State.setMarks]
  exact foldl_keeps State.attention _ (by intro s a; simp) _ _

@[simp] theorem State.setMarks_seen (s : State) (m : Mark) (l : List Slot) :
    (s.setMarks m l).seen = s.seen := by
  simp only [State.setMarks]
  exact foldl_keeps State.seen _ (by intro s a; simp) _ _

@[simp] theorem State.setMarks_rest (s : State) (m : Mark) (l : List Slot) :
    (s.setMarks m l).rest = s.rest := by
  simp only [State.setMarks]
  exact foldl_keeps State.rest _ (by intro s a; simp) _ _

/-! `release` -/


@[simp] theorem State.release_time (s : State) :
    s.release.time = s.time := by
  simp [State.release]

@[simp] theorem State.release_stopLow (s : State) :
    s.release.stopLow = s.stopLow := by
  simp [State.release]

@[simp] theorem State.release_resetPin (s : State) :
    s.release.resetPin = s.resetPin := by
  simp [State.release]

@[simp] theorem State.release_drive (s : State) :
    s.release.drive = s.drive := by
  simp [State.release]

@[simp] theorem State.release_loops (s : State) :
    s.release.loops = s.loops := by
  simp [State.release]

@[simp] theorem State.release_loopRec (s : State)  (i : LoopId) :
    s.release.loopRec i = s.loopRec i := by
  simp [State.loopRec]

@[simp] theorem State.release_pumps (s : State) :
    s.release.pumps = s.pumps := by
  simp [State.release]

@[simp] theorem State.release_pump (s : State)  (i : LoopId) :
    s.release.pump i = s.pump i := by
  simp [State.pump]

@[simp] theorem State.release_evalQueue (s : State) :
    s.release.evalQueue = s.evalQueue := by
  simp [State.release]

@[simp] theorem State.release_bindings (s : State) :
    s.release.bindings = s.bindings := by
  simp [State.release]

@[simp] theorem State.release_binding (s : State)  (i : BindingId) :
    s.release.binding i = s.binding i := by
  simp [State.binding]

@[simp] theorem State.release_transmission (s : State) :
    s.release.transmission = s.transmission := by
  simp [State.release]

@[simp] theorem State.release_attention (s : State) :
    s.release.attention = s.attention := by
  simp [State.release]

@[simp] theorem State.release_seen (s : State) :
    s.release.seen = s.seen := by
  simp [State.release]

@[simp] theorem State.release_rest (s : State) :
    s.release.rest = s.rest := by
  simp [State.release]

/-! `endSearch` -/


@[simp] theorem State.endSearch_time (s : State) (r : SearchResult) :
    (s.endSearch r).time = s.time := by
  simp [State.endSearch]

@[simp] theorem State.endSearch_stopLow (s : State) (r : SearchResult) :
    (s.endSearch r).stopLow = s.stopLow := by
  simp [State.endSearch]

@[simp] theorem State.endSearch_resetPin (s : State) (r : SearchResult) :
    (s.endSearch r).resetPin = s.resetPin := by
  simp [State.endSearch]

@[simp] theorem State.endSearch_drive (s : State) (r : SearchResult) :
    (s.endSearch r).drive = s.drive := by
  simp [State.endSearch]

@[simp] theorem State.endSearch_pumps (s : State) (r : SearchResult) :
    (s.endSearch r).pumps = s.pumps := by
  simp [State.endSearch]

@[simp] theorem State.endSearch_pump (s : State) (r : SearchResult) (i : LoopId) :
    (s.endSearch r).pump i = s.pump i := by
  simp [State.pump]

@[simp] theorem State.endSearch_evalQueue (s : State) (r : SearchResult) :
    (s.endSearch r).evalQueue = s.evalQueue := by
  simp [State.endSearch]

@[simp] theorem State.endSearch_bindings (s : State) (r : SearchResult) :
    (s.endSearch r).bindings = s.bindings := by
  simp [State.endSearch]

@[simp] theorem State.endSearch_binding (s : State) (r : SearchResult) (i : BindingId) :
    (s.endSearch r).binding i = s.binding i := by
  simp [State.binding]

@[simp] theorem State.endSearch_transmission (s : State) (r : SearchResult) :
    (s.endSearch r).transmission = s.transmission := by
  simp [State.endSearch]

@[simp] theorem State.endSearch_seen (s : State) (r : SearchResult) :
    (s.endSearch r).seen = s.seen := by
  simp [State.endSearch]

@[simp] theorem State.endSearch_rest (s : State) (r : SearchResult) :
    (s.endSearch r).rest = s.rest := by
  simp [State.endSearch]

/-! `valveFault` -/


@[simp] theorem State.valveFault_time (s : State) (l : List Slot) :
    (s.valveFault l).time = s.time := by
  simp [State.valveFault]

@[simp] theorem State.valveFault_stopLow (s : State) (l : List Slot) :
    (s.valveFault l).stopLow = s.stopLow := by
  simp [State.valveFault]

@[simp] theorem State.valveFault_resetPin (s : State) (l : List Slot) :
    (s.valveFault l).resetPin = s.resetPin := by
  simp [State.valveFault]

@[simp] theorem State.valveFault_drive (s : State) (l : List Slot) :
    (s.valveFault l).drive = s.drive := by
  simp [State.valveFault]

@[simp] theorem State.valveFault_pumps (s : State) (l : List Slot) :
    (s.valveFault l).pumps = s.pumps := by
  simp [State.valveFault]

@[simp] theorem State.valveFault_pump (s : State) (l : List Slot) (i : LoopId) :
    (s.valveFault l).pump i = s.pump i := by
  simp [State.pump]

@[simp] theorem State.valveFault_evalQueue (s : State) (l : List Slot) :
    (s.valveFault l).evalQueue = s.evalQueue := by
  simp [State.valveFault]

@[simp] theorem State.valveFault_bindings (s : State) (l : List Slot) :
    (s.valveFault l).bindings = s.bindings := by
  simp [State.valveFault]

@[simp] theorem State.valveFault_binding (s : State) (l : List Slot) (i : BindingId) :
    (s.valveFault l).binding i = s.binding i := by
  simp [State.binding]

@[simp] theorem State.valveFault_transmission (s : State) (l : List Slot) :
    (s.valveFault l).transmission = s.transmission := by
  simp [State.valveFault]

@[simp] theorem State.valveFault_seen (s : State) (l : List Slot) :
    (s.valveFault l).seen = s.seen := by
  simp [State.valveFault]

@[simp] theorem State.valveFault_rest (s : State) (l : List Slot) :
    (s.valveFault l).rest = s.rest := by
  simp [State.valveFault]

/-! `isolate` -/


@[simp] theorem State.isolate_time (s : State) :
    s.isolate.time = s.time := by
  simp only [State.isolate]
  (repeat' split) <;> simp

@[simp] theorem State.isolate_stopLow (s : State) :
    s.isolate.stopLow = s.stopLow := by
  simp only [State.isolate]
  (repeat' split) <;> simp

@[simp] theorem State.isolate_resetPin (s : State) :
    s.isolate.resetPin = s.resetPin := by
  simp only [State.isolate]
  (repeat' split) <;> simp

@[simp] theorem State.isolate_drive (s : State) :
    s.isolate.drive = s.drive := by
  simp only [State.isolate]
  (repeat' split) <;> simp

@[simp] theorem State.isolate_pumps (s : State) :
    s.isolate.pumps = s.pumps := by
  simp only [State.isolate]
  (repeat' split) <;> simp

@[simp] theorem State.isolate_pump (s : State)  (i : LoopId) :
    s.isolate.pump i = s.pump i := by
  simp [State.pump]

@[simp] theorem State.isolate_evalQueue (s : State) :
    s.isolate.evalQueue = s.evalQueue := by
  simp only [State.isolate]
  (repeat' split) <;> simp

@[simp] theorem State.isolate_bindings (s : State) :
    s.isolate.bindings = s.bindings := by
  simp only [State.isolate]
  (repeat' split) <;> simp

@[simp] theorem State.isolate_binding (s : State)  (i : BindingId) :
    s.isolate.binding i = s.binding i := by
  simp [State.binding]

@[simp] theorem State.isolate_transmission (s : State) :
    s.isolate.transmission = s.transmission := by
  simp only [State.isolate]
  (repeat' split) <;> simp

@[simp] theorem State.isolate_seen (s : State) :
    s.isolate.seen = s.seen := by
  simp only [State.isolate]
  (repeat' split) <;> simp

@[simp] theorem State.isolate_rest (s : State) :
    s.isolate.rest = s.rest := by
  simp only [State.isolate]
  (repeat' split) <;> simp

/-! `newStep` -/


@[simp] theorem State.newStep_time (s : State) :
    s.newStep.time = s.time := by
  simp [State.newStep]

@[simp] theorem State.newStep_stopLow (s : State) :
    s.newStep.stopLow = s.stopLow := by
  simp [State.newStep]

@[simp] theorem State.newStep_resetPin (s : State) :
    s.newStep.resetPin = s.resetPin := by
  simp [State.newStep]

@[simp] theorem State.newStep_drive (s : State) :
    s.newStep.drive = s.drive := by
  simp [State.newStep]

@[simp] theorem State.newStep_pumps (s : State) :
    s.newStep.pumps = s.pumps := by
  simp [State.newStep]

@[simp] theorem State.newStep_pump (s : State)  (i : LoopId) :
    s.newStep.pump i = s.pump i := by
  simp [State.pump]

@[simp] theorem State.newStep_evalQueue (s : State) :
    s.newStep.evalQueue = s.evalQueue := by
  simp [State.newStep]

@[simp] theorem State.newStep_bindings (s : State) :
    s.newStep.bindings = s.bindings := by
  simp [State.newStep]

@[simp] theorem State.newStep_binding (s : State)  (i : BindingId) :
    s.newStep.binding i = s.binding i := by
  simp [State.binding]

@[simp] theorem State.newStep_transmission (s : State) :
    s.newStep.transmission = s.transmission := by
  simp [State.newStep]

@[simp] theorem State.newStep_seen (s : State) :
    s.newStep.seen = s.seen := by
  simp [State.newStep]

@[simp] theorem State.newStep_rest (s : State) :
    s.newStep.rest = s.rest := by
  simp [State.newStep]

/-! `startSearch` -/


@[simp] theorem State.startSearch_time (s : State) (l : LoopId) :
    (s.startSearch l).time = s.time := by
  simp [State.startSearch]

@[simp] theorem State.startSearch_stopLow (s : State) (l : LoopId) :
    (s.startSearch l).stopLow = s.stopLow := by
  simp [State.startSearch]

@[simp] theorem State.startSearch_resetPin (s : State) (l : LoopId) :
    (s.startSearch l).resetPin = s.resetPin := by
  simp [State.startSearch]

@[simp] theorem State.startSearch_drive (s : State) (l : LoopId) :
    (s.startSearch l).drive = s.drive := by
  simp [State.startSearch]

@[simp] theorem State.startSearch_pumps (s : State) (l : LoopId) :
    (s.startSearch l).pumps = s.pumps := by
  simp [State.startSearch]

@[simp] theorem State.startSearch_pump (s : State) (l : LoopId) (i : LoopId) :
    (s.startSearch l).pump i = s.pump i := by
  simp [State.pump]

@[simp] theorem State.startSearch_evalQueue (s : State) (l : LoopId) :
    (s.startSearch l).evalQueue = s.evalQueue := by
  simp [State.startSearch]

@[simp] theorem State.startSearch_bindings (s : State) (l : LoopId) :
    (s.startSearch l).bindings = s.bindings := by
  simp [State.startSearch]

@[simp] theorem State.startSearch_binding (s : State) (l : LoopId) (i : BindingId) :
    (s.startSearch l).binding i = s.binding i := by
  simp [State.binding]

@[simp] theorem State.startSearch_transmission (s : State) (l : LoopId) :
    (s.startSearch l).transmission = s.transmission := by
  simp [State.startSearch]

@[simp] theorem State.startSearch_seen (s : State) (l : LoopId) :
    (s.startSearch l).seen = s.seen := by
  simp [State.startSearch]

@[simp] theorem State.startSearch_rest (s : State) (l : LoopId) :
    (s.startSearch l).rest = s.rest := by
  simp [State.startSearch]

/-! `judgeSettling` -/


@[simp] theorem State.judgeSettling_time (s : State) :
    s.judgeSettling.time = s.time := by
  simp only [State.judgeSettling]
  split <;> simp

@[simp] theorem State.judgeSettling_stopLow (s : State) :
    s.judgeSettling.stopLow = s.stopLow := by
  simp only [State.judgeSettling]
  split <;> simp

@[simp] theorem State.judgeSettling_resetPin (s : State) :
    s.judgeSettling.resetPin = s.resetPin := by
  simp only [State.judgeSettling]
  split <;> simp

@[simp] theorem State.judgeSettling_drive (s : State) :
    s.judgeSettling.drive = s.drive := by
  simp only [State.judgeSettling]
  split <;> simp

@[simp] theorem State.judgeSettling_sections (s : State) :
    s.judgeSettling.sections = s.sections := by
  simp only [State.judgeSettling]
  split <;> simp

@[simp] theorem State.judgeSettling_sec (s : State)  (i : Slot) :
    s.judgeSettling.sec i = s.sec i := by
  simp [State.sec]

@[simp] theorem State.judgeSettling_fans (s : State) :
    s.judgeSettling.fans = s.fans := by
  simp only [State.judgeSettling]
  split <;> simp

@[simp] theorem State.judgeSettling_fan (s : State)  (i : Slot) :
    s.judgeSettling.fan i = s.fan i := by
  simp [State.fan]

@[simp] theorem State.judgeSettling_loops (s : State) :
    s.judgeSettling.loops = s.loops := by
  simp only [State.judgeSettling]
  split <;> simp

@[simp] theorem State.judgeSettling_loopRec (s : State)  (i : LoopId) :
    s.judgeSettling.loopRec i = s.loopRec i := by
  simp [State.loopRec]

@[simp] theorem State.judgeSettling_pumps (s : State) :
    s.judgeSettling.pumps = s.pumps := by
  simp only [State.judgeSettling]
  split <;> simp

@[simp] theorem State.judgeSettling_pump (s : State)  (i : LoopId) :
    s.judgeSettling.pump i = s.pump i := by
  simp [State.pump]

@[simp] theorem State.judgeSettling_evalQueue (s : State) :
    s.judgeSettling.evalQueue = s.evalQueue := by
  simp only [State.judgeSettling]
  split <;> simp

@[simp] theorem State.judgeSettling_bindings (s : State) :
    s.judgeSettling.bindings = s.bindings := by
  simp only [State.judgeSettling]
  split <;> simp

@[simp] theorem State.judgeSettling_binding (s : State)  (i : BindingId) :
    s.judgeSettling.binding i = s.binding i := by
  simp [State.binding]

@[simp] theorem State.judgeSettling_txQueue (s : State) :
    s.judgeSettling.txQueue = s.txQueue := by
  simp only [State.judgeSettling]
  split <;> simp

@[simp] theorem State.judgeSettling_transmission (s : State) :
    s.judgeSettling.transmission = s.transmission := by
  simp only [State.judgeSettling]
  split <;> simp

@[simp] theorem State.judgeSettling_lines (s : State) :
    s.judgeSettling.lines = s.lines := by
  simp only [State.judgeSettling]
  split <;> simp

@[simp] theorem State.judgeSettling_line (s : State)  (i : LineId) :
    s.judgeSettling.line i = s.line i := by
  simp [State.line]

@[simp] theorem State.judgeSettling_attention (s : State) :
    s.judgeSettling.attention = s.attention := by
  simp only [State.judgeSettling]
  split <;> simp

@[simp] theorem State.judgeSettling_seen (s : State) :
    s.judgeSettling.seen = s.seen := by
  simp only [State.judgeSettling]
  split <;> simp

@[simp] theorem State.judgeSettling_rest (s : State) :
    s.judgeSettling.rest = s.rest := by
  simp only [State.judgeSettling]
  split <;> simp

/-! `judgeResting` -/


@[simp] theorem State.judgeResting_time (s : State) :
    s.judgeResting.time = s.time := by
  simp only [State.judgeResting]
  split <;> simp

@[simp] theorem State.judgeResting_stopLow (s : State) :
    s.judgeResting.stopLow = s.stopLow := by
  simp only [State.judgeResting]
  split <;> simp

@[simp] theorem State.judgeResting_resetPin (s : State) :
    s.judgeResting.resetPin = s.resetPin := by
  simp only [State.judgeResting]
  split <;> simp

@[simp] theorem State.judgeResting_drive (s : State) :
    s.judgeResting.drive = s.drive := by
  simp only [State.judgeResting]
  split <;> simp

@[simp] theorem State.judgeResting_pumps (s : State) :
    s.judgeResting.pumps = s.pumps := by
  simp only [State.judgeResting]
  split <;> simp

@[simp] theorem State.judgeResting_pump (s : State)  (i : LoopId) :
    s.judgeResting.pump i = s.pump i := by
  simp [State.pump]

@[simp] theorem State.judgeResting_evalQueue (s : State) :
    s.judgeResting.evalQueue = s.evalQueue := by
  simp only [State.judgeResting]
  split <;> simp

@[simp] theorem State.judgeResting_bindings (s : State) :
    s.judgeResting.bindings = s.bindings := by
  simp only [State.judgeResting]
  split <;> simp

@[simp] theorem State.judgeResting_binding (s : State)  (i : BindingId) :
    s.judgeResting.binding i = s.binding i := by
  simp [State.binding]

@[simp] theorem State.judgeResting_transmission (s : State) :
    s.judgeResting.transmission = s.transmission := by
  simp only [State.judgeResting]
  split <;> simp

@[simp] theorem State.judgeResting_seen (s : State) :
    s.judgeResting.seen = s.seen := by
  simp only [State.judgeResting]
  split <;> simp

@[simp] theorem State.judgeResting_rest (s : State) :
    s.judgeResting.rest = s.rest := by
  simp only [State.judgeResting]
  split <;> simp

/-! `judgeSuspended` -/


@[simp] theorem State.judgeSuspended_time (s : State) :
    s.judgeSuspended.time = s.time := by
  simp only [State.judgeSuspended]
  split <;> simp

@[simp] theorem State.judgeSuspended_stopLow (s : State) :
    s.judgeSuspended.stopLow = s.stopLow := by
  simp only [State.judgeSuspended]
  split <;> simp

@[simp] theorem State.judgeSuspended_resetPin (s : State) :
    s.judgeSuspended.resetPin = s.resetPin := by
  simp only [State.judgeSuspended]
  split <;> simp

@[simp] theorem State.judgeSuspended_drive (s : State) :
    s.judgeSuspended.drive = s.drive := by
  simp only [State.judgeSuspended]
  split <;> simp

@[simp] theorem State.judgeSuspended_pumps (s : State) :
    s.judgeSuspended.pumps = s.pumps := by
  simp only [State.judgeSuspended]
  split <;> simp

@[simp] theorem State.judgeSuspended_pump (s : State)  (i : LoopId) :
    s.judgeSuspended.pump i = s.pump i := by
  simp [State.pump]

@[simp] theorem State.judgeSuspended_evalQueue (s : State) :
    s.judgeSuspended.evalQueue = s.evalQueue := by
  simp only [State.judgeSuspended]
  split <;> simp

@[simp] theorem State.judgeSuspended_bindings (s : State) :
    s.judgeSuspended.bindings = s.bindings := by
  simp only [State.judgeSuspended]
  split <;> simp

@[simp] theorem State.judgeSuspended_binding (s : State)  (i : BindingId) :
    s.judgeSuspended.binding i = s.binding i := by
  simp [State.binding]

@[simp] theorem State.judgeSuspended_transmission (s : State) :
    s.judgeSuspended.transmission = s.transmission := by
  simp only [State.judgeSuspended]
  split <;> simp

@[simp] theorem State.judgeSuspended_seen (s : State) :
    s.judgeSuspended.seen = s.seen := by
  simp only [State.judgeSuspended]
  split <;> simp

@[simp] theorem State.judgeSuspended_rest (s : State) :
    s.judgeSuspended.rest = s.rest := by
  simp only [State.judgeSuspended]
  split <;> simp

/-! `judgeWait` -/


@[simp] theorem State.judgeWait_time (s : State) :
    s.judgeWait.time = s.time := by
  simp only [State.judgeWait]
  split <;> simp

@[simp] theorem State.judgeWait_stopLow (s : State) :
    s.judgeWait.stopLow = s.stopLow := by
  simp only [State.judgeWait]
  split <;> simp

@[simp] theorem State.judgeWait_resetPin (s : State) :
    s.judgeWait.resetPin = s.resetPin := by
  simp only [State.judgeWait]
  split <;> simp

@[simp] theorem State.judgeWait_drive (s : State) :
    s.judgeWait.drive = s.drive := by
  simp only [State.judgeWait]
  split <;> simp

@[simp] theorem State.judgeWait_pumps (s : State) :
    s.judgeWait.pumps = s.pumps := by
  simp only [State.judgeWait]
  split <;> simp

@[simp] theorem State.judgeWait_pump (s : State)  (i : LoopId) :
    s.judgeWait.pump i = s.pump i := by
  simp [State.pump]

@[simp] theorem State.judgeWait_evalQueue (s : State) :
    s.judgeWait.evalQueue = s.evalQueue := by
  simp only [State.judgeWait]
  split <;> simp

@[simp] theorem State.judgeWait_bindings (s : State) :
    s.judgeWait.bindings = s.bindings := by
  simp only [State.judgeWait]
  split <;> simp

@[simp] theorem State.judgeWait_binding (s : State)  (i : BindingId) :
    s.judgeWait.binding i = s.binding i := by
  simp [State.binding]

@[simp] theorem State.judgeWait_transmission (s : State) :
    s.judgeWait.transmission = s.transmission := by
  simp only [State.judgeWait]
  split <;> simp

@[simp] theorem State.judgeWait_seen (s : State) :
    s.judgeWait.seen = s.seen := by
  simp only [State.judgeWait]
  split <;> simp

@[simp] theorem State.judgeWait_rest (s : State) :
    s.judgeWait.rest = s.rest := by
  simp only [State.judgeWait]
  split <;> simp

/-! `enterResting` -/


@[simp] theorem State.enterResting_time (s : State) :
    s.enterResting.time = s.time := by
  simp only [State.enterResting]
  split <;> simp

@[simp] theorem State.enterResting_stopLow (s : State) :
    s.enterResting.stopLow = s.stopLow := by
  simp only [State.enterResting]
  split <;> simp

@[simp] theorem State.enterResting_resetPin (s : State) :
    s.enterResting.resetPin = s.resetPin := by
  simp only [State.enterResting]
  split <;> simp

@[simp] theorem State.enterResting_drive (s : State) :
    s.enterResting.drive = s.drive := by
  simp only [State.enterResting]
  split <;> simp

@[simp] theorem State.enterResting_pumps (s : State) :
    s.enterResting.pumps = s.pumps := by
  simp only [State.enterResting]
  split <;> simp

@[simp] theorem State.enterResting_pump (s : State)  (i : LoopId) :
    s.enterResting.pump i = s.pump i := by
  simp [State.pump]

@[simp] theorem State.enterResting_evalQueue (s : State) :
    s.enterResting.evalQueue = s.evalQueue := by
  simp only [State.enterResting]
  split <;> simp

@[simp] theorem State.enterResting_bindings (s : State) :
    s.enterResting.bindings = s.bindings := by
  simp only [State.enterResting]
  split <;> simp

@[simp] theorem State.enterResting_binding (s : State)  (i : BindingId) :
    s.enterResting.binding i = s.binding i := by
  simp [State.binding]

@[simp] theorem State.enterResting_transmission (s : State) :
    s.enterResting.transmission = s.transmission := by
  simp only [State.enterResting]
  split <;> simp

@[simp] theorem State.enterResting_seen (s : State) :
    s.enterResting.seen = s.seen := by
  simp only [State.enterResting]
  split <;> simp

@[simp] theorem State.enterResting_rest (s : State) :
    s.enterResting.rest = s.rest := by
  simp only [State.enterResting]
  split <;> simp

/-! `decideProbe` -/


@[simp] theorem State.decideProbe_time (s : State) (q : Bool) :
    (s.decideProbe q).time = s.time := by
  simp only [State.decideProbe]
  (repeat' split) <;> simp

@[simp] theorem State.decideProbe_stopLow (s : State) (q : Bool) :
    (s.decideProbe q).stopLow = s.stopLow := by
  simp only [State.decideProbe]
  (repeat' split) <;> simp

@[simp] theorem State.decideProbe_resetPin (s : State) (q : Bool) :
    (s.decideProbe q).resetPin = s.resetPin := by
  simp only [State.decideProbe]
  (repeat' split) <;> simp

@[simp] theorem State.decideProbe_drive (s : State) (q : Bool) :
    (s.decideProbe q).drive = s.drive := by
  simp only [State.decideProbe]
  (repeat' split) <;> simp

@[simp] theorem State.decideProbe_pumps (s : State) (q : Bool) :
    (s.decideProbe q).pumps = s.pumps := by
  simp only [State.decideProbe]
  (repeat' split) <;> simp

@[simp] theorem State.decideProbe_pump (s : State) (q : Bool) (i : LoopId) :
    (s.decideProbe q).pump i = s.pump i := by
  simp [State.pump]

@[simp] theorem State.decideProbe_evalQueue (s : State) (q : Bool) :
    (s.decideProbe q).evalQueue = s.evalQueue := by
  simp only [State.decideProbe]
  (repeat' split) <;> simp

@[simp] theorem State.decideProbe_bindings (s : State) (q : Bool) :
    (s.decideProbe q).bindings = s.bindings := by
  simp only [State.decideProbe]
  (repeat' split) <;> simp

@[simp] theorem State.decideProbe_binding (s : State) (q : Bool) (i : BindingId) :
    (s.decideProbe q).binding i = s.binding i := by
  simp [State.binding]

@[simp] theorem State.decideProbe_transmission (s : State) (q : Bool) :
    (s.decideProbe q).transmission = s.transmission := by
  simp only [State.decideProbe]
  (repeat' split) <;> simp

@[simp] theorem State.decideProbe_seen (s : State) (q : Bool) :
    (s.decideProbe q).seen = s.seen := by
  simp only [State.decideProbe]
  (repeat' split) <;> simp

@[simp] theorem State.decideProbe_rest (s : State) (q : Bool) :
    (s.decideProbe q).rest = s.rest := by
  simp only [State.decideProbe]
  (repeat' split) <;> simp

/-! `holdUnit` -/


@[simp] theorem State.holdUnit_time (s : State) :
    s.holdUnit.time = s.time := by
  simp [State.holdUnit]

@[simp] theorem State.holdUnit_stopLow (s : State) :
    s.holdUnit.stopLow = s.stopLow := by
  simp [State.holdUnit]

@[simp] theorem State.holdUnit_resetPin (s : State) :
    s.holdUnit.resetPin = s.resetPin := by
  simp [State.holdUnit]

@[simp] theorem State.holdUnit_drive (s : State) :
    s.holdUnit.drive = s.drive := by
  simp [State.holdUnit]

@[simp] theorem State.holdUnit_pumps (s : State) :
    s.holdUnit.pumps = s.pumps := by
  simp [State.holdUnit]

@[simp] theorem State.holdUnit_pump (s : State)  (i : LoopId) :
    s.holdUnit.pump i = s.pump i := by
  simp [State.pump]

@[simp] theorem State.holdUnit_evalQueue (s : State) :
    s.holdUnit.evalQueue = s.evalQueue := by
  simp [State.holdUnit]

@[simp] theorem State.holdUnit_bindings (s : State) :
    s.holdUnit.bindings = s.bindings := by
  simp [State.holdUnit]

@[simp] theorem State.holdUnit_binding (s : State)  (i : BindingId) :
    s.holdUnit.binding i = s.binding i := by
  simp [State.binding]

@[simp] theorem State.holdUnit_transmission (s : State) :
    s.holdUnit.transmission = s.transmission := by
  simp [State.holdUnit]

@[simp] theorem State.holdUnit_seen (s : State) :
    s.holdUnit.seen = s.seen := by
  simp [State.holdUnit]

@[simp] theorem State.holdUnit_rest (s : State) :
    s.holdUnit.rest = s.rest := by
  simp [State.holdUnit]

/-! `decideConfirm` -/


@[simp] theorem State.decideConfirm_time (s : State) (q : Bool) :
    (s.decideConfirm q).time = s.time := by
  simp only [State.decideConfirm]
  (repeat' split) <;> simp

@[simp] theorem State.decideConfirm_stopLow (s : State) (q : Bool) :
    (s.decideConfirm q).stopLow = s.stopLow := by
  simp only [State.decideConfirm]
  (repeat' split) <;> simp

@[simp] theorem State.decideConfirm_resetPin (s : State) (q : Bool) :
    (s.decideConfirm q).resetPin = s.resetPin := by
  simp only [State.decideConfirm]
  (repeat' split) <;> simp

@[simp] theorem State.decideConfirm_drive (s : State) (q : Bool) :
    (s.decideConfirm q).drive = s.drive := by
  simp only [State.decideConfirm]
  (repeat' split) <;> simp

@[simp] theorem State.decideConfirm_pumps (s : State) (q : Bool) :
    (s.decideConfirm q).pumps = s.pumps := by
  simp only [State.decideConfirm]
  (repeat' split) <;> simp

@[simp] theorem State.decideConfirm_pump (s : State) (q : Bool) (i : LoopId) :
    (s.decideConfirm q).pump i = s.pump i := by
  simp [State.pump]

@[simp] theorem State.decideConfirm_evalQueue (s : State) (q : Bool) :
    (s.decideConfirm q).evalQueue = s.evalQueue := by
  simp only [State.decideConfirm]
  (repeat' split) <;> simp

@[simp] theorem State.decideConfirm_bindings (s : State) (q : Bool) :
    (s.decideConfirm q).bindings = s.bindings := by
  simp only [State.decideConfirm]
  (repeat' split) <;> simp

@[simp] theorem State.decideConfirm_binding (s : State) (q : Bool) (i : BindingId) :
    (s.decideConfirm q).binding i = s.binding i := by
  simp [State.binding]

@[simp] theorem State.decideConfirm_transmission (s : State) (q : Bool) :
    (s.decideConfirm q).transmission = s.transmission := by
  simp only [State.decideConfirm]
  (repeat' split) <;> simp

@[simp] theorem State.decideConfirm_seen (s : State) (q : Bool) :
    (s.decideConfirm q).seen = s.seen := by
  simp only [State.decideConfirm]
  (repeat' split) <;> simp

@[simp] theorem State.decideConfirm_rest (s : State) (q : Bool) :
    (s.decideConfirm q).rest = s.rest := by
  simp only [State.decideConfirm]
  (repeat' split) <;> simp

/-! `judgeObservation` -/


@[simp] theorem State.judgeObservation_time (s : State) :
    s.judgeObservation.time = s.time := by
  simp only [State.judgeObservation]
  (repeat' split) <;> simp

@[simp] theorem State.judgeObservation_stopLow (s : State) :
    s.judgeObservation.stopLow = s.stopLow := by
  simp only [State.judgeObservation]
  (repeat' split) <;> simp

@[simp] theorem State.judgeObservation_resetPin (s : State) :
    s.judgeObservation.resetPin = s.resetPin := by
  simp only [State.judgeObservation]
  (repeat' split) <;> simp

@[simp] theorem State.judgeObservation_drive (s : State) :
    s.judgeObservation.drive = s.drive := by
  simp only [State.judgeObservation]
  (repeat' split) <;> simp

@[simp] theorem State.judgeObservation_pumps (s : State) :
    s.judgeObservation.pumps = s.pumps := by
  simp only [State.judgeObservation]
  (repeat' split) <;> simp

@[simp] theorem State.judgeObservation_pump (s : State)  (i : LoopId) :
    s.judgeObservation.pump i = s.pump i := by
  simp [State.pump]

@[simp] theorem State.judgeObservation_evalQueue (s : State) :
    s.judgeObservation.evalQueue = s.evalQueue := by
  simp only [State.judgeObservation]
  (repeat' split) <;> simp

@[simp] theorem State.judgeObservation_bindings (s : State) :
    s.judgeObservation.bindings = s.bindings := by
  simp only [State.judgeObservation]
  (repeat' split) <;> simp

@[simp] theorem State.judgeObservation_binding (s : State)  (i : BindingId) :
    s.judgeObservation.binding i = s.binding i := by
  simp [State.binding]

@[simp] theorem State.judgeObservation_transmission (s : State) :
    s.judgeObservation.transmission = s.transmission := by
  simp only [State.judgeObservation]
  (repeat' split) <;> simp

@[simp] theorem State.judgeObservation_seen (s : State) :
    s.judgeObservation.seen = s.seen := by
  simp only [State.judgeObservation]
  (repeat' split) <;> simp

@[simp] theorem State.judgeObservation_rest (s : State) :
    s.judgeObservation.rest = s.rest := by
  simp only [State.judgeObservation]
  (repeat' split) <;> simp

/-! `searchValveCapture` -/


@[simp] theorem State.searchValveCapture_time (s : State) (n : Slot) (v : Int) :
    (s.searchValveCapture n v).time = s.time := by
  simp only [State.searchValveCapture]
  (repeat' split) <;> simp

@[simp] theorem State.searchValveCapture_stopLow (s : State) (n : Slot) (v : Int) :
    (s.searchValveCapture n v).stopLow = s.stopLow := by
  simp only [State.searchValveCapture]
  (repeat' split) <;> simp

@[simp] theorem State.searchValveCapture_resetPin (s : State) (n : Slot) (v : Int) :
    (s.searchValveCapture n v).resetPin = s.resetPin := by
  simp only [State.searchValveCapture]
  (repeat' split) <;> simp

@[simp] theorem State.searchValveCapture_drive (s : State) (n : Slot) (v : Int) :
    (s.searchValveCapture n v).drive = s.drive := by
  simp only [State.searchValveCapture]
  (repeat' split) <;> simp

@[simp] theorem State.searchValveCapture_pumps (s : State) (n : Slot) (v : Int) :
    (s.searchValveCapture n v).pumps = s.pumps := by
  simp only [State.searchValveCapture]
  (repeat' split) <;> simp

@[simp] theorem State.searchValveCapture_pump (s : State) (n : Slot) (v : Int) (i : LoopId) :
    (s.searchValveCapture n v).pump i = s.pump i := by
  simp [State.pump]

@[simp] theorem State.searchValveCapture_evalQueue (s : State) (n : Slot) (v : Int) :
    (s.searchValveCapture n v).evalQueue = s.evalQueue := by
  simp only [State.searchValveCapture]
  (repeat' split) <;> simp

@[simp] theorem State.searchValveCapture_bindings (s : State) (n : Slot) (v : Int) :
    (s.searchValveCapture n v).bindings = s.bindings := by
  simp only [State.searchValveCapture]
  (repeat' split) <;> simp

@[simp] theorem State.searchValveCapture_binding (s : State) (n : Slot) (v : Int) (i : BindingId) :
    (s.searchValveCapture n v).binding i = s.binding i := by
  simp [State.binding]

@[simp] theorem State.searchValveCapture_transmission (s : State) (n : Slot) (v : Int) :
    (s.searchValveCapture n v).transmission = s.transmission := by
  simp only [State.searchValveCapture]
  (repeat' split) <;> simp

@[simp] theorem State.searchValveCapture_seen (s : State) (n : Slot) (v : Int) :
    (s.searchValveCapture n v).seen = s.seen := by
  simp only [State.searchValveCapture]
  (repeat' split) <;> simp

@[simp] theorem State.searchValveCapture_rest (s : State) (n : Slot) (v : Int) :
    (s.searchValveCapture n v).rest = s.rest := by
  simp only [State.searchValveCapture]
  (repeat' split) <;> simp

/-! `pressureCapture` -/


@[simp] theorem State.pressureCapture_time (s : State) (l : LoopId) (v : Int) :
    (s.pressureCapture l v).time = s.time := by
  simp only [State.pressureCapture]
  (repeat' split) <;> simp

@[simp] theorem State.pressureCapture_stopLow (s : State) (l : LoopId) (v : Int) :
    (s.pressureCapture l v).stopLow = s.stopLow := by
  simp only [State.pressureCapture]
  (repeat' split) <;> simp

@[simp] theorem State.pressureCapture_resetPin (s : State) (l : LoopId) (v : Int) :
    (s.pressureCapture l v).resetPin = s.resetPin := by
  simp only [State.pressureCapture]
  (repeat' split) <;> simp

@[simp] theorem State.pressureCapture_drive (s : State) (l : LoopId) (v : Int) :
    (s.pressureCapture l v).drive = s.drive := by
  simp only [State.pressureCapture]
  (repeat' split) <;> simp

@[simp] theorem State.pressureCapture_sections (s : State) (l : LoopId) (v : Int) :
    (s.pressureCapture l v).sections = s.sections := by
  simp only [State.pressureCapture]
  (repeat' split) <;> simp

@[simp] theorem State.pressureCapture_sec (s : State) (l : LoopId) (v : Int) (i : Slot) :
    (s.pressureCapture l v).sec i = s.sec i := by
  simp [State.sec]

@[simp] theorem State.pressureCapture_fans (s : State) (l : LoopId) (v : Int) :
    (s.pressureCapture l v).fans = s.fans := by
  simp only [State.pressureCapture]
  (repeat' split) <;> simp

@[simp] theorem State.pressureCapture_fan (s : State) (l : LoopId) (v : Int) (i : Slot) :
    (s.pressureCapture l v).fan i = s.fan i := by
  simp [State.fan]

@[simp] theorem State.pressureCapture_pumps (s : State) (l : LoopId) (v : Int) :
    (s.pressureCapture l v).pumps = s.pumps := by
  simp only [State.pressureCapture]
  (repeat' split) <;> simp

@[simp] theorem State.pressureCapture_pump (s : State) (l : LoopId) (v : Int) (i : LoopId) :
    (s.pressureCapture l v).pump i = s.pump i := by
  simp [State.pump]

@[simp] theorem State.pressureCapture_evalQueue (s : State) (l : LoopId) (v : Int) :
    (s.pressureCapture l v).evalQueue = s.evalQueue := by
  simp only [State.pressureCapture]
  (repeat' split) <;> simp

@[simp] theorem State.pressureCapture_bindings (s : State) (l : LoopId) (v : Int) :
    (s.pressureCapture l v).bindings = s.bindings := by
  simp only [State.pressureCapture]
  (repeat' split) <;> simp

@[simp] theorem State.pressureCapture_binding (s : State) (l : LoopId) (v : Int) (i : BindingId) :
    (s.pressureCapture l v).binding i = s.binding i := by
  simp [State.binding]

@[simp] theorem State.pressureCapture_txQueue (s : State) (l : LoopId) (v : Int) :
    (s.pressureCapture l v).txQueue = s.txQueue := by
  simp only [State.pressureCapture]
  (repeat' split) <;> simp

@[simp] theorem State.pressureCapture_transmission (s : State) (l : LoopId) (v : Int) :
    (s.pressureCapture l v).transmission = s.transmission := by
  simp only [State.pressureCapture]
  (repeat' split) <;> simp

@[simp] theorem State.pressureCapture_lines (s : State) (l : LoopId) (v : Int) :
    (s.pressureCapture l v).lines = s.lines := by
  simp only [State.pressureCapture]
  (repeat' split) <;> simp

@[simp] theorem State.pressureCapture_line (s : State) (l : LoopId) (v : Int) (i : LineId) :
    (s.pressureCapture l v).line i = s.line i := by
  simp [State.line]

@[simp] theorem State.pressureCapture_attention (s : State) (l : LoopId) (v : Int) :
    (s.pressureCapture l v).attention = s.attention := by
  simp only [State.pressureCapture]
  (repeat' split) <;> simp

@[simp] theorem State.pressureCapture_seen (s : State) (l : LoopId) (v : Int) :
    (s.pressureCapture l v).seen = s.seen := by
  simp only [State.pressureCapture]
  (repeat' split) <;> simp

@[simp] theorem State.pressureCapture_rest (s : State) (l : LoopId) (v : Int) :
    (s.pressureCapture l v).rest = s.rest := by
  simp only [State.pressureCapture]
  (repeat' split) <;> simp

/-! `preempt` -/


@[simp] theorem State.preempt_time (s : State) :
    s.preempt.time = s.time := by
  simp only [State.preempt]
  split <;> simp

@[simp] theorem State.preempt_stopLow (s : State) :
    s.preempt.stopLow = s.stopLow := by
  simp only [State.preempt]
  split <;> simp

@[simp] theorem State.preempt_resetPin (s : State) :
    s.preempt.resetPin = s.resetPin := by
  simp only [State.preempt]
  split <;> simp

@[simp] theorem State.preempt_drive (s : State) :
    s.preempt.drive = s.drive := by
  simp only [State.preempt]
  split <;> simp

@[simp] theorem State.preempt_pumps (s : State) :
    s.preempt.pumps = s.pumps := by
  simp only [State.preempt]
  split <;> simp

@[simp] theorem State.preempt_pump (s : State)  (i : LoopId) :
    s.preempt.pump i = s.pump i := by
  simp [State.pump]

@[simp] theorem State.preempt_evalQueue (s : State) :
    s.preempt.evalQueue = s.evalQueue := by
  simp only [State.preempt]
  split <;> simp

@[simp] theorem State.preempt_bindings (s : State) :
    s.preempt.bindings = s.bindings := by
  simp only [State.preempt]
  split <;> simp

@[simp] theorem State.preempt_binding (s : State)  (i : BindingId) :
    s.preempt.binding i = s.binding i := by
  simp [State.binding]

@[simp] theorem State.preempt_transmission (s : State) :
    s.preempt.transmission = s.transmission := by
  simp only [State.preempt]
  split <;> simp

@[simp] theorem State.preempt_seen (s : State) :
    s.preempt.seen = s.seen := by
  simp only [State.preempt]
  split <;> simp

@[simp] theorem State.preempt_rest (s : State) :
    s.preempt.rest = s.rest := by
  simp only [State.preempt]
  split <;> simp

/-! `tellSearch` -/


@[simp] theorem State.tellSearch_time (s : State) (n : Slot) (p : Protection) :
    (s.tellSearch n p).time = s.time := by
  simp only [State.tellSearch]
  (repeat' split) <;> simp

@[simp] theorem State.tellSearch_stopLow (s : State) (n : Slot) (p : Protection) :
    (s.tellSearch n p).stopLow = s.stopLow := by
  simp only [State.tellSearch]
  (repeat' split) <;> simp

@[simp] theorem State.tellSearch_resetPin (s : State) (n : Slot) (p : Protection) :
    (s.tellSearch n p).resetPin = s.resetPin := by
  simp only [State.tellSearch]
  (repeat' split) <;> simp

@[simp] theorem State.tellSearch_drive (s : State) (n : Slot) (p : Protection) :
    (s.tellSearch n p).drive = s.drive := by
  simp only [State.tellSearch]
  (repeat' split) <;> simp

@[simp] theorem State.tellSearch_pumps (s : State) (n : Slot) (p : Protection) :
    (s.tellSearch n p).pumps = s.pumps := by
  simp only [State.tellSearch]
  (repeat' split) <;> simp

@[simp] theorem State.tellSearch_pump (s : State) (n : Slot) (p : Protection) (i : LoopId) :
    (s.tellSearch n p).pump i = s.pump i := by
  simp [State.pump]

@[simp] theorem State.tellSearch_evalQueue (s : State) (n : Slot) (p : Protection) :
    (s.tellSearch n p).evalQueue = s.evalQueue := by
  simp only [State.tellSearch]
  (repeat' split) <;> simp

@[simp] theorem State.tellSearch_bindings (s : State) (n : Slot) (p : Protection) :
    (s.tellSearch n p).bindings = s.bindings := by
  simp only [State.tellSearch]
  (repeat' split) <;> simp

@[simp] theorem State.tellSearch_binding (s : State) (n : Slot) (p : Protection) (i : BindingId) :
    (s.tellSearch n p).binding i = s.binding i := by
  simp [State.binding]

@[simp] theorem State.tellSearch_transmission (s : State) (n : Slot) (p : Protection) :
    (s.tellSearch n p).transmission = s.transmission := by
  simp only [State.tellSearch]
  (repeat' split) <;> simp

@[simp] theorem State.tellSearch_seen (s : State) (n : Slot) (p : Protection) :
    (s.tellSearch n p).seen = s.seen := by
  simp only [State.tellSearch]
  (repeat' split) <;> simp

@[simp] theorem State.tellSearch_rest (s : State) (n : Slot) (p : Protection) :
    (s.tellSearch n p).rest = s.rest := by
  simp only [State.tellSearch]
  (repeat' split) <;> simp

/-! `postEntry` -/


@[simp] theorem State.postEntry_time (s : State) (n : Slot) (p : Protection) :
    (s.postEntry n p).time = s.time := by
  simp only [State.postEntry]
  split <;> simp

@[simp] theorem State.postEntry_stopLow (s : State) (n : Slot) (p : Protection) :
    (s.postEntry n p).stopLow = s.stopLow := by
  simp only [State.postEntry]
  split <;> simp

@[simp] theorem State.postEntry_resetPin (s : State) (n : Slot) (p : Protection) :
    (s.postEntry n p).resetPin = s.resetPin := by
  simp only [State.postEntry]
  split <;> simp

@[simp] theorem State.postEntry_drive (s : State) (n : Slot) (p : Protection) :
    (s.postEntry n p).drive = s.drive := by
  simp only [State.postEntry]
  split <;> simp

@[simp] theorem State.postEntry_sections (s : State) (n : Slot) (p : Protection) :
    (s.postEntry n p).sections = s.sections := by
  simp only [State.postEntry]
  split <;> simp

@[simp] theorem State.postEntry_sec (s : State) (n : Slot) (p : Protection) (i : Slot) :
    (s.postEntry n p).sec i = s.sec i := by
  simp [State.sec]

@[simp] theorem State.postEntry_fans (s : State) (n : Slot) (p : Protection) :
    (s.postEntry n p).fans = s.fans := by
  simp only [State.postEntry]
  split <;> simp

@[simp] theorem State.postEntry_fan (s : State) (n : Slot) (p : Protection) (i : Slot) :
    (s.postEntry n p).fan i = s.fan i := by
  simp [State.fan]

@[simp] theorem State.postEntry_loops (s : State) (n : Slot) (p : Protection) :
    (s.postEntry n p).loops = s.loops := by
  simp only [State.postEntry]
  split <;> simp

@[simp] theorem State.postEntry_loopRec (s : State) (n : Slot) (p : Protection) (i : LoopId) :
    (s.postEntry n p).loopRec i = s.loopRec i := by
  simp [State.loopRec]

@[simp] theorem State.postEntry_pumps (s : State) (n : Slot) (p : Protection) :
    (s.postEntry n p).pumps = s.pumps := by
  simp only [State.postEntry]
  split <;> simp

@[simp] theorem State.postEntry_pump (s : State) (n : Slot) (p : Protection) (i : LoopId) :
    (s.postEntry n p).pump i = s.pump i := by
  simp [State.pump]

@[simp] theorem State.postEntry_evalQueue (s : State) (n : Slot) (p : Protection) :
    (s.postEntry n p).evalQueue = s.evalQueue := by
  simp only [State.postEntry]
  split <;> simp

@[simp] theorem State.postEntry_bindings (s : State) (n : Slot) (p : Protection) :
    (s.postEntry n p).bindings = s.bindings := by
  simp only [State.postEntry]
  split <;> simp

@[simp] theorem State.postEntry_binding (s : State) (n : Slot) (p : Protection) (i : BindingId) :
    (s.postEntry n p).binding i = s.binding i := by
  simp [State.binding]

@[simp] theorem State.postEntry_txQueue (s : State) (n : Slot) (p : Protection) :
    (s.postEntry n p).txQueue = s.txQueue := by
  simp only [State.postEntry]
  split <;> simp

@[simp] theorem State.postEntry_transmission (s : State) (n : Slot) (p : Protection) :
    (s.postEntry n p).transmission = s.transmission := by
  simp only [State.postEntry]
  split <;> simp

@[simp] theorem State.postEntry_search (s : State) (n : Slot) (p : Protection) :
    (s.postEntry n p).search = s.search := by
  simp only [State.postEntry]
  split <;> simp

@[simp] theorem State.postEntry_lines (s : State) (n : Slot) (p : Protection) :
    (s.postEntry n p).lines = s.lines := by
  simp only [State.postEntry]
  split <;> simp

@[simp] theorem State.postEntry_line (s : State) (n : Slot) (p : Protection) (i : LineId) :
    (s.postEntry n p).line i = s.line i := by
  simp [State.line]

@[simp] theorem State.postEntry_seen (s : State) (n : Slot) (p : Protection) :
    (s.postEntry n p).seen = s.seen := by
  simp only [State.postEntry]
  split <;> simp

@[simp] theorem State.postEntry_rest (s : State) (n : Slot) (p : Protection) :
    (s.postEntry n p).rest = s.rest := by
  simp only [State.postEntry]
  split <;> simp

/-! `changeProtection` -/


@[simp] theorem State.changeProtection_time (s : State) (n : Slot) (p : Protection) :
    (s.changeProtection n p).time = s.time := by
  simp [State.changeProtection]

@[simp] theorem State.changeProtection_stopLow (s : State) (n : Slot) (p : Protection) :
    (s.changeProtection n p).stopLow = s.stopLow := by
  simp [State.changeProtection]

@[simp] theorem State.changeProtection_resetPin (s : State) (n : Slot) (p : Protection) :
    (s.changeProtection n p).resetPin = s.resetPin := by
  simp [State.changeProtection]

@[simp] theorem State.changeProtection_drive (s : State) (n : Slot) (p : Protection) :
    (s.changeProtection n p).drive = s.drive := by
  simp [State.changeProtection]

@[simp] theorem State.changeProtection_evalQueue (s : State) (n : Slot) (p : Protection) :
    (s.changeProtection n p).evalQueue = s.evalQueue := by
  simp [State.changeProtection]

@[simp] theorem State.changeProtection_bindings (s : State) (n : Slot) (p : Protection) :
    (s.changeProtection n p).bindings = s.bindings := by
  simp [State.changeProtection]

@[simp] theorem State.changeProtection_binding (s : State) (n : Slot) (p : Protection) (i : BindingId) :
    (s.changeProtection n p).binding i = s.binding i := by
  simp [State.binding]

@[simp] theorem State.changeProtection_transmission (s : State) (n : Slot) (p : Protection) :
    (s.changeProtection n p).transmission = s.transmission := by
  simp [State.changeProtection]

@[simp] theorem State.changeProtection_seen (s : State) (n : Slot) (p : Protection) :
    (s.changeProtection n p).seen = s.seen := by
  simp [State.changeProtection]

@[simp] theorem State.changeProtection_rest (s : State) (n : Slot) (p : Protection) :
    (s.changeProtection n p).rest = s.rest := by
  simp [State.changeProtection]

/-! `retireFromSearch` -/


@[simp] theorem State.retireFromSearch_time (s : State) (n : Slot) :
    (s.retireFromSearch n).time = s.time := by
  simp only [State.retireFromSearch]
  (repeat' split) <;> simp

@[simp] theorem State.retireFromSearch_stopLow (s : State) (n : Slot) :
    (s.retireFromSearch n).stopLow = s.stopLow := by
  simp only [State.retireFromSearch]
  (repeat' split) <;> simp

@[simp] theorem State.retireFromSearch_resetPin (s : State) (n : Slot) :
    (s.retireFromSearch n).resetPin = s.resetPin := by
  simp only [State.retireFromSearch]
  (repeat' split) <;> simp

@[simp] theorem State.retireFromSearch_drive (s : State) (n : Slot) :
    (s.retireFromSearch n).drive = s.drive := by
  simp only [State.retireFromSearch]
  (repeat' split) <;> simp

@[simp] theorem State.retireFromSearch_pumps (s : State) (n : Slot) :
    (s.retireFromSearch n).pumps = s.pumps := by
  simp only [State.retireFromSearch]
  (repeat' split) <;> simp

@[simp] theorem State.retireFromSearch_pump (s : State) (n : Slot) (i : LoopId) :
    (s.retireFromSearch n).pump i = s.pump i := by
  simp [State.pump]

@[simp] theorem State.retireFromSearch_evalQueue (s : State) (n : Slot) :
    (s.retireFromSearch n).evalQueue = s.evalQueue := by
  simp only [State.retireFromSearch]
  (repeat' split) <;> simp

@[simp] theorem State.retireFromSearch_bindings (s : State) (n : Slot) :
    (s.retireFromSearch n).bindings = s.bindings := by
  simp only [State.retireFromSearch]
  (repeat' split) <;> simp

@[simp] theorem State.retireFromSearch_binding (s : State) (n : Slot) (i : BindingId) :
    (s.retireFromSearch n).binding i = s.binding i := by
  simp [State.binding]

@[simp] theorem State.retireFromSearch_transmission (s : State) (n : Slot) :
    (s.retireFromSearch n).transmission = s.transmission := by
  simp only [State.retireFromSearch]
  (repeat' split) <;> simp

@[simp] theorem State.retireFromSearch_seen (s : State) (n : Slot) :
    (s.retireFromSearch n).seen = s.seen := by
  simp only [State.retireFromSearch]
  (repeat' split) <;> simp

@[simp] theorem State.retireFromSearch_rest (s : State) (n : Slot) :
    (s.retireFromSearch n).rest = s.rest := by
  simp only [State.retireFromSearch]
  (repeat' split) <;> simp

/-! `decideSection` -/


@[simp] theorem State.decideSection_time (s : State) (n : Slot) (m : Int) :
    (s.decideSection n m).time = s.time := by
  simp only [State.decideSection]
  split <;> simp

@[simp] theorem State.decideSection_stopLow (s : State) (n : Slot) (m : Int) :
    (s.decideSection n m).stopLow = s.stopLow := by
  simp only [State.decideSection]
  split <;> simp

@[simp] theorem State.decideSection_resetPin (s : State) (n : Slot) (m : Int) :
    (s.decideSection n m).resetPin = s.resetPin := by
  simp only [State.decideSection]
  split <;> simp

@[simp] theorem State.decideSection_drive (s : State) (n : Slot) (m : Int) :
    (s.decideSection n m).drive = s.drive := by
  simp only [State.decideSection]
  split <;> simp

@[simp] theorem State.decideSection_evalQueue (s : State) (n : Slot) (m : Int) :
    (s.decideSection n m).evalQueue = s.evalQueue := by
  simp only [State.decideSection]
  split <;> simp

@[simp] theorem State.decideSection_bindings (s : State) (n : Slot) (m : Int) :
    (s.decideSection n m).bindings = s.bindings := by
  simp only [State.decideSection]
  split <;> simp

@[simp] theorem State.decideSection_binding (s : State) (n : Slot) (m : Int) (i : BindingId) :
    (s.decideSection n m).binding i = s.binding i := by
  simp [State.binding]

@[simp] theorem State.decideSection_transmission (s : State) (n : Slot) (m : Int) :
    (s.decideSection n m).transmission = s.transmission := by
  simp only [State.decideSection]
  split <;> simp

@[simp] theorem State.decideSection_seen (s : State) (n : Slot) (m : Int) :
    (s.decideSection n m).seen = s.seen := by
  simp only [State.decideSection]
  split <;> simp

@[simp] theorem State.decideSection_rest (s : State) (n : Slot) (m : Int) :
    (s.decideSection n m).rest = s.rest := by
  simp only [State.decideSection]
  split <;> simp

/-! `formColdest` -/


@[simp] theorem State.formColdest_time (s : State) (l : LoopId) :
    (s.formColdest l).time = s.time := by
  simp [State.formColdest]

@[simp] theorem State.formColdest_stopLow (s : State) (l : LoopId) :
    (s.formColdest l).stopLow = s.stopLow := by
  simp [State.formColdest]

@[simp] theorem State.formColdest_resetPin (s : State) (l : LoopId) :
    (s.formColdest l).resetPin = s.resetPin := by
  simp [State.formColdest]

@[simp] theorem State.formColdest_drive (s : State) (l : LoopId) :
    (s.formColdest l).drive = s.drive := by
  simp [State.formColdest]

@[simp] theorem State.formColdest_sections (s : State) (l : LoopId) :
    (s.formColdest l).sections = s.sections := by
  simp [State.formColdest]

@[simp] theorem State.formColdest_sec (s : State) (l : LoopId) (i : Slot) :
    (s.formColdest l).sec i = s.sec i := by
  simp [State.sec]

@[simp] theorem State.formColdest_fans (s : State) (l : LoopId) :
    (s.formColdest l).fans = s.fans := by
  simp [State.formColdest]

@[simp] theorem State.formColdest_fan (s : State) (l : LoopId) (i : Slot) :
    (s.formColdest l).fan i = s.fan i := by
  simp [State.fan]

@[simp] theorem State.formColdest_pumps (s : State) (l : LoopId) :
    (s.formColdest l).pumps = s.pumps := by
  simp [State.formColdest]

@[simp] theorem State.formColdest_pump (s : State) (l : LoopId) (i : LoopId) :
    (s.formColdest l).pump i = s.pump i := by
  simp [State.pump]

@[simp] theorem State.formColdest_evalQueue (s : State) (l : LoopId) :
    (s.formColdest l).evalQueue = s.evalQueue := by
  simp [State.formColdest]

@[simp] theorem State.formColdest_bindings (s : State) (l : LoopId) :
    (s.formColdest l).bindings = s.bindings := by
  simp [State.formColdest]

@[simp] theorem State.formColdest_binding (s : State) (l : LoopId) (i : BindingId) :
    (s.formColdest l).binding i = s.binding i := by
  simp [State.binding]

@[simp] theorem State.formColdest_txQueue (s : State) (l : LoopId) :
    (s.formColdest l).txQueue = s.txQueue := by
  simp [State.formColdest]

@[simp] theorem State.formColdest_transmission (s : State) (l : LoopId) :
    (s.formColdest l).transmission = s.transmission := by
  simp [State.formColdest]

@[simp] theorem State.formColdest_search (s : State) (l : LoopId) :
    (s.formColdest l).search = s.search := by
  simp [State.formColdest]

@[simp] theorem State.formColdest_lines (s : State) (l : LoopId) :
    (s.formColdest l).lines = s.lines := by
  simp [State.formColdest]

@[simp] theorem State.formColdest_line (s : State) (l : LoopId) (i : LineId) :
    (s.formColdest l).line i = s.line i := by
  simp [State.line]

@[simp] theorem State.formColdest_attention (s : State) (l : LoopId) :
    (s.formColdest l).attention = s.attention := by
  simp [State.formColdest]

@[simp] theorem State.formColdest_seen (s : State) (l : LoopId) :
    (s.formColdest l).seen = s.seen := by
  simp [State.formColdest]

@[simp] theorem State.formColdest_rest (s : State) (l : LoopId) :
    (s.formColdest l).rest = s.rest := by
  simp [State.formColdest]

/-! `copyActive` -/


@[simp] theorem State.copyActive_time (s : State) (l : LoopId) (g : Regime) (n : Slot) :
    (s.copyActive l g n).time = s.time := by
  simp only [State.copyActive]
  split <;> simp

@[simp] theorem State.copyActive_stopLow (s : State) (l : LoopId) (g : Regime) (n : Slot) :
    (s.copyActive l g n).stopLow = s.stopLow := by
  simp only [State.copyActive]
  split <;> simp

@[simp] theorem State.copyActive_resetPin (s : State) (l : LoopId) (g : Regime) (n : Slot) :
    (s.copyActive l g n).resetPin = s.resetPin := by
  simp only [State.copyActive]
  split <;> simp

@[simp] theorem State.copyActive_drive (s : State) (l : LoopId) (g : Regime) (n : Slot) :
    (s.copyActive l g n).drive = s.drive := by
  simp only [State.copyActive]
  split <;> simp

@[simp] theorem State.copyActive_loops (s : State) (l : LoopId) (g : Regime) (n : Slot) :
    (s.copyActive l g n).loops = s.loops := by
  simp only [State.copyActive]
  split <;> simp

@[simp] theorem State.copyActive_loopRec (s : State) (l : LoopId) (g : Regime) (n : Slot) (i : LoopId) :
    (s.copyActive l g n).loopRec i = s.loopRec i := by
  simp [State.loopRec]

@[simp] theorem State.copyActive_pumps (s : State) (l : LoopId) (g : Regime) (n : Slot) :
    (s.copyActive l g n).pumps = s.pumps := by
  simp only [State.copyActive]
  split <;> simp

@[simp] theorem State.copyActive_pump (s : State) (l : LoopId) (g : Regime) (n : Slot) (i : LoopId) :
    (s.copyActive l g n).pump i = s.pump i := by
  simp [State.pump]

@[simp] theorem State.copyActive_evalQueue (s : State) (l : LoopId) (g : Regime) (n : Slot) :
    (s.copyActive l g n).evalQueue = s.evalQueue := by
  simp only [State.copyActive]
  split <;> simp

@[simp] theorem State.copyActive_bindings (s : State) (l : LoopId) (g : Regime) (n : Slot) :
    (s.copyActive l g n).bindings = s.bindings := by
  simp only [State.copyActive]
  split <;> simp

@[simp] theorem State.copyActive_binding (s : State) (l : LoopId) (g : Regime) (n : Slot) (i : BindingId) :
    (s.copyActive l g n).binding i = s.binding i := by
  simp [State.binding]

@[simp] theorem State.copyActive_txQueue (s : State) (l : LoopId) (g : Regime) (n : Slot) :
    (s.copyActive l g n).txQueue = s.txQueue := by
  simp only [State.copyActive]
  split <;> simp

@[simp] theorem State.copyActive_transmission (s : State) (l : LoopId) (g : Regime) (n : Slot) :
    (s.copyActive l g n).transmission = s.transmission := by
  simp only [State.copyActive]
  split <;> simp

@[simp] theorem State.copyActive_search (s : State) (l : LoopId) (g : Regime) (n : Slot) :
    (s.copyActive l g n).search = s.search := by
  simp only [State.copyActive]
  split <;> simp

@[simp] theorem State.copyActive_lines (s : State) (l : LoopId) (g : Regime) (n : Slot) :
    (s.copyActive l g n).lines = s.lines := by
  simp only [State.copyActive]
  split <;> simp

@[simp] theorem State.copyActive_line (s : State) (l : LoopId) (g : Regime) (n : Slot) (i : LineId) :
    (s.copyActive l g n).line i = s.line i := by
  simp [State.line]

@[simp] theorem State.copyActive_attention (s : State) (l : LoopId) (g : Regime) (n : Slot) :
    (s.copyActive l g n).attention = s.attention := by
  simp only [State.copyActive]
  split <;> simp

@[simp] theorem State.copyActive_seen (s : State) (l : LoopId) (g : Regime) (n : Slot) :
    (s.copyActive l g n).seen = s.seen := by
  simp only [State.copyActive]
  split <;> simp

@[simp] theorem State.copyActive_rest (s : State) (l : LoopId) (g : Regime) (n : Slot) :
    (s.copyActive l g n).rest = s.rest := by
  simp only [State.copyActive]
  split <;> simp

/-! `changeRegime` -/


@[simp] theorem State.changeRegime_time (s : State) (l : LoopId) (g : Regime) :
    (s.changeRegime l g).time = s.time := by
  simp only [State.changeRegime]
  simp
  rw [foldl_keeps State.time _ (by intro s a; simp)]
  rfl

@[simp] theorem State.changeRegime_stopLow (s : State) (l : LoopId) (g : Regime) :
    (s.changeRegime l g).stopLow = s.stopLow := by
  simp only [State.changeRegime]
  simp
  rw [foldl_keeps State.stopLow _ (by intro s a; simp)]
  rfl

@[simp] theorem State.changeRegime_resetPin (s : State) (l : LoopId) (g : Regime) :
    (s.changeRegime l g).resetPin = s.resetPin := by
  simp only [State.changeRegime]
  simp
  rw [foldl_keeps State.resetPin _ (by intro s a; simp)]
  rfl

@[simp] theorem State.changeRegime_drive (s : State) (l : LoopId) (g : Regime) :
    (s.changeRegime l g).drive = s.drive := by
  simp only [State.changeRegime]
  simp
  rw [foldl_keeps State.drive _ (by intro s a; simp)]
  rfl

@[simp] theorem State.changeRegime_evalQueue (s : State) (l : LoopId) (g : Regime) :
    (s.changeRegime l g).evalQueue = s.evalQueue := by
  simp only [State.changeRegime]
  simp
  rw [foldl_keeps State.evalQueue _ (by intro s a; simp)]
  rfl

@[simp] theorem State.changeRegime_bindings (s : State) (l : LoopId) (g : Regime) :
    (s.changeRegime l g).bindings = s.bindings := by
  simp only [State.changeRegime]
  simp
  rw [foldl_keeps State.bindings _ (by intro s a; simp)]
  rfl

@[simp] theorem State.changeRegime_binding (s : State) (l : LoopId) (g : Regime) (i : BindingId) :
    (s.changeRegime l g).binding i = s.binding i := by
  simp [State.binding]

@[simp] theorem State.changeRegime_txQueue (s : State) (l : LoopId) (g : Regime) :
    (s.changeRegime l g).txQueue = s.txQueue := by
  simp only [State.changeRegime]
  simp
  rw [foldl_keeps State.txQueue _ (by intro s a; simp)]
  rfl

@[simp] theorem State.changeRegime_transmission (s : State) (l : LoopId) (g : Regime) :
    (s.changeRegime l g).transmission = s.transmission := by
  simp only [State.changeRegime]
  simp
  rw [foldl_keeps State.transmission _ (by intro s a; simp)]
  rfl

@[simp] theorem State.changeRegime_search (s : State) (l : LoopId) (g : Regime) :
    (s.changeRegime l g).search = s.search := by
  simp only [State.changeRegime]
  simp
  rw [foldl_keeps State.search _ (by intro s a; simp)]
  rfl

@[simp] theorem State.changeRegime_lines (s : State) (l : LoopId) (g : Regime) :
    (s.changeRegime l g).lines = s.lines := by
  simp only [State.changeRegime]
  simp
  rw [foldl_keeps State.lines _ (by intro s a; simp)]
  rfl

@[simp] theorem State.changeRegime_line (s : State) (l : LoopId) (g : Regime) (i : LineId) :
    (s.changeRegime l g).line i = s.line i := by
  simp [State.line]

@[simp] theorem State.changeRegime_seen (s : State) (l : LoopId) (g : Regime) :
    (s.changeRegime l g).seen = s.seen := by
  simp only [State.changeRegime]
  simp
  rw [foldl_keeps State.seen _ (by intro s a; simp)]
  rfl

@[simp] theorem State.changeRegime_rest (s : State) (l : LoopId) (g : Regime) :
    (s.changeRegime l g).rest = s.rest := by
  simp only [State.changeRegime]
  simp
  rw [foldl_keeps State.rest _ (by intro s a; simp)]
  rfl

/-! `decideLoopRegime` -/


@[simp] theorem State.decideLoopRegime_time (s : State) (l : LoopId) :
    (s.decideLoopRegime l).time = s.time := by
  simp only [State.decideLoopRegime]
  (repeat' split) <;> simp

@[simp] theorem State.decideLoopRegime_stopLow (s : State) (l : LoopId) :
    (s.decideLoopRegime l).stopLow = s.stopLow := by
  simp only [State.decideLoopRegime]
  (repeat' split) <;> simp

@[simp] theorem State.decideLoopRegime_resetPin (s : State) (l : LoopId) :
    (s.decideLoopRegime l).resetPin = s.resetPin := by
  simp only [State.decideLoopRegime]
  (repeat' split) <;> simp

@[simp] theorem State.decideLoopRegime_drive (s : State) (l : LoopId) :
    (s.decideLoopRegime l).drive = s.drive := by
  simp only [State.decideLoopRegime]
  (repeat' split) <;> simp

@[simp] theorem State.decideLoopRegime_evalQueue (s : State) (l : LoopId) :
    (s.decideLoopRegime l).evalQueue = s.evalQueue := by
  simp only [State.decideLoopRegime]
  (repeat' split) <;> simp

@[simp] theorem State.decideLoopRegime_bindings (s : State) (l : LoopId) :
    (s.decideLoopRegime l).bindings = s.bindings := by
  simp only [State.decideLoopRegime]
  (repeat' split) <;> simp

@[simp] theorem State.decideLoopRegime_binding (s : State) (l : LoopId) (i : BindingId) :
    (s.decideLoopRegime l).binding i = s.binding i := by
  simp [State.binding]

@[simp] theorem State.decideLoopRegime_txQueue (s : State) (l : LoopId) :
    (s.decideLoopRegime l).txQueue = s.txQueue := by
  simp only [State.decideLoopRegime]
  (repeat' split) <;> simp

@[simp] theorem State.decideLoopRegime_transmission (s : State) (l : LoopId) :
    (s.decideLoopRegime l).transmission = s.transmission := by
  simp only [State.decideLoopRegime]
  (repeat' split) <;> simp

@[simp] theorem State.decideLoopRegime_search (s : State) (l : LoopId) :
    (s.decideLoopRegime l).search = s.search := by
  simp only [State.decideLoopRegime]
  (repeat' split) <;> simp

@[simp] theorem State.decideLoopRegime_lines (s : State) (l : LoopId) :
    (s.decideLoopRegime l).lines = s.lines := by
  simp only [State.decideLoopRegime]
  (repeat' split) <;> simp

@[simp] theorem State.decideLoopRegime_line (s : State) (l : LoopId) (i : LineId) :
    (s.decideLoopRegime l).line i = s.line i := by
  simp [State.line]

@[simp] theorem State.decideLoopRegime_seen (s : State) (l : LoopId) :
    (s.decideLoopRegime l).seen = s.seen := by
  simp only [State.decideLoopRegime]
  (repeat' split) <;> simp

@[simp] theorem State.decideLoopRegime_rest (s : State) (l : LoopId) :
    (s.decideLoopRegime l).rest = s.rest := by
  simp only [State.decideLoopRegime]
  (repeat' split) <;> simp

/-! `evaluate` -/


@[simp] theorem State.evaluate_time (s : State) (n : Slot) :
    (s.evaluate n).time = s.time := by
  simp only [State.evaluate]
  split <;> simp

@[simp] theorem State.evaluate_stopLow (s : State) (n : Slot) :
    (s.evaluate n).stopLow = s.stopLow := by
  simp only [State.evaluate]
  split <;> simp

@[simp] theorem State.evaluate_resetPin (s : State) (n : Slot) :
    (s.evaluate n).resetPin = s.resetPin := by
  simp only [State.evaluate]
  split <;> simp

@[simp] theorem State.evaluate_drive (s : State) (n : Slot) :
    (s.evaluate n).drive = s.drive := by
  simp only [State.evaluate]
  split <;> simp

@[simp] theorem State.evaluate_evalQueue (s : State) (n : Slot) :
    (s.evaluate n).evalQueue = s.evalQueue := by
  simp only [State.evaluate]
  split <;> simp

@[simp] theorem State.evaluate_bindings (s : State) (n : Slot) :
    (s.evaluate n).bindings = s.bindings := by
  simp only [State.evaluate]
  split <;> simp

@[simp] theorem State.evaluate_binding (s : State) (n : Slot) (i : BindingId) :
    (s.evaluate n).binding i = s.binding i := by
  simp [State.binding]

@[simp] theorem State.evaluate_transmission (s : State) (n : Slot) :
    (s.evaluate n).transmission = s.transmission := by
  simp only [State.evaluate]
  split <;> simp

@[simp] theorem State.evaluate_seen (s : State) (n : Slot) :
    (s.evaluate n).seen = s.seen := by
  simp only [State.evaluate]
  split <;> simp

@[simp] theorem State.evaluate_rest (s : State) (n : Slot) :
    (s.evaluate n).rest = s.rest := by
  simp only [State.evaluate]
  split <;> simp

/-! `markSeen` -/


@[simp] theorem State.markSeen_time (s : State) (b : Byte) (k : BitVec 3) :
    (s.markSeen b k).time = s.time := rfl

@[simp] theorem State.markSeen_stopLow (s : State) (b : Byte) (k : BitVec 3) :
    (s.markSeen b k).stopLow = s.stopLow := rfl

@[simp] theorem State.markSeen_resetPin (s : State) (b : Byte) (k : BitVec 3) :
    (s.markSeen b k).resetPin = s.resetPin := rfl

@[simp] theorem State.markSeen_drive (s : State) (b : Byte) (k : BitVec 3) :
    (s.markSeen b k).drive = s.drive := rfl

@[simp] theorem State.markSeen_sections (s : State) (b : Byte) (k : BitVec 3) :
    (s.markSeen b k).sections = s.sections := rfl

@[simp] theorem State.markSeen_sec (s : State) (b : Byte) (k : BitVec 3) (i : Slot) :
    (s.markSeen b k).sec i = s.sec i := by
  simp [State.sec]

@[simp] theorem State.markSeen_fans (s : State) (b : Byte) (k : BitVec 3) :
    (s.markSeen b k).fans = s.fans := rfl

@[simp] theorem State.markSeen_fan (s : State) (b : Byte) (k : BitVec 3) (i : Slot) :
    (s.markSeen b k).fan i = s.fan i := by
  simp [State.fan]

@[simp] theorem State.markSeen_loops (s : State) (b : Byte) (k : BitVec 3) :
    (s.markSeen b k).loops = s.loops := rfl

@[simp] theorem State.markSeen_loopRec (s : State) (b : Byte) (k : BitVec 3) (i : LoopId) :
    (s.markSeen b k).loopRec i = s.loopRec i := by
  simp [State.loopRec]

@[simp] theorem State.markSeen_pumps (s : State) (b : Byte) (k : BitVec 3) :
    (s.markSeen b k).pumps = s.pumps := rfl

@[simp] theorem State.markSeen_pump (s : State) (b : Byte) (k : BitVec 3) (i : LoopId) :
    (s.markSeen b k).pump i = s.pump i := by
  simp [State.pump]

@[simp] theorem State.markSeen_evalQueue (s : State) (b : Byte) (k : BitVec 3) :
    (s.markSeen b k).evalQueue = s.evalQueue := rfl

@[simp] theorem State.markSeen_bindings (s : State) (b : Byte) (k : BitVec 3) :
    (s.markSeen b k).bindings = s.bindings := rfl

@[simp] theorem State.markSeen_binding (s : State) (b : Byte) (k : BitVec 3) (i : BindingId) :
    (s.markSeen b k).binding i = s.binding i := by
  simp [State.binding]

@[simp] theorem State.markSeen_txQueue (s : State) (b : Byte) (k : BitVec 3) :
    (s.markSeen b k).txQueue = s.txQueue := rfl

@[simp] theorem State.markSeen_transmission (s : State) (b : Byte) (k : BitVec 3) :
    (s.markSeen b k).transmission = s.transmission := rfl

@[simp] theorem State.markSeen_search (s : State) (b : Byte) (k : BitVec 3) :
    (s.markSeen b k).search = s.search := rfl

@[simp] theorem State.markSeen_lines (s : State) (b : Byte) (k : BitVec 3) :
    (s.markSeen b k).lines = s.lines := rfl

@[simp] theorem State.markSeen_line (s : State) (b : Byte) (k : BitVec 3) (i : LineId) :
    (s.markSeen b k).line i = s.line i := by
  simp [State.line]

@[simp] theorem State.markSeen_attention (s : State) (b : Byte) (k : BitVec 3) :
    (s.markSeen b k).attention = s.attention := rfl

@[simp] theorem State.markSeen_rest (s : State) (b : Byte) (k : BitVec 3) :
    (s.markSeen b k).rest = s.rest := rfl

/-! `becomeLive` -/


@[simp] theorem State.becomeLive_time (s : State) (n : Slot) :
    (s.becomeLive n).time = s.time := by
  simp only [State.becomeLive]
  split <;> simp

@[simp] theorem State.becomeLive_stopLow (s : State) (n : Slot) :
    (s.becomeLive n).stopLow = s.stopLow := by
  simp only [State.becomeLive]
  split <;> simp

@[simp] theorem State.becomeLive_resetPin (s : State) (n : Slot) :
    (s.becomeLive n).resetPin = s.resetPin := by
  simp only [State.becomeLive]
  split <;> simp

@[simp] theorem State.becomeLive_drive (s : State) (n : Slot) :
    (s.becomeLive n).drive = s.drive := by
  simp only [State.becomeLive]
  split <;> simp

@[simp] theorem State.becomeLive_loops (s : State) (n : Slot) :
    (s.becomeLive n).loops = s.loops := by
  simp only [State.becomeLive]
  split <;> simp

@[simp] theorem State.becomeLive_loopRec (s : State) (n : Slot) (i : LoopId) :
    (s.becomeLive n).loopRec i = s.loopRec i := by
  simp [State.loopRec]

@[simp] theorem State.becomeLive_pumps (s : State) (n : Slot) :
    (s.becomeLive n).pumps = s.pumps := by
  simp only [State.becomeLive]
  split <;> simp

@[simp] theorem State.becomeLive_pump (s : State) (n : Slot) (i : LoopId) :
    (s.becomeLive n).pump i = s.pump i := by
  simp [State.pump]

@[simp] theorem State.becomeLive_evalQueue (s : State) (n : Slot) :
    (s.becomeLive n).evalQueue = s.evalQueue := by
  simp only [State.becomeLive]
  split <;> simp

@[simp] theorem State.becomeLive_bindings (s : State) (n : Slot) :
    (s.becomeLive n).bindings = s.bindings := by
  simp only [State.becomeLive]
  split <;> simp

@[simp] theorem State.becomeLive_binding (s : State) (n : Slot) (i : BindingId) :
    (s.becomeLive n).binding i = s.binding i := by
  simp [State.binding]

@[simp] theorem State.becomeLive_txQueue (s : State) (n : Slot) :
    (s.becomeLive n).txQueue = s.txQueue := by
  simp only [State.becomeLive]
  split <;> simp

@[simp] theorem State.becomeLive_transmission (s : State) (n : Slot) :
    (s.becomeLive n).transmission = s.transmission := by
  simp only [State.becomeLive]
  split <;> simp

@[simp] theorem State.becomeLive_search (s : State) (n : Slot) :
    (s.becomeLive n).search = s.search := by
  simp only [State.becomeLive]
  split <;> simp

@[simp] theorem State.becomeLive_lines (s : State) (n : Slot) :
    (s.becomeLive n).lines = s.lines := by
  simp only [State.becomeLive]
  split <;> simp

@[simp] theorem State.becomeLive_line (s : State) (n : Slot) (i : LineId) :
    (s.becomeLive n).line i = s.line i := by
  simp [State.line]

@[simp] theorem State.becomeLive_attention (s : State) (n : Slot) :
    (s.becomeLive n).attention = s.attention := by
  simp only [State.becomeLive]
  split <;> simp

@[simp] theorem State.becomeLive_seen (s : State) (n : Slot) :
    (s.becomeLive n).seen = s.seen := by
  simp only [State.becomeLive]
  split <;> simp

@[simp] theorem State.becomeLive_rest (s : State) (n : Slot) :
    (s.becomeLive n).rest = s.rest := by
  simp only [State.becomeLive]
  split <;> simp

/-! `handOff` -/


@[simp] theorem State.handOff_time (s : State) (d : DestField) (v : Int) :
    (s.handOff d v).time = s.time := by
  simp only [State.handOff]
  (repeat' split) <;> simp

@[simp] theorem State.handOff_stopLow (s : State) (d : DestField) (v : Int) :
    (s.handOff d v).stopLow = s.stopLow := by
  simp only [State.handOff]
  (repeat' split) <;> simp

@[simp] theorem State.handOff_resetPin (s : State) (d : DestField) (v : Int) :
    (s.handOff d v).resetPin = s.resetPin := by
  simp only [State.handOff]
  (repeat' split) <;> simp

@[simp] theorem State.handOff_drive (s : State) (d : DestField) (v : Int) :
    (s.handOff d v).drive = s.drive := by
  simp only [State.handOff]
  (repeat' split) <;> simp

@[simp] theorem State.handOff_pumps (s : State) (d : DestField) (v : Int) :
    (s.handOff d v).pumps = s.pumps := by
  simp only [State.handOff]
  (repeat' split) <;> simp

@[simp] theorem State.handOff_pump (s : State) (d : DestField) (v : Int) (i : LoopId) :
    (s.handOff d v).pump i = s.pump i := by
  simp [State.pump]

@[simp] theorem State.handOff_bindings (s : State) (d : DestField) (v : Int) :
    (s.handOff d v).bindings = s.bindings := by
  simp only [State.handOff]
  (repeat' split) <;> simp

@[simp] theorem State.handOff_binding (s : State) (d : DestField) (v : Int) (i : BindingId) :
    (s.handOff d v).binding i = s.binding i := by
  simp [State.binding]

@[simp] theorem State.handOff_transmission (s : State) (d : DestField) (v : Int) :
    (s.handOff d v).transmission = s.transmission := by
  simp only [State.handOff]
  (repeat' split) <;> simp

@[simp] theorem State.handOff_seen (s : State) (d : DestField) (v : Int) :
    (s.handOff d v).seen = s.seen := by
  simp only [State.handOff]
  (repeat' split) <;> simp

@[simp] theorem State.handOff_rest (s : State) (d : DestField) (v : Int) :
    (s.handOff d v).rest = s.rest := by
  simp only [State.handOff]
  (repeat' split) <;> simp

/-! `capture` -/


@[simp] theorem State.capture_time (s : State) (b : Binding) (v : Int) (q : Quality) :
    (s.capture b v q).time = s.time := by
  simp [State.capture]

@[simp] theorem State.capture_stopLow (s : State) (b : Binding) (v : Int) (q : Quality) :
    (s.capture b v q).stopLow = s.stopLow := by
  simp [State.capture]

@[simp] theorem State.capture_resetPin (s : State) (b : Binding) (v : Int) (q : Quality) :
    (s.capture b v q).resetPin = s.resetPin := by
  simp [State.capture]

@[simp] theorem State.capture_drive (s : State) (b : Binding) (v : Int) (q : Quality) :
    (s.capture b v q).drive = s.drive := by
  simp [State.capture]

@[simp] theorem State.capture_pumps (s : State) (b : Binding) (v : Int) (q : Quality) :
    (s.capture b v q).pumps = s.pumps := by
  simp [State.capture]

@[simp] theorem State.capture_pump (s : State) (b : Binding) (v : Int) (q : Quality) (i : LoopId) :
    (s.capture b v q).pump i = s.pump i := by
  simp [State.pump]

@[simp] theorem State.capture_bindings (s : State) (b : Binding) (v : Int) (q : Quality) :
    (s.capture b v q).bindings = s.bindings := by
  simp [State.capture]

@[simp] theorem State.capture_binding (s : State) (b : Binding) (v : Int) (q : Quality) (i : BindingId) :
    (s.capture b v q).binding i = s.binding i := by
  simp [State.binding]

@[simp] theorem State.capture_transmission (s : State) (b : Binding) (v : Int) (q : Quality) :
    (s.capture b v q).transmission = s.transmission := by
  simp [State.capture]

@[simp] theorem State.capture_seen (s : State) (b : Binding) (v : Int) (q : Quality) :
    (s.capture b v q).seen = s.seen := by
  simp [State.capture]

@[simp] theorem State.capture_rest (s : State) (b : Binding) (v : Int) (q : Quality) :
    (s.capture b v q).rest = s.rest := by
  simp [State.capture]

/-! `deliverTo` -/


@[simp] theorem State.deliverTo_time (s : State) (b : Binding) (r : Reading) :
    (s.deliverTo b r).time = s.time := by
  simp only [State.deliverTo]
  split <;> simp

@[simp] theorem State.deliverTo_stopLow (s : State) (b : Binding) (r : Reading) :
    (s.deliverTo b r).stopLow = s.stopLow := by
  simp only [State.deliverTo]
  split <;> simp

@[simp] theorem State.deliverTo_resetPin (s : State) (b : Binding) (r : Reading) :
    (s.deliverTo b r).resetPin = s.resetPin := by
  simp only [State.deliverTo]
  split <;> simp

@[simp] theorem State.deliverTo_drive (s : State) (b : Binding) (r : Reading) :
    (s.deliverTo b r).drive = s.drive := by
  simp only [State.deliverTo]
  split <;> simp

@[simp] theorem State.deliverTo_pumps (s : State) (b : Binding) (r : Reading) :
    (s.deliverTo b r).pumps = s.pumps := by
  simp only [State.deliverTo]
  split <;> simp

@[simp] theorem State.deliverTo_pump (s : State) (b : Binding) (r : Reading) (i : LoopId) :
    (s.deliverTo b r).pump i = s.pump i := by
  simp [State.pump]

@[simp] theorem State.deliverTo_bindings (s : State) (b : Binding) (r : Reading) :
    (s.deliverTo b r).bindings = s.bindings := by
  simp only [State.deliverTo]
  split <;> simp

@[simp] theorem State.deliverTo_binding (s : State) (b : Binding) (r : Reading) (i : BindingId) :
    (s.deliverTo b r).binding i = s.binding i := by
  simp [State.binding]

@[simp] theorem State.deliverTo_transmission (s : State) (b : Binding) (r : Reading) :
    (s.deliverTo b r).transmission = s.transmission := by
  simp only [State.deliverTo]
  split <;> simp

@[simp] theorem State.deliverTo_seen (s : State) (b : Binding) (r : Reading) :
    (s.deliverTo b r).seen = s.seen := by
  simp only [State.deliverTo]
  split <;> simp

@[simp] theorem State.deliverTo_rest (s : State) (b : Binding) (r : Reading) :
    (s.deliverTo b r).rest = s.rest := by
  simp only [State.deliverTo]
  split <;> simp

/-! `deliver` -/


@[simp] theorem State.deliver_time (s : State) (r : Reading) :
    (s.deliver r).time = s.time := by
  simp only [State.deliver]
  (repeat' split) <;> simp

@[simp] theorem State.deliver_stopLow (s : State) (r : Reading) :
    (s.deliver r).stopLow = s.stopLow := by
  simp only [State.deliver]
  (repeat' split) <;> simp

@[simp] theorem State.deliver_resetPin (s : State) (r : Reading) :
    (s.deliver r).resetPin = s.resetPin := by
  simp only [State.deliver]
  (repeat' split) <;> simp

@[simp] theorem State.deliver_drive (s : State) (r : Reading) :
    (s.deliver r).drive = s.drive := by
  simp only [State.deliver]
  (repeat' split) <;> simp

@[simp] theorem State.deliver_pumps (s : State) (r : Reading) :
    (s.deliver r).pumps = s.pumps := by
  simp only [State.deliver]
  (repeat' split) <;> simp

@[simp] theorem State.deliver_pump (s : State) (r : Reading) (i : LoopId) :
    (s.deliver r).pump i = s.pump i := by
  simp [State.pump]

@[simp] theorem State.deliver_bindings (s : State) (r : Reading) :
    (s.deliver r).bindings = s.bindings := by
  simp only [State.deliver]
  (repeat' split) <;> simp

@[simp] theorem State.deliver_binding (s : State) (r : Reading) (i : BindingId) :
    (s.deliver r).binding i = s.binding i := by
  simp [State.binding]

@[simp] theorem State.deliver_transmission (s : State) (r : Reading) :
    (s.deliver r).transmission = s.transmission := by
  simp only [State.deliver]
  (repeat' split) <;> simp

@[simp] theorem State.deliver_seen (s : State) (r : Reading) :
    (s.deliver r).seen = s.seen := by
  simp only [State.deliver]
  (repeat' split) <;> simp

@[simp] theorem State.deliver_rest (s : State) (r : Reading) :
    (s.deliver r).rest = s.rest := by
  simp only [State.deliver]
  (repeat' split) <;> simp

/-! `arrive` -/


@[simp] theorem State.arrive_time (s : State) (t : Telegram) :
    (s.arrive t).time = s.time := by
  simp only [State.arrive]
  (repeat' split) <;> simp

@[simp] theorem State.arrive_stopLow (s : State) (t : Telegram) :
    (s.arrive t).stopLow = s.stopLow := by
  simp only [State.arrive]
  (repeat' split) <;> simp

@[simp] theorem State.arrive_resetPin (s : State) (t : Telegram) :
    (s.arrive t).resetPin = s.resetPin := by
  simp only [State.arrive]
  (repeat' split) <;> simp

@[simp] theorem State.arrive_drive (s : State) (t : Telegram) :
    (s.arrive t).drive = s.drive := by
  simp only [State.arrive]
  (repeat' split) <;> simp

@[simp] theorem State.arrive_pumps (s : State) (t : Telegram) :
    (s.arrive t).pumps = s.pumps := by
  simp only [State.arrive]
  (repeat' split) <;> simp

@[simp] theorem State.arrive_pump (s : State) (t : Telegram) (i : LoopId) :
    (s.arrive t).pump i = s.pump i := by
  simp [State.pump]

@[simp] theorem State.arrive_bindings (s : State) (t : Telegram) :
    (s.arrive t).bindings = s.bindings := by
  simp only [State.arrive]
  (repeat' split) <;> simp

@[simp] theorem State.arrive_binding (s : State) (t : Telegram) (i : BindingId) :
    (s.arrive t).binding i = s.binding i := by
  simp [State.binding]

@[simp] theorem State.arrive_transmission (s : State) (t : Telegram) :
    (s.arrive t).transmission = s.transmission := by
  simp only [State.arrive]
  (repeat' split) <;> simp

@[simp] theorem State.arrive_rest (s : State) (t : Telegram) :
    (s.arrive t).rest = s.rest := by
  simp only [State.arrive]
  (repeat' split) <;> simp

/-! `makeAwaiting` -/


@[simp] theorem State.makeAwaiting_time (s : State) (d : DestField) :
    (s.makeAwaiting d).time = s.time := by
  simp [State.makeAwaiting]

@[simp] theorem State.makeAwaiting_stopLow (s : State) (d : DestField) :
    (s.makeAwaiting d).stopLow = s.stopLow := by
  simp [State.makeAwaiting]

@[simp] theorem State.makeAwaiting_resetPin (s : State) (d : DestField) :
    (s.makeAwaiting d).resetPin = s.resetPin := by
  simp [State.makeAwaiting]

@[simp] theorem State.makeAwaiting_drive (s : State) (d : DestField) :
    (s.makeAwaiting d).drive = s.drive := by
  simp [State.makeAwaiting]

@[simp] theorem State.makeAwaiting_fans (s : State) (d : DestField) :
    (s.makeAwaiting d).fans = s.fans := by
  simp [State.makeAwaiting]

@[simp] theorem State.makeAwaiting_fan (s : State) (d : DestField) (i : Slot) :
    (s.makeAwaiting d).fan i = s.fan i := by
  simp [State.fan]

@[simp] theorem State.makeAwaiting_pumps (s : State) (d : DestField) :
    (s.makeAwaiting d).pumps = s.pumps := by
  simp [State.makeAwaiting]

@[simp] theorem State.makeAwaiting_pump (s : State) (d : DestField) (i : LoopId) :
    (s.makeAwaiting d).pump i = s.pump i := by
  simp [State.pump]

@[simp] theorem State.makeAwaiting_evalQueue (s : State) (d : DestField) :
    (s.makeAwaiting d).evalQueue = s.evalQueue := by
  simp [State.makeAwaiting]

@[simp] theorem State.makeAwaiting_bindings (s : State) (d : DestField) :
    (s.makeAwaiting d).bindings = s.bindings := by
  simp [State.makeAwaiting]

@[simp] theorem State.makeAwaiting_binding (s : State) (d : DestField) (i : BindingId) :
    (s.makeAwaiting d).binding i = s.binding i := by
  simp [State.binding]

@[simp] theorem State.makeAwaiting_txQueue (s : State) (d : DestField) :
    (s.makeAwaiting d).txQueue = s.txQueue := by
  simp [State.makeAwaiting]

@[simp] theorem State.makeAwaiting_transmission (s : State) (d : DestField) :
    (s.makeAwaiting d).transmission = s.transmission := by
  simp [State.makeAwaiting]

@[simp] theorem State.makeAwaiting_search (s : State) (d : DestField) :
    (s.makeAwaiting d).search = s.search := by
  simp [State.makeAwaiting]

@[simp] theorem State.makeAwaiting_attention (s : State) (d : DestField) :
    (s.makeAwaiting d).attention = s.attention := by
  simp [State.makeAwaiting]

@[simp] theorem State.makeAwaiting_seen (s : State) (d : DestField) :
    (s.makeAwaiting d).seen = s.seen := by
  simp [State.makeAwaiting]

@[simp] theorem State.makeAwaiting_rest (s : State) (d : DestField) :
    (s.makeAwaiting d).rest = s.rest := by
  simp [State.makeAwaiting]

/-! `goStale` -/


@[simp] theorem State.goStale_time (s : State) (d : DestField) :
    (s.goStale d).time = s.time := by
  simp only [State.goStale]
  split <;> simp

@[simp] theorem State.goStale_stopLow (s : State) (d : DestField) :
    (s.goStale d).stopLow = s.stopLow := by
  simp only [State.goStale]
  split <;> simp

@[simp] theorem State.goStale_resetPin (s : State) (d : DestField) :
    (s.goStale d).resetPin = s.resetPin := by
  simp only [State.goStale]
  split <;> simp

@[simp] theorem State.goStale_drive (s : State) (d : DestField) :
    (s.goStale d).drive = s.drive := by
  simp only [State.goStale]
  split <;> simp

@[simp] theorem State.goStale_fans (s : State) (d : DestField) :
    (s.goStale d).fans = s.fans := by
  simp only [State.goStale]
  split <;> simp

@[simp] theorem State.goStale_fan (s : State) (d : DestField) (i : Slot) :
    (s.goStale d).fan i = s.fan i := by
  simp [State.fan]

@[simp] theorem State.goStale_pumps (s : State) (d : DestField) :
    (s.goStale d).pumps = s.pumps := by
  simp only [State.goStale]
  split <;> simp

@[simp] theorem State.goStale_pump (s : State) (d : DestField) (i : LoopId) :
    (s.goStale d).pump i = s.pump i := by
  simp [State.pump]

@[simp] theorem State.goStale_evalQueue (s : State) (d : DestField) :
    (s.goStale d).evalQueue = s.evalQueue := by
  simp only [State.goStale]
  split <;> simp

@[simp] theorem State.goStale_bindings (s : State) (d : DestField) :
    (s.goStale d).bindings = s.bindings := by
  simp only [State.goStale]
  split <;> simp

@[simp] theorem State.goStale_binding (s : State) (d : DestField) (i : BindingId) :
    (s.goStale d).binding i = s.binding i := by
  simp [State.binding]

@[simp] theorem State.goStale_txQueue (s : State) (d : DestField) :
    (s.goStale d).txQueue = s.txQueue := by
  simp only [State.goStale]
  split <;> simp

@[simp] theorem State.goStale_transmission (s : State) (d : DestField) :
    (s.goStale d).transmission = s.transmission := by
  simp only [State.goStale]
  split <;> simp

@[simp] theorem State.goStale_search (s : State) (d : DestField) :
    (s.goStale d).search = s.search := by
  simp only [State.goStale]
  split <;> simp

@[simp] theorem State.goStale_seen (s : State) (d : DestField) :
    (s.goStale d).seen = s.seen := by
  simp only [State.goStale]
  split <;> simp

@[simp] theorem State.goStale_rest (s : State) (d : DestField) :
    (s.goStale d).rest = s.rest := by
  simp only [State.goStale]
  split <;> simp

/-! `unbindSection` -/


@[simp] theorem State.unbindSection_time (s : State) (n : Slot) :
    (s.unbindSection n).time = s.time := by
  simp only [State.unbindSection, State.modSec_time]
  exact foldl_keeps State.time _ (by intro s a; (repeat' split) <;> simp) _ _

@[simp] theorem State.unbindSection_stopLow (s : State) (n : Slot) :
    (s.unbindSection n).stopLow = s.stopLow := by
  simp only [State.unbindSection, State.modSec_stopLow]
  exact foldl_keeps State.stopLow _ (by intro s a; (repeat' split) <;> simp) _ _

@[simp] theorem State.unbindSection_resetPin (s : State) (n : Slot) :
    (s.unbindSection n).resetPin = s.resetPin := by
  simp only [State.unbindSection, State.modSec_resetPin]
  exact foldl_keeps State.resetPin _ (by intro s a; (repeat' split) <;> simp) _ _

@[simp] theorem State.unbindSection_drive (s : State) (n : Slot) :
    (s.unbindSection n).drive = s.drive := by
  simp only [State.unbindSection, State.modSec_drive]
  exact foldl_keeps State.drive _ (by intro s a; (repeat' split) <;> simp) _ _

@[simp] theorem State.unbindSection_fans (s : State) (n : Slot) :
    (s.unbindSection n).fans = s.fans := by
  simp only [State.unbindSection, State.modSec_fans]
  exact foldl_keeps State.fans _ (by intro s a; (repeat' split) <;> simp) _ _

@[simp] theorem State.unbindSection_fan (s : State) (n : Slot) (i : Slot) :
    (s.unbindSection n).fan i = s.fan i := by
  simp [State.fan]

@[simp] theorem State.unbindSection_loops (s : State) (n : Slot) :
    (s.unbindSection n).loops = s.loops := by
  simp only [State.unbindSection, State.modSec_loops]
  exact foldl_keeps State.loops _ (by intro s a; (repeat' split) <;> simp) _ _

@[simp] theorem State.unbindSection_loopRec (s : State) (n : Slot) (i : LoopId) :
    (s.unbindSection n).loopRec i = s.loopRec i := by
  simp [State.loopRec]

@[simp] theorem State.unbindSection_pumps (s : State) (n : Slot) :
    (s.unbindSection n).pumps = s.pumps := by
  simp only [State.unbindSection, State.modSec_pumps]
  exact foldl_keeps State.pumps _ (by intro s a; (repeat' split) <;> simp) _ _

@[simp] theorem State.unbindSection_pump (s : State) (n : Slot) (i : LoopId) :
    (s.unbindSection n).pump i = s.pump i := by
  simp [State.pump]

@[simp] theorem State.unbindSection_evalQueue (s : State) (n : Slot) :
    (s.unbindSection n).evalQueue = s.evalQueue := by
  simp only [State.unbindSection, State.modSec_evalQueue]
  exact foldl_keeps State.evalQueue _ (by intro s a; (repeat' split) <;> simp) _ _

@[simp] theorem State.unbindSection_txQueue (s : State) (n : Slot) :
    (s.unbindSection n).txQueue = s.txQueue := by
  simp only [State.unbindSection, State.modSec_txQueue]
  exact foldl_keeps State.txQueue _ (by intro s a; (repeat' split) <;> simp) _ _

@[simp] theorem State.unbindSection_transmission (s : State) (n : Slot) :
    (s.unbindSection n).transmission = s.transmission := by
  simp only [State.unbindSection, State.modSec_transmission]
  exact foldl_keeps State.transmission _ (by intro s a; (repeat' split) <;> simp) _ _

@[simp] theorem State.unbindSection_search (s : State) (n : Slot) :
    (s.unbindSection n).search = s.search := by
  simp only [State.unbindSection, State.modSec_search]
  exact foldl_keeps State.search _ (by intro s a; (repeat' split) <;> simp) _ _

@[simp] theorem State.unbindSection_lines (s : State) (n : Slot) :
    (s.unbindSection n).lines = s.lines := by
  simp only [State.unbindSection, State.modSec_lines]
  exact foldl_keeps State.lines _ (by intro s a; (repeat' split) <;> simp) _ _

@[simp] theorem State.unbindSection_line (s : State) (n : Slot) (i : LineId) :
    (s.unbindSection n).line i = s.line i := by
  simp [State.line]

@[simp] theorem State.unbindSection_seen (s : State) (n : Slot) :
    (s.unbindSection n).seen = s.seen := by
  simp only [State.unbindSection, State.modSec_seen]
  exact foldl_keeps State.seen _ (by intro s a; (repeat' split) <;> simp) _ _

@[simp] theorem State.unbindSection_rest (s : State) (n : Slot) :
    (s.unbindSection n).rest = s.rest := by
  simp only [State.unbindSection, State.modSec_rest]
  exact foldl_keeps State.rest _ (by intro s a; (repeat' split) <;> simp) _ _

/-! `enrol` -/


@[simp] theorem State.enrol_time (s : State) (n : Slot) (c : SectionConfig) :
    (s.enrol n c).time = s.time := by
  simp only [State.enrol]
  split <;> simp

@[simp] theorem State.enrol_stopLow (s : State) (n : Slot) (c : SectionConfig) :
    (s.enrol n c).stopLow = s.stopLow := by
  simp only [State.enrol]
  split <;> simp

@[simp] theorem State.enrol_resetPin (s : State) (n : Slot) (c : SectionConfig) :
    (s.enrol n c).resetPin = s.resetPin := by
  simp only [State.enrol]
  split <;> simp

@[simp] theorem State.enrol_drive (s : State) (n : Slot) (c : SectionConfig) :
    (s.enrol n c).drive = s.drive := by
  simp only [State.enrol]
  split <;> simp

@[simp] theorem State.enrol_loops (s : State) (n : Slot) (c : SectionConfig) :
    (s.enrol n c).loops = s.loops := by
  simp only [State.enrol]
  split <;> simp

@[simp] theorem State.enrol_loopRec (s : State) (n : Slot) (c : SectionConfig) (i : LoopId) :
    (s.enrol n c).loopRec i = s.loopRec i := by
  simp [State.loopRec]

@[simp] theorem State.enrol_pumps (s : State) (n : Slot) (c : SectionConfig) :
    (s.enrol n c).pumps = s.pumps := by
  simp only [State.enrol]
  split <;> simp

@[simp] theorem State.enrol_pump (s : State) (n : Slot) (c : SectionConfig) (i : LoopId) :
    (s.enrol n c).pump i = s.pump i := by
  simp [State.pump]

@[simp] theorem State.enrol_evalQueue (s : State) (n : Slot) (c : SectionConfig) :
    (s.enrol n c).evalQueue = s.evalQueue := by
  simp only [State.enrol]
  split <;> simp

@[simp] theorem State.enrol_bindings (s : State) (n : Slot) (c : SectionConfig) :
    (s.enrol n c).bindings = s.bindings := by
  simp only [State.enrol]
  split <;> simp

@[simp] theorem State.enrol_binding (s : State) (n : Slot) (c : SectionConfig) (i : BindingId) :
    (s.enrol n c).binding i = s.binding i := by
  simp [State.binding]

@[simp] theorem State.enrol_transmission (s : State) (n : Slot) (c : SectionConfig) :
    (s.enrol n c).transmission = s.transmission := by
  simp only [State.enrol]
  split <;> simp

@[simp] theorem State.enrol_search (s : State) (n : Slot) (c : SectionConfig) :
    (s.enrol n c).search = s.search := by
  simp only [State.enrol]
  split <;> simp

@[simp] theorem State.enrol_lines (s : State) (n : Slot) (c : SectionConfig) :
    (s.enrol n c).lines = s.lines := by
  simp only [State.enrol]
  split <;> simp

@[simp] theorem State.enrol_line (s : State) (n : Slot) (c : SectionConfig) (i : LineId) :
    (s.enrol n c).line i = s.line i := by
  simp [State.line]

@[simp] theorem State.enrol_attention (s : State) (n : Slot) (c : SectionConfig) :
    (s.enrol n c).attention = s.attention := by
  simp only [State.enrol]
  split <;> simp

@[simp] theorem State.enrol_seen (s : State) (n : Slot) (c : SectionConfig) :
    (s.enrol n c).seen = s.seen := by
  simp only [State.enrol]
  split <;> simp

@[simp] theorem State.enrol_rest (s : State) (n : Slot) (c : SectionConfig) :
    (s.enrol n c).rest = s.rest := by
  simp only [State.enrol]
  split <;> simp

/-! `setValveNode` -/


@[simp] theorem State.setValveNode_time (s : State) (n : Slot) (b : Option Byte) :
    (s.setValveNode n b).time = s.time := by
  simp only [State.setValveNode]
  split <;> simp

@[simp] theorem State.setValveNode_stopLow (s : State) (n : Slot) (b : Option Byte) :
    (s.setValveNode n b).stopLow = s.stopLow := by
  simp only [State.setValveNode]
  split <;> simp

@[simp] theorem State.setValveNode_resetPin (s : State) (n : Slot) (b : Option Byte) :
    (s.setValveNode n b).resetPin = s.resetPin := by
  simp only [State.setValveNode]
  split <;> simp

@[simp] theorem State.setValveNode_drive (s : State) (n : Slot) (b : Option Byte) :
    (s.setValveNode n b).drive = s.drive := by
  simp only [State.setValveNode]
  split <;> simp

@[simp] theorem State.setValveNode_fans (s : State) (n : Slot) (b : Option Byte) :
    (s.setValveNode n b).fans = s.fans := by
  simp only [State.setValveNode]
  split <;> simp

@[simp] theorem State.setValveNode_fan (s : State) (n : Slot) (b : Option Byte) (i : Slot) :
    (s.setValveNode n b).fan i = s.fan i := by
  simp [State.fan]

@[simp] theorem State.setValveNode_loops (s : State) (n : Slot) (b : Option Byte) :
    (s.setValveNode n b).loops = s.loops := by
  simp only [State.setValveNode]
  split <;> simp

@[simp] theorem State.setValveNode_loopRec (s : State) (n : Slot) (b : Option Byte) (i : LoopId) :
    (s.setValveNode n b).loopRec i = s.loopRec i := by
  simp [State.loopRec]

@[simp] theorem State.setValveNode_pumps (s : State) (n : Slot) (b : Option Byte) :
    (s.setValveNode n b).pumps = s.pumps := by
  simp only [State.setValveNode]
  split <;> simp

@[simp] theorem State.setValveNode_pump (s : State) (n : Slot) (b : Option Byte) (i : LoopId) :
    (s.setValveNode n b).pump i = s.pump i := by
  simp [State.pump]

@[simp] theorem State.setValveNode_evalQueue (s : State) (n : Slot) (b : Option Byte) :
    (s.setValveNode n b).evalQueue = s.evalQueue := by
  simp only [State.setValveNode]
  split <;> simp

@[simp] theorem State.setValveNode_bindings (s : State) (n : Slot) (b : Option Byte) :
    (s.setValveNode n b).bindings = s.bindings := by
  simp only [State.setValveNode]
  split <;> simp

@[simp] theorem State.setValveNode_binding (s : State) (n : Slot) (b : Option Byte) (i : BindingId) :
    (s.setValveNode n b).binding i = s.binding i := by
  simp [State.binding]

@[simp] theorem State.setValveNode_search (s : State) (n : Slot) (b : Option Byte) :
    (s.setValveNode n b).search = s.search := by
  simp only [State.setValveNode]
  split <;> simp

@[simp] theorem State.setValveNode_lines (s : State) (n : Slot) (b : Option Byte) :
    (s.setValveNode n b).lines = s.lines := by
  simp only [State.setValveNode]
  split <;> simp

@[simp] theorem State.setValveNode_line (s : State) (n : Slot) (b : Option Byte) (i : LineId) :
    (s.setValveNode n b).line i = s.line i := by
  simp [State.line]

@[simp] theorem State.setValveNode_attention (s : State) (n : Slot) (b : Option Byte) :
    (s.setValveNode n b).attention = s.attention := by
  simp only [State.setValveNode]
  split <;> simp

@[simp] theorem State.setValveNode_seen (s : State) (n : Slot) (b : Option Byte) :
    (s.setValveNode n b).seen = s.seen := by
  simp only [State.setValveNode]
  split <;> simp

@[simp] theorem State.setValveNode_rest (s : State) (n : Slot) (b : Option Byte) :
    (s.setValveNode n b).rest = s.rest := by
  simp only [State.setValveNode]
  split <;> simp

/-! `amendLimitSet` -/


@[simp] theorem State.amendLimitSet_time (s : State) (n : Slot) (k : Nat) (b : Bool) (m : LimitSet) :
    (s.amendLimitSet n k b m).time = s.time := by
  simp only [State.amendLimitSet]
  (repeat' split) <;> simp

@[simp] theorem State.amendLimitSet_stopLow (s : State) (n : Slot) (k : Nat) (b : Bool) (m : LimitSet) :
    (s.amendLimitSet n k b m).stopLow = s.stopLow := by
  simp only [State.amendLimitSet]
  (repeat' split) <;> simp

@[simp] theorem State.amendLimitSet_resetPin (s : State) (n : Slot) (k : Nat) (b : Bool) (m : LimitSet) :
    (s.amendLimitSet n k b m).resetPin = s.resetPin := by
  simp only [State.amendLimitSet]
  (repeat' split) <;> simp

@[simp] theorem State.amendLimitSet_drive (s : State) (n : Slot) (k : Nat) (b : Bool) (m : LimitSet) :
    (s.amendLimitSet n k b m).drive = s.drive := by
  simp only [State.amendLimitSet]
  (repeat' split) <;> simp

@[simp] theorem State.amendLimitSet_loops (s : State) (n : Slot) (k : Nat) (b : Bool) (m : LimitSet) :
    (s.amendLimitSet n k b m).loops = s.loops := by
  simp only [State.amendLimitSet]
  (repeat' split) <;> simp

@[simp] theorem State.amendLimitSet_loopRec (s : State) (n : Slot) (k : Nat) (b : Bool) (m : LimitSet) (i : LoopId) :
    (s.amendLimitSet n k b m).loopRec i = s.loopRec i := by
  simp [State.loopRec]

@[simp] theorem State.amendLimitSet_pumps (s : State) (n : Slot) (k : Nat) (b : Bool) (m : LimitSet) :
    (s.amendLimitSet n k b m).pumps = s.pumps := by
  simp only [State.amendLimitSet]
  (repeat' split) <;> simp

@[simp] theorem State.amendLimitSet_pump (s : State) (n : Slot) (k : Nat) (b : Bool) (m : LimitSet) (i : LoopId) :
    (s.amendLimitSet n k b m).pump i = s.pump i := by
  simp [State.pump]

@[simp] theorem State.amendLimitSet_evalQueue (s : State) (n : Slot) (k : Nat) (b : Bool) (m : LimitSet) :
    (s.amendLimitSet n k b m).evalQueue = s.evalQueue := by
  simp only [State.amendLimitSet]
  (repeat' split) <;> simp

@[simp] theorem State.amendLimitSet_bindings (s : State) (n : Slot) (k : Nat) (b : Bool) (m : LimitSet) :
    (s.amendLimitSet n k b m).bindings = s.bindings := by
  simp only [State.amendLimitSet]
  (repeat' split) <;> simp

@[simp] theorem State.amendLimitSet_binding (s : State) (n : Slot) (k : Nat) (b : Bool) (m : LimitSet) (i : BindingId) :
    (s.amendLimitSet n k b m).binding i = s.binding i := by
  simp [State.binding]

@[simp] theorem State.amendLimitSet_txQueue (s : State) (n : Slot) (k : Nat) (b : Bool) (m : LimitSet) :
    (s.amendLimitSet n k b m).txQueue = s.txQueue := by
  simp only [State.amendLimitSet]
  (repeat' split) <;> simp

@[simp] theorem State.amendLimitSet_transmission (s : State) (n : Slot) (k : Nat) (b : Bool) (m : LimitSet) :
    (s.amendLimitSet n k b m).transmission = s.transmission := by
  simp only [State.amendLimitSet]
  (repeat' split) <;> simp

@[simp] theorem State.amendLimitSet_search (s : State) (n : Slot) (k : Nat) (b : Bool) (m : LimitSet) :
    (s.amendLimitSet n k b m).search = s.search := by
  simp only [State.amendLimitSet]
  (repeat' split) <;> simp

@[simp] theorem State.amendLimitSet_lines (s : State) (n : Slot) (k : Nat) (b : Bool) (m : LimitSet) :
    (s.amendLimitSet n k b m).lines = s.lines := by
  simp only [State.amendLimitSet]
  (repeat' split) <;> simp

@[simp] theorem State.amendLimitSet_line (s : State) (n : Slot) (k : Nat) (b : Bool) (m : LimitSet) (i : LineId) :
    (s.amendLimitSet n k b m).line i = s.line i := by
  simp [State.line]

@[simp] theorem State.amendLimitSet_attention (s : State) (n : Slot) (k : Nat) (b : Bool) (m : LimitSet) :
    (s.amendLimitSet n k b m).attention = s.attention := by
  simp only [State.amendLimitSet]
  (repeat' split) <;> simp

@[simp] theorem State.amendLimitSet_seen (s : State) (n : Slot) (k : Nat) (b : Bool) (m : LimitSet) :
    (s.amendLimitSet n k b m).seen = s.seen := by
  simp only [State.amendLimitSet]
  (repeat' split) <;> simp

@[simp] theorem State.amendLimitSet_rest (s : State) (n : Slot) (k : Nat) (b : Bool) (m : LimitSet) :
    (s.amendLimitSet n k b m).rest = s.rest := by
  simp only [State.amendLimitSet]
  (repeat' split) <;> simp

/-! `retireValve` -/


@[simp] theorem State.retireValve_time (s : State) (n : Slot) :
    (s.retireValve n).time = s.time := by
  simp only [State.retireValve]
  (repeat' split) <;> simp

@[simp] theorem State.retireValve_stopLow (s : State) (n : Slot) :
    (s.retireValve n).stopLow = s.stopLow := by
  simp only [State.retireValve]
  (repeat' split) <;> simp

@[simp] theorem State.retireValve_resetPin (s : State) (n : Slot) :
    (s.retireValve n).resetPin = s.resetPin := by
  simp only [State.retireValve]
  (repeat' split) <;> simp

@[simp] theorem State.retireValve_drive (s : State) (n : Slot) :
    (s.retireValve n).drive = s.drive := by
  simp only [State.retireValve]
  (repeat' split) <;> simp

@[simp] theorem State.retireValve_pumps (s : State) (n : Slot) :
    (s.retireValve n).pumps = s.pumps := by
  simp only [State.retireValve]
  (repeat' split) <;> simp

@[simp] theorem State.retireValve_pump (s : State) (n : Slot) (i : LoopId) :
    (s.retireValve n).pump i = s.pump i := by
  simp [State.pump]

@[simp] theorem State.retireValve_evalQueue (s : State) (n : Slot) :
    (s.retireValve n).evalQueue = s.evalQueue := by
  simp only [State.retireValve]
  (repeat' split) <;> simp

@[simp] theorem State.retireValve_bindings (s : State) (n : Slot) :
    (s.retireValve n).bindings = s.bindings := by
  simp only [State.retireValve]
  (repeat' split) <;> simp

@[simp] theorem State.retireValve_binding (s : State) (n : Slot) (i : BindingId) :
    (s.retireValve n).binding i = s.binding i := by
  simp [State.binding]

@[simp] theorem State.retireValve_seen (s : State) (n : Slot) :
    (s.retireValve n).seen = s.seen := by
  simp only [State.retireValve]
  (repeat' split) <;> simp

@[simp] theorem State.retireValve_rest (s : State) (n : Slot) :
    (s.retireValve n).rest = s.rest := by
  simp only [State.retireValve]
  (repeat' split) <;> simp

/-! `retire` -/


@[simp] theorem State.retire_time (s : State) (n : Slot) :
    (s.retire n).time = s.time := by
  simp [State.retire]

@[simp] theorem State.retire_stopLow (s : State) (n : Slot) :
    (s.retire n).stopLow = s.stopLow := by
  simp [State.retire]

@[simp] theorem State.retire_resetPin (s : State) (n : Slot) :
    (s.retire n).resetPin = s.resetPin := by
  simp [State.retire]

@[simp] theorem State.retire_drive (s : State) (n : Slot) :
    (s.retire n).drive = s.drive := by
  simp [State.retire]

@[simp] theorem State.retire_seen (s : State) (n : Slot) :
    (s.retire n).seen = s.seen := by
  simp [State.retire]

@[simp] theorem State.retire_rest (s : State) (n : Slot) :
    (s.retire n).rest = s.rest := by
  simp [State.retire]

/-! `becomeSet` -/


@[simp] theorem State.becomeSet_time (s : State) (l : LoopId) (c : LoopConfig) :
    (s.becomeSet l c).time = s.time := by
  simp [State.becomeSet]

@[simp] theorem State.becomeSet_stopLow (s : State) (l : LoopId) (c : LoopConfig) :
    (s.becomeSet l c).stopLow = s.stopLow := by
  simp [State.becomeSet]

@[simp] theorem State.becomeSet_resetPin (s : State) (l : LoopId) (c : LoopConfig) :
    (s.becomeSet l c).resetPin = s.resetPin := by
  simp [State.becomeSet]

@[simp] theorem State.becomeSet_drive (s : State) (l : LoopId) (c : LoopConfig) :
    (s.becomeSet l c).drive = s.drive := by
  simp [State.becomeSet]

@[simp] theorem State.becomeSet_sections (s : State) (l : LoopId) (c : LoopConfig) :
    (s.becomeSet l c).sections = s.sections := by
  simp [State.becomeSet]

@[simp] theorem State.becomeSet_sec (s : State) (l : LoopId) (c : LoopConfig) (i : Slot) :
    (s.becomeSet l c).sec i = s.sec i := by
  simp [State.sec]

@[simp] theorem State.becomeSet_fans (s : State) (l : LoopId) (c : LoopConfig) :
    (s.becomeSet l c).fans = s.fans := by
  simp [State.becomeSet]

@[simp] theorem State.becomeSet_fan (s : State) (l : LoopId) (c : LoopConfig) (i : Slot) :
    (s.becomeSet l c).fan i = s.fan i := by
  simp [State.fan]

@[simp] theorem State.becomeSet_evalQueue (s : State) (l : LoopId) (c : LoopConfig) :
    (s.becomeSet l c).evalQueue = s.evalQueue := by
  simp [State.becomeSet]

@[simp] theorem State.becomeSet_bindings (s : State) (l : LoopId) (c : LoopConfig) :
    (s.becomeSet l c).bindings = s.bindings := by
  simp [State.becomeSet]

@[simp] theorem State.becomeSet_binding (s : State) (l : LoopId) (c : LoopConfig) (i : BindingId) :
    (s.becomeSet l c).binding i = s.binding i := by
  simp [State.binding]

@[simp] theorem State.becomeSet_txQueue (s : State) (l : LoopId) (c : LoopConfig) :
    (s.becomeSet l c).txQueue = s.txQueue := by
  simp [State.becomeSet]

@[simp] theorem State.becomeSet_transmission (s : State) (l : LoopId) (c : LoopConfig) :
    (s.becomeSet l c).transmission = s.transmission := by
  simp [State.becomeSet]

@[simp] theorem State.becomeSet_search (s : State) (l : LoopId) (c : LoopConfig) :
    (s.becomeSet l c).search = s.search := by
  simp [State.becomeSet]

@[simp] theorem State.becomeSet_lines (s : State) (l : LoopId) (c : LoopConfig) :
    (s.becomeSet l c).lines = s.lines := by
  simp [State.becomeSet]

@[simp] theorem State.becomeSet_line (s : State) (l : LoopId) (c : LoopConfig) (i : LineId) :
    (s.becomeSet l c).line i = s.line i := by
  simp [State.line]

@[simp] theorem State.becomeSet_attention (s : State) (l : LoopId) (c : LoopConfig) :
    (s.becomeSet l c).attention = s.attention := by
  simp [State.becomeSet]

@[simp] theorem State.becomeSet_seen (s : State) (l : LoopId) (c : LoopConfig) :
    (s.becomeSet l c).seen = s.seen := by
  simp [State.becomeSet]

@[simp] theorem State.becomeSet_rest (s : State) (l : LoopId) (c : LoopConfig) :
    (s.becomeSet l c).rest = s.rest := by
  simp [State.becomeSet]

/-! `unsetLoop` -/


@[simp] theorem State.unsetLoop_time (s : State) (l : LoopId) :
    (s.unsetLoop l).time = s.time := by
  simp [State.unsetLoop]

@[simp] theorem State.unsetLoop_stopLow (s : State) (l : LoopId) :
    (s.unsetLoop l).stopLow = s.stopLow := by
  simp [State.unsetLoop]

@[simp] theorem State.unsetLoop_resetPin (s : State) (l : LoopId) :
    (s.unsetLoop l).resetPin = s.resetPin := by
  simp [State.unsetLoop]

@[simp] theorem State.unsetLoop_drive (s : State) (l : LoopId) :
    (s.unsetLoop l).drive = s.drive := by
  simp [State.unsetLoop]

@[simp] theorem State.unsetLoop_sections (s : State) (l : LoopId) :
    (s.unsetLoop l).sections = s.sections := by
  simp [State.unsetLoop]

@[simp] theorem State.unsetLoop_sec (s : State) (l : LoopId) (i : Slot) :
    (s.unsetLoop l).sec i = s.sec i := by
  simp [State.sec]

@[simp] theorem State.unsetLoop_fans (s : State) (l : LoopId) :
    (s.unsetLoop l).fans = s.fans := by
  simp [State.unsetLoop]

@[simp] theorem State.unsetLoop_fan (s : State) (l : LoopId) (i : Slot) :
    (s.unsetLoop l).fan i = s.fan i := by
  simp [State.fan]

@[simp] theorem State.unsetLoop_evalQueue (s : State) (l : LoopId) :
    (s.unsetLoop l).evalQueue = s.evalQueue := by
  simp [State.unsetLoop]

@[simp] theorem State.unsetLoop_bindings (s : State) (l : LoopId) :
    (s.unsetLoop l).bindings = s.bindings := by
  simp [State.unsetLoop]

@[simp] theorem State.unsetLoop_binding (s : State) (l : LoopId) (i : BindingId) :
    (s.unsetLoop l).binding i = s.binding i := by
  simp [State.binding]

@[simp] theorem State.unsetLoop_txQueue (s : State) (l : LoopId) :
    (s.unsetLoop l).txQueue = s.txQueue := by
  simp [State.unsetLoop]

@[simp] theorem State.unsetLoop_transmission (s : State) (l : LoopId) :
    (s.unsetLoop l).transmission = s.transmission := by
  simp [State.unsetLoop]

@[simp] theorem State.unsetLoop_search (s : State) (l : LoopId) :
    (s.unsetLoop l).search = s.search := by
  simp [State.unsetLoop]

@[simp] theorem State.unsetLoop_lines (s : State) (l : LoopId) :
    (s.unsetLoop l).lines = s.lines := by
  simp [State.unsetLoop]

@[simp] theorem State.unsetLoop_line (s : State) (l : LoopId) (i : LineId) :
    (s.unsetLoop l).line i = s.line i := by
  simp [State.line]

@[simp] theorem State.unsetLoop_seen (s : State) (l : LoopId) :
    (s.unsetLoop l).seen = s.seen := by
  simp [State.unsetLoop]

@[simp] theorem State.unsetLoop_rest (s : State) (l : LoopId) :
    (s.unsetLoop l).rest = s.rest := by
  simp [State.unsetLoop]

/-! `bindTo` -/


@[simp] theorem State.bindTo_time (s : State) (b : BindingId) (f : Binding) :
    (s.bindTo b f).time = s.time := by
  simp only [State.bindTo]
  split <;> simp

@[simp] theorem State.bindTo_stopLow (s : State) (b : BindingId) (f : Binding) :
    (s.bindTo b f).stopLow = s.stopLow := by
  simp only [State.bindTo]
  split <;> simp

@[simp] theorem State.bindTo_resetPin (s : State) (b : BindingId) (f : Binding) :
    (s.bindTo b f).resetPin = s.resetPin := by
  simp only [State.bindTo]
  split <;> simp

@[simp] theorem State.bindTo_drive (s : State) (b : BindingId) (f : Binding) :
    (s.bindTo b f).drive = s.drive := by
  simp only [State.bindTo]
  split <;> simp

@[simp] theorem State.bindTo_fans (s : State) (b : BindingId) (f : Binding) :
    (s.bindTo b f).fans = s.fans := by
  simp only [State.bindTo]
  split <;> simp

@[simp] theorem State.bindTo_fan (s : State) (b : BindingId) (f : Binding) (i : Slot) :
    (s.bindTo b f).fan i = s.fan i := by
  simp [State.fan]

@[simp] theorem State.bindTo_pumps (s : State) (b : BindingId) (f : Binding) :
    (s.bindTo b f).pumps = s.pumps := by
  simp only [State.bindTo]
  split <;> simp

@[simp] theorem State.bindTo_pump (s : State) (b : BindingId) (f : Binding) (i : LoopId) :
    (s.bindTo b f).pump i = s.pump i := by
  simp [State.pump]

@[simp] theorem State.bindTo_evalQueue (s : State) (b : BindingId) (f : Binding) :
    (s.bindTo b f).evalQueue = s.evalQueue := by
  simp only [State.bindTo]
  split <;> simp

@[simp] theorem State.bindTo_txQueue (s : State) (b : BindingId) (f : Binding) :
    (s.bindTo b f).txQueue = s.txQueue := by
  simp only [State.bindTo]
  split <;> simp

@[simp] theorem State.bindTo_transmission (s : State) (b : BindingId) (f : Binding) :
    (s.bindTo b f).transmission = s.transmission := by
  simp only [State.bindTo]
  split <;> simp

@[simp] theorem State.bindTo_search (s : State) (b : BindingId) (f : Binding) :
    (s.bindTo b f).search = s.search := by
  simp only [State.bindTo]
  split <;> simp

@[simp] theorem State.bindTo_seen (s : State) (b : BindingId) (f : Binding) :
    (s.bindTo b f).seen = s.seen := by
  simp only [State.bindTo]
  split <;> simp

@[simp] theorem State.bindTo_rest (s : State) (b : BindingId) (f : Binding) :
    (s.bindTo b f).rest = s.rest := by
  simp only [State.bindTo]
  split <;> simp

/-! `unbind` -/


@[simp] theorem State.unbind_time (s : State) (b : BindingId) :
    (s.unbind b).time = s.time := by
  simp only [State.unbind]
  split <;> simp

@[simp] theorem State.unbind_stopLow (s : State) (b : BindingId) :
    (s.unbind b).stopLow = s.stopLow := by
  simp only [State.unbind]
  split <;> simp

@[simp] theorem State.unbind_resetPin (s : State) (b : BindingId) :
    (s.unbind b).resetPin = s.resetPin := by
  simp only [State.unbind]
  split <;> simp

@[simp] theorem State.unbind_drive (s : State) (b : BindingId) :
    (s.unbind b).drive = s.drive := by
  simp only [State.unbind]
  split <;> simp

@[simp] theorem State.unbind_fans (s : State) (b : BindingId) :
    (s.unbind b).fans = s.fans := by
  simp only [State.unbind]
  split <;> simp

@[simp] theorem State.unbind_fan (s : State) (b : BindingId) (i : Slot) :
    (s.unbind b).fan i = s.fan i := by
  simp [State.fan]

@[simp] theorem State.unbind_pumps (s : State) (b : BindingId) :
    (s.unbind b).pumps = s.pumps := by
  simp only [State.unbind]
  split <;> simp

@[simp] theorem State.unbind_pump (s : State) (b : BindingId) (i : LoopId) :
    (s.unbind b).pump i = s.pump i := by
  simp [State.pump]

@[simp] theorem State.unbind_evalQueue (s : State) (b : BindingId) :
    (s.unbind b).evalQueue = s.evalQueue := by
  simp only [State.unbind]
  split <;> simp

@[simp] theorem State.unbind_txQueue (s : State) (b : BindingId) :
    (s.unbind b).txQueue = s.txQueue := by
  simp only [State.unbind]
  split <;> simp

@[simp] theorem State.unbind_transmission (s : State) (b : BindingId) :
    (s.unbind b).transmission = s.transmission := by
  simp only [State.unbind]
  split <;> simp

@[simp] theorem State.unbind_search (s : State) (b : BindingId) :
    (s.unbind b).search = s.search := by
  simp only [State.unbind]
  split <;> simp

@[simp] theorem State.unbind_seen (s : State) (b : BindingId) :
    (s.unbind b).seen = s.seen := by
  simp only [State.unbind]
  split <;> simp

@[simp] theorem State.unbind_rest (s : State) (b : BindingId) :
    (s.unbind b).rest = s.rest := by
  simp only [State.unbind]
  split <;> simp

/-! `holdBinding` -/


@[simp] theorem State.holdBinding_time (s : State) (b : BindingId) (f : Binding) :
    (s.holdBinding b f).time = s.time := by
  simp [State.holdBinding]

@[simp] theorem State.holdBinding_stopLow (s : State) (b : BindingId) (f : Binding) :
    (s.holdBinding b f).stopLow = s.stopLow := by
  simp [State.holdBinding]

@[simp] theorem State.holdBinding_resetPin (s : State) (b : BindingId) (f : Binding) :
    (s.holdBinding b f).resetPin = s.resetPin := by
  simp [State.holdBinding]

@[simp] theorem State.holdBinding_drive (s : State) (b : BindingId) (f : Binding) :
    (s.holdBinding b f).drive = s.drive := by
  simp [State.holdBinding]

@[simp] theorem State.holdBinding_fans (s : State) (b : BindingId) (f : Binding) :
    (s.holdBinding b f).fans = s.fans := by
  simp [State.holdBinding]

@[simp] theorem State.holdBinding_fan (s : State) (b : BindingId) (f : Binding) (i : Slot) :
    (s.holdBinding b f).fan i = s.fan i := by
  simp [State.fan]

@[simp] theorem State.holdBinding_pumps (s : State) (b : BindingId) (f : Binding) :
    (s.holdBinding b f).pumps = s.pumps := by
  simp [State.holdBinding]

@[simp] theorem State.holdBinding_pump (s : State) (b : BindingId) (f : Binding) (i : LoopId) :
    (s.holdBinding b f).pump i = s.pump i := by
  simp [State.pump]

@[simp] theorem State.holdBinding_evalQueue (s : State) (b : BindingId) (f : Binding) :
    (s.holdBinding b f).evalQueue = s.evalQueue := by
  simp [State.holdBinding]

@[simp] theorem State.holdBinding_txQueue (s : State) (b : BindingId) (f : Binding) :
    (s.holdBinding b f).txQueue = s.txQueue := by
  simp [State.holdBinding]

@[simp] theorem State.holdBinding_transmission (s : State) (b : BindingId) (f : Binding) :
    (s.holdBinding b f).transmission = s.transmission := by
  simp [State.holdBinding]

@[simp] theorem State.holdBinding_search (s : State) (b : BindingId) (f : Binding) :
    (s.holdBinding b f).search = s.search := by
  simp [State.holdBinding]

@[simp] theorem State.holdBinding_attention (s : State) (b : BindingId) (f : Binding) :
    (s.holdBinding b f).attention = s.attention := by
  simp [State.holdBinding]

@[simp] theorem State.holdBinding_seen (s : State) (b : BindingId) (f : Binding) :
    (s.holdBinding b f).seen = s.seen := by
  simp [State.holdBinding]

@[simp] theorem State.holdBinding_rest (s : State) (b : BindingId) (f : Binding) :
    (s.holdBinding b f).rest = s.rest := by
  simp [State.holdBinding]

/-! `releaseBinding` -/


@[simp] theorem State.releaseBinding_time (s : State) (b : BindingId) (f : Binding) :
    (s.releaseBinding b f).time = s.time := by
  simp [State.releaseBinding]

@[simp] theorem State.releaseBinding_stopLow (s : State) (b : BindingId) (f : Binding) :
    (s.releaseBinding b f).stopLow = s.stopLow := by
  simp [State.releaseBinding]

@[simp] theorem State.releaseBinding_resetPin (s : State) (b : BindingId) (f : Binding) :
    (s.releaseBinding b f).resetPin = s.resetPin := by
  simp [State.releaseBinding]

@[simp] theorem State.releaseBinding_drive (s : State) (b : BindingId) (f : Binding) :
    (s.releaseBinding b f).drive = s.drive := by
  simp [State.releaseBinding]

@[simp] theorem State.releaseBinding_fans (s : State) (b : BindingId) (f : Binding) :
    (s.releaseBinding b f).fans = s.fans := by
  simp [State.releaseBinding]

@[simp] theorem State.releaseBinding_fan (s : State) (b : BindingId) (f : Binding) (i : Slot) :
    (s.releaseBinding b f).fan i = s.fan i := by
  simp [State.fan]

@[simp] theorem State.releaseBinding_pumps (s : State) (b : BindingId) (f : Binding) :
    (s.releaseBinding b f).pumps = s.pumps := by
  simp [State.releaseBinding]

@[simp] theorem State.releaseBinding_pump (s : State) (b : BindingId) (f : Binding) (i : LoopId) :
    (s.releaseBinding b f).pump i = s.pump i := by
  simp [State.pump]

@[simp] theorem State.releaseBinding_evalQueue (s : State) (b : BindingId) (f : Binding) :
    (s.releaseBinding b f).evalQueue = s.evalQueue := by
  simp [State.releaseBinding]

@[simp] theorem State.releaseBinding_txQueue (s : State) (b : BindingId) (f : Binding) :
    (s.releaseBinding b f).txQueue = s.txQueue := by
  simp [State.releaseBinding]

@[simp] theorem State.releaseBinding_transmission (s : State) (b : BindingId) (f : Binding) :
    (s.releaseBinding b f).transmission = s.transmission := by
  simp [State.releaseBinding]

@[simp] theorem State.releaseBinding_search (s : State) (b : BindingId) (f : Binding) :
    (s.releaseBinding b f).search = s.search := by
  simp [State.releaseBinding]

@[simp] theorem State.releaseBinding_attention (s : State) (b : BindingId) (f : Binding) :
    (s.releaseBinding b f).attention = s.attention := by
  simp [State.releaseBinding]

@[simp] theorem State.releaseBinding_seen (s : State) (b : BindingId) (f : Binding) :
    (s.releaseBinding b f).seen = s.seen := by
  simp [State.releaseBinding]

@[simp] theorem State.releaseBinding_rest (s : State) (b : BindingId) (f : Binding) :
    (s.releaseBinding b f).rest = s.rest := by
  simp [State.releaseBinding]

/-! `setLine` -/


@[simp] theorem State.setLine_time (s : State) (k : LineId) (m : BitVec 24) (c : Fin 8) :
    (s.setLine k m c).time = s.time := by
  simp [State.setLine]

@[simp] theorem State.setLine_stopLow (s : State) (k : LineId) (m : BitVec 24) (c : Fin 8) :
    (s.setLine k m c).stopLow = s.stopLow := by
  simp [State.setLine]

@[simp] theorem State.setLine_resetPin (s : State) (k : LineId) (m : BitVec 24) (c : Fin 8) :
    (s.setLine k m c).resetPin = s.resetPin := by
  simp [State.setLine]

@[simp] theorem State.setLine_drive (s : State) (k : LineId) (m : BitVec 24) (c : Fin 8) :
    (s.setLine k m c).drive = s.drive := by
  simp [State.setLine]

@[simp] theorem State.setLine_sections (s : State) (k : LineId) (m : BitVec 24) (c : Fin 8) :
    (s.setLine k m c).sections = s.sections := by
  simp [State.setLine]

@[simp] theorem State.setLine_sec (s : State) (k : LineId) (m : BitVec 24) (c : Fin 8) (i : Slot) :
    (s.setLine k m c).sec i = s.sec i := by
  simp [State.sec]

@[simp] theorem State.setLine_fans (s : State) (k : LineId) (m : BitVec 24) (c : Fin 8) :
    (s.setLine k m c).fans = s.fans := by
  simp [State.setLine]

@[simp] theorem State.setLine_fan (s : State) (k : LineId) (m : BitVec 24) (c : Fin 8) (i : Slot) :
    (s.setLine k m c).fan i = s.fan i := by
  simp [State.fan]

@[simp] theorem State.setLine_loops (s : State) (k : LineId) (m : BitVec 24) (c : Fin 8) :
    (s.setLine k m c).loops = s.loops := by
  simp [State.setLine]

@[simp] theorem State.setLine_loopRec (s : State) (k : LineId) (m : BitVec 24) (c : Fin 8) (i : LoopId) :
    (s.setLine k m c).loopRec i = s.loopRec i := by
  simp [State.loopRec]

@[simp] theorem State.setLine_pumps (s : State) (k : LineId) (m : BitVec 24) (c : Fin 8) :
    (s.setLine k m c).pumps = s.pumps := by
  simp [State.setLine]

@[simp] theorem State.setLine_pump (s : State) (k : LineId) (m : BitVec 24) (c : Fin 8) (i : LoopId) :
    (s.setLine k m c).pump i = s.pump i := by
  simp [State.pump]

@[simp] theorem State.setLine_evalQueue (s : State) (k : LineId) (m : BitVec 24) (c : Fin 8) :
    (s.setLine k m c).evalQueue = s.evalQueue := by
  simp [State.setLine]

@[simp] theorem State.setLine_bindings (s : State) (k : LineId) (m : BitVec 24) (c : Fin 8) :
    (s.setLine k m c).bindings = s.bindings := by
  simp [State.setLine]

@[simp] theorem State.setLine_binding (s : State) (k : LineId) (m : BitVec 24) (c : Fin 8) (i : BindingId) :
    (s.setLine k m c).binding i = s.binding i := by
  simp [State.binding]

@[simp] theorem State.setLine_txQueue (s : State) (k : LineId) (m : BitVec 24) (c : Fin 8) :
    (s.setLine k m c).txQueue = s.txQueue := by
  simp [State.setLine]

@[simp] theorem State.setLine_transmission (s : State) (k : LineId) (m : BitVec 24) (c : Fin 8) :
    (s.setLine k m c).transmission = s.transmission := by
  simp [State.setLine]

@[simp] theorem State.setLine_search (s : State) (k : LineId) (m : BitVec 24) (c : Fin 8) :
    (s.setLine k m c).search = s.search := by
  simp [State.setLine]

@[simp] theorem State.setLine_attention (s : State) (k : LineId) (m : BitVec 24) (c : Fin 8) :
    (s.setLine k m c).attention = s.attention := by
  simp [State.setLine]

@[simp] theorem State.setLine_seen (s : State) (k : LineId) (m : BitVec 24) (c : Fin 8) :
    (s.setLine k m c).seen = s.seen := by
  simp [State.setLine]

@[simp] theorem State.setLine_rest (s : State) (k : LineId) (m : BitVec 24) (c : Fin 8) :
    (s.setLine k m c).rest = s.rest := by
  simp [State.setLine]

/-! `stopSearch` -/


@[simp] theorem State.stopSearch_time (s : State) :
    s.stopSearch.time = s.time := by
  simp only [State.stopSearch]
  split <;> simp

@[simp] theorem State.stopSearch_stopLow (s : State) :
    s.stopSearch.stopLow = s.stopLow := by
  simp only [State.stopSearch]
  split <;> simp

@[simp] theorem State.stopSearch_resetPin (s : State) :
    s.stopSearch.resetPin = s.resetPin := by
  simp only [State.stopSearch]
  split <;> simp

@[simp] theorem State.stopSearch_drive (s : State) :
    s.stopSearch.drive = s.drive := by
  simp only [State.stopSearch]
  split <;> simp

@[simp] theorem State.stopSearch_pumps (s : State) :
    s.stopSearch.pumps = s.pumps := by
  simp only [State.stopSearch]
  split <;> simp

@[simp] theorem State.stopSearch_pump (s : State)  (i : LoopId) :
    s.stopSearch.pump i = s.pump i := by
  simp [State.pump]

@[simp] theorem State.stopSearch_evalQueue (s : State) :
    s.stopSearch.evalQueue = s.evalQueue := by
  simp only [State.stopSearch]
  split <;> simp

@[simp] theorem State.stopSearch_bindings (s : State) :
    s.stopSearch.bindings = s.bindings := by
  simp only [State.stopSearch]
  split <;> simp

@[simp] theorem State.stopSearch_binding (s : State)  (i : BindingId) :
    s.stopSearch.binding i = s.binding i := by
  simp [State.binding]

@[simp] theorem State.stopSearch_transmission (s : State) :
    s.stopSearch.transmission = s.transmission := by
  simp only [State.stopSearch]
  split <;> simp

@[simp] theorem State.stopSearch_seen (s : State) :
    s.stopSearch.seen = s.seen := by
  simp only [State.stopSearch]
  split <;> simp

@[simp] theorem State.stopSearch_rest (s : State) :
    s.stopSearch.rest = s.rest := by
  simp only [State.stopSearch]
  split <;> simp

/-! `configureFan` -/


@[simp] theorem State.configureFan_time (s : State) (n : Slot) :
    (s.configureFan n).time = s.time := by
  simp [State.configureFan]

@[simp] theorem State.configureFan_stopLow (s : State) (n : Slot) :
    (s.configureFan n).stopLow = s.stopLow := by
  simp [State.configureFan]

@[simp] theorem State.configureFan_resetPin (s : State) (n : Slot) :
    (s.configureFan n).resetPin = s.resetPin := by
  simp [State.configureFan]

@[simp] theorem State.configureFan_drive (s : State) (n : Slot) :
    (s.configureFan n).drive = s.drive := by
  simp [State.configureFan]

@[simp] theorem State.configureFan_sections (s : State) (n : Slot) :
    (s.configureFan n).sections = s.sections := by
  simp [State.configureFan]

@[simp] theorem State.configureFan_sec (s : State) (n : Slot) (i : Slot) :
    (s.configureFan n).sec i = s.sec i := by
  simp [State.sec]

@[simp] theorem State.configureFan_loops (s : State) (n : Slot) :
    (s.configureFan n).loops = s.loops := by
  simp [State.configureFan]

@[simp] theorem State.configureFan_loopRec (s : State) (n : Slot) (i : LoopId) :
    (s.configureFan n).loopRec i = s.loopRec i := by
  simp [State.loopRec]

@[simp] theorem State.configureFan_pumps (s : State) (n : Slot) :
    (s.configureFan n).pumps = s.pumps := by
  simp [State.configureFan]

@[simp] theorem State.configureFan_pump (s : State) (n : Slot) (i : LoopId) :
    (s.configureFan n).pump i = s.pump i := by
  simp [State.pump]

@[simp] theorem State.configureFan_evalQueue (s : State) (n : Slot) :
    (s.configureFan n).evalQueue = s.evalQueue := by
  simp [State.configureFan]

@[simp] theorem State.configureFan_bindings (s : State) (n : Slot) :
    (s.configureFan n).bindings = s.bindings := by
  simp [State.configureFan]

@[simp] theorem State.configureFan_binding (s : State) (n : Slot) (i : BindingId) :
    (s.configureFan n).binding i = s.binding i := by
  simp [State.binding]

@[simp] theorem State.configureFan_txQueue (s : State) (n : Slot) :
    (s.configureFan n).txQueue = s.txQueue := by
  simp [State.configureFan]

@[simp] theorem State.configureFan_transmission (s : State) (n : Slot) :
    (s.configureFan n).transmission = s.transmission := by
  simp [State.configureFan]

@[simp] theorem State.configureFan_search (s : State) (n : Slot) :
    (s.configureFan n).search = s.search := by
  simp [State.configureFan]

@[simp] theorem State.configureFan_lines (s : State) (n : Slot) :
    (s.configureFan n).lines = s.lines := by
  simp [State.configureFan]

@[simp] theorem State.configureFan_line (s : State) (n : Slot) (i : LineId) :
    (s.configureFan n).line i = s.line i := by
  simp [State.line]

@[simp] theorem State.configureFan_attention (s : State) (n : Slot) :
    (s.configureFan n).attention = s.attention := by
  simp [State.configureFan]

@[simp] theorem State.configureFan_seen (s : State) (n : Slot) :
    (s.configureFan n).seen = s.seen := by
  simp [State.configureFan]

@[simp] theorem State.configureFan_rest (s : State) (n : Slot) :
    (s.configureFan n).rest = s.rest := by
  simp [State.configureFan]

/-! `configurePump` -/


@[simp] theorem State.configurePump_time (s : State) (l : LoopId) :
    (s.configurePump l).time = s.time := by
  simp [State.configurePump]

@[simp] theorem State.configurePump_stopLow (s : State) (l : LoopId) :
    (s.configurePump l).stopLow = s.stopLow := by
  simp [State.configurePump]

@[simp] theorem State.configurePump_resetPin (s : State) (l : LoopId) :
    (s.configurePump l).resetPin = s.resetPin := by
  simp [State.configurePump]

@[simp] theorem State.configurePump_drive (s : State) (l : LoopId) :
    (s.configurePump l).drive = s.drive := by
  simp [State.configurePump]

@[simp] theorem State.configurePump_sections (s : State) (l : LoopId) :
    (s.configurePump l).sections = s.sections := by
  simp [State.configurePump]

@[simp] theorem State.configurePump_sec (s : State) (l : LoopId) (i : Slot) :
    (s.configurePump l).sec i = s.sec i := by
  simp [State.sec]

@[simp] theorem State.configurePump_fans (s : State) (l : LoopId) :
    (s.configurePump l).fans = s.fans := by
  simp [State.configurePump]

@[simp] theorem State.configurePump_fan (s : State) (l : LoopId) (i : Slot) :
    (s.configurePump l).fan i = s.fan i := by
  simp [State.fan]

@[simp] theorem State.configurePump_loops (s : State) (l : LoopId) :
    (s.configurePump l).loops = s.loops := by
  simp [State.configurePump]

@[simp] theorem State.configurePump_loopRec (s : State) (l : LoopId) (i : LoopId) :
    (s.configurePump l).loopRec i = s.loopRec i := by
  simp [State.loopRec]

@[simp] theorem State.configurePump_evalQueue (s : State) (l : LoopId) :
    (s.configurePump l).evalQueue = s.evalQueue := by
  simp [State.configurePump]

@[simp] theorem State.configurePump_bindings (s : State) (l : LoopId) :
    (s.configurePump l).bindings = s.bindings := by
  simp [State.configurePump]

@[simp] theorem State.configurePump_binding (s : State) (l : LoopId) (i : BindingId) :
    (s.configurePump l).binding i = s.binding i := by
  simp [State.binding]

@[simp] theorem State.configurePump_txQueue (s : State) (l : LoopId) :
    (s.configurePump l).txQueue = s.txQueue := by
  simp [State.configurePump]

@[simp] theorem State.configurePump_transmission (s : State) (l : LoopId) :
    (s.configurePump l).transmission = s.transmission := by
  simp [State.configurePump]

@[simp] theorem State.configurePump_search (s : State) (l : LoopId) :
    (s.configurePump l).search = s.search := by
  simp [State.configurePump]

@[simp] theorem State.configurePump_lines (s : State) (l : LoopId) :
    (s.configurePump l).lines = s.lines := by
  simp [State.configurePump]

@[simp] theorem State.configurePump_line (s : State) (l : LoopId) (i : LineId) :
    (s.configurePump l).line i = s.line i := by
  simp [State.line]

@[simp] theorem State.configurePump_attention (s : State) (l : LoopId) :
    (s.configurePump l).attention = s.attention := by
  simp [State.configurePump]

@[simp] theorem State.configurePump_seen (s : State) (l : LoopId) :
    (s.configurePump l).seen = s.seen := by
  simp [State.configurePump]

@[simp] theorem State.configurePump_rest (s : State) (l : LoopId) :
    (s.configurePump l).rest = s.rest := by
  simp [State.configurePump]

/-! `configure` -/


@[simp] theorem State.configure_time (s : State) (c : DriveConfig) :
    (s.configure c).time = s.time := by
  simp only [State.configure]
  rw [foldl_keeps State.time _ (by intro s a; simp), foldl_keeps State.time _ (by intro s a; simp)]

@[simp] theorem State.configure_stopLow (s : State) (c : DriveConfig) :
    (s.configure c).stopLow = s.stopLow := by
  simp only [State.configure]
  rw [foldl_keeps State.stopLow _ (by intro s a; simp), foldl_keeps State.stopLow _ (by intro s a; simp)]

@[simp] theorem State.configure_resetPin (s : State) (c : DriveConfig) :
    (s.configure c).resetPin = s.resetPin := by
  simp only [State.configure]
  rw [foldl_keeps State.resetPin _ (by intro s a; simp), foldl_keeps State.resetPin _ (by intro s a; simp)]

@[simp] theorem State.configure_sections (s : State) (c : DriveConfig) :
    (s.configure c).sections = s.sections := by
  simp only [State.configure]
  rw [foldl_keeps State.sections _ (by intro s a; simp), foldl_keeps State.sections _ (by intro s a; simp)]

@[simp] theorem State.configure_sec (s : State) (c : DriveConfig) (i : Slot) :
    (s.configure c).sec i = s.sec i := by
  simp [State.sec]

@[simp] theorem State.configure_loops (s : State) (c : DriveConfig) :
    (s.configure c).loops = s.loops := by
  simp only [State.configure]
  rw [foldl_keeps State.loops _ (by intro s a; simp), foldl_keeps State.loops _ (by intro s a; simp)]

@[simp] theorem State.configure_loopRec (s : State) (c : DriveConfig) (i : LoopId) :
    (s.configure c).loopRec i = s.loopRec i := by
  simp [State.loopRec]

@[simp] theorem State.configure_evalQueue (s : State) (c : DriveConfig) :
    (s.configure c).evalQueue = s.evalQueue := by
  simp only [State.configure]
  rw [foldl_keeps State.evalQueue _ (by intro s a; simp), foldl_keeps State.evalQueue _ (by intro s a; simp)]

@[simp] theorem State.configure_bindings (s : State) (c : DriveConfig) :
    (s.configure c).bindings = s.bindings := by
  simp only [State.configure]
  rw [foldl_keeps State.bindings _ (by intro s a; simp), foldl_keeps State.bindings _ (by intro s a; simp)]

@[simp] theorem State.configure_binding (s : State) (c : DriveConfig) (i : BindingId) :
    (s.configure c).binding i = s.binding i := by
  simp [State.binding]

@[simp] theorem State.configure_txQueue (s : State) (c : DriveConfig) :
    (s.configure c).txQueue = s.txQueue := by
  simp only [State.configure]
  rw [foldl_keeps State.txQueue _ (by intro s a; simp), foldl_keeps State.txQueue _ (by intro s a; simp)]

@[simp] theorem State.configure_transmission (s : State) (c : DriveConfig) :
    (s.configure c).transmission = s.transmission := by
  simp only [State.configure]
  rw [foldl_keeps State.transmission _ (by intro s a; simp), foldl_keeps State.transmission _ (by intro s a; simp)]

@[simp] theorem State.configure_search (s : State) (c : DriveConfig) :
    (s.configure c).search = s.search := by
  simp only [State.configure]
  rw [foldl_keeps State.search _ (by intro s a; simp), foldl_keeps State.search _ (by intro s a; simp)]

@[simp] theorem State.configure_lines (s : State) (c : DriveConfig) :
    (s.configure c).lines = s.lines := by
  simp only [State.configure]
  rw [foldl_keeps State.lines _ (by intro s a; simp), foldl_keeps State.lines _ (by intro s a; simp)]

@[simp] theorem State.configure_line (s : State) (c : DriveConfig) (i : LineId) :
    (s.configure c).line i = s.line i := by
  simp [State.line]

@[simp] theorem State.configure_attention (s : State) (c : DriveConfig) :
    (s.configure c).attention = s.attention := by
  simp only [State.configure]
  rw [foldl_keeps State.attention _ (by intro s a; simp), foldl_keeps State.attention _ (by intro s a; simp)]

@[simp] theorem State.configure_seen (s : State) (c : DriveConfig) :
    (s.configure c).seen = s.seen := by
  simp only [State.configure]
  rw [foldl_keeps State.seen _ (by intro s a; simp), foldl_keeps State.seen _ (by intro s a; simp)]

@[simp] theorem State.configure_rest (s : State) (c : DriveConfig) :
    (s.configure c).rest = s.rest := by
  simp only [State.configure]
  rw [foldl_keeps State.rest _ (by intro s a; simp), foldl_keeps State.rest _ (by intro s a; simp)]
  rfl

/-! `stopFan` -/


@[simp] theorem State.stopFan_time (s : State) (n : Slot) :
    (s.stopFan n).time = s.time := by
  simp only [State.stopFan]
  split <;> simp

@[simp] theorem State.stopFan_stopLow (s : State) (n : Slot) :
    (s.stopFan n).stopLow = s.stopLow := by
  simp only [State.stopFan]
  split <;> simp

@[simp] theorem State.stopFan_resetPin (s : State) (n : Slot) :
    (s.stopFan n).resetPin = s.resetPin := by
  simp only [State.stopFan]
  split <;> simp

@[simp] theorem State.stopFan_drive (s : State) (n : Slot) :
    (s.stopFan n).drive = s.drive := by
  simp only [State.stopFan]
  split <;> simp

@[simp] theorem State.stopFan_loops (s : State) (n : Slot) :
    (s.stopFan n).loops = s.loops := by
  simp only [State.stopFan]
  split <;> simp

@[simp] theorem State.stopFan_loopRec (s : State) (n : Slot) (i : LoopId) :
    (s.stopFan n).loopRec i = s.loopRec i := by
  simp [State.loopRec]

@[simp] theorem State.stopFan_pumps (s : State) (n : Slot) :
    (s.stopFan n).pumps = s.pumps := by
  simp only [State.stopFan]
  split <;> simp

@[simp] theorem State.stopFan_pump (s : State) (n : Slot) (i : LoopId) :
    (s.stopFan n).pump i = s.pump i := by
  simp [State.pump]

@[simp] theorem State.stopFan_evalQueue (s : State) (n : Slot) :
    (s.stopFan n).evalQueue = s.evalQueue := by
  simp only [State.stopFan]
  split <;> simp

@[simp] theorem State.stopFan_bindings (s : State) (n : Slot) :
    (s.stopFan n).bindings = s.bindings := by
  simp only [State.stopFan]
  split <;> simp

@[simp] theorem State.stopFan_binding (s : State) (n : Slot) (i : BindingId) :
    (s.stopFan n).binding i = s.binding i := by
  simp [State.binding]

@[simp] theorem State.stopFan_txQueue (s : State) (n : Slot) :
    (s.stopFan n).txQueue = s.txQueue := by
  simp only [State.stopFan]
  split <;> simp

@[simp] theorem State.stopFan_transmission (s : State) (n : Slot) :
    (s.stopFan n).transmission = s.transmission := by
  simp only [State.stopFan]
  split <;> simp

@[simp] theorem State.stopFan_search (s : State) (n : Slot) :
    (s.stopFan n).search = s.search := by
  simp only [State.stopFan]
  split <;> simp

@[simp] theorem State.stopFan_lines (s : State) (n : Slot) :
    (s.stopFan n).lines = s.lines := by
  simp only [State.stopFan]
  split <;> simp

@[simp] theorem State.stopFan_line (s : State) (n : Slot) (i : LineId) :
    (s.stopFan n).line i = s.line i := by
  simp [State.line]

@[simp] theorem State.stopFan_attention (s : State) (n : Slot) :
    (s.stopFan n).attention = s.attention := by
  simp only [State.stopFan]
  split <;> simp

@[simp] theorem State.stopFan_seen (s : State) (n : Slot) :
    (s.stopFan n).seen = s.seen := by
  simp only [State.stopFan]
  split <;> simp

@[simp] theorem State.stopFan_rest (s : State) (n : Slot) :
    (s.stopFan n).rest = s.rest := by
  simp only [State.stopFan]
  split <;> simp

/-! `assertStop` -/


@[simp] theorem State.assertStop_time (s : State) :
    s.assertStop.time = s.time := by
  simp only [State.assertStop]
  split <;> simp only [State.endSearch_time, State.post_time, State.decidePumps_time] <;>
    rw [foldl_keeps State.time _ (by intro s a; simp)]

@[simp] theorem State.assertStop_resetPin (s : State) :
    s.assertStop.resetPin = s.resetPin := by
  simp only [State.assertStop]
  split <;> simp only [State.endSearch_resetPin, State.post_resetPin, State.decidePumps_resetPin] <;>
    rw [foldl_keeps State.resetPin _ (by intro s a; simp)]

@[simp] theorem State.assertStop_drive (s : State) :
    s.assertStop.drive = s.drive := by
  simp only [State.assertStop]
  split <;> simp only [State.endSearch_drive, State.post_drive, State.decidePumps_drive] <;>
    rw [foldl_keeps State.drive _ (by intro s a; simp)]

@[simp] theorem State.assertStop_evalQueue (s : State) :
    s.assertStop.evalQueue = s.evalQueue := by
  simp only [State.assertStop]
  split <;> simp only [State.endSearch_evalQueue, State.post_evalQueue, State.decidePumps_evalQueue] <;>
    rw [foldl_keeps State.evalQueue _ (by intro s a; simp)]

@[simp] theorem State.assertStop_bindings (s : State) :
    s.assertStop.bindings = s.bindings := by
  simp only [State.assertStop]
  split <;> simp only [State.endSearch_bindings, State.post_bindings, State.decidePumps_bindings] <;>
    rw [foldl_keeps State.bindings _ (by intro s a; simp)]

@[simp] theorem State.assertStop_binding (s : State)  (i : BindingId) :
    s.assertStop.binding i = s.binding i := by
  simp [State.binding]

@[simp] theorem State.assertStop_transmission (s : State) :
    s.assertStop.transmission = s.transmission := by
  simp only [State.assertStop]
  split <;> simp only [State.endSearch_transmission, State.post_transmission, State.decidePumps_transmission] <;>
    rw [foldl_keeps State.transmission _ (by intro s a; simp)]

@[simp] theorem State.assertStop_seen (s : State) :
    s.assertStop.seen = s.seen := by
  simp only [State.assertStop]
  split <;> simp only [State.endSearch_seen, State.post_seen, State.decidePumps_seen] <;>
    rw [foldl_keeps State.seen _ (by intro s a; simp)]

@[simp] theorem State.assertStop_rest (s : State) :
    s.assertStop.rest = s.rest := by
  simp only [State.assertStop]
  split <;> simp only [State.endSearch_rest, State.post_rest, State.decidePumps_rest] <;>
    rw [foldl_keeps State.rest _ (by intro s a; simp)] <;> rfl

/-! `restageEnabled` -/


@[simp] theorem State.restageEnabled_time (s : State) (n : Slot) :
    (s.restageEnabled n).time = s.time := by
  simp only [State.restageEnabled]
  split <;> simp

@[simp] theorem State.restageEnabled_stopLow (s : State) (n : Slot) :
    (s.restageEnabled n).stopLow = s.stopLow := by
  simp only [State.restageEnabled]
  split <;> simp

@[simp] theorem State.restageEnabled_resetPin (s : State) (n : Slot) :
    (s.restageEnabled n).resetPin = s.resetPin := by
  simp only [State.restageEnabled]
  split <;> simp

@[simp] theorem State.restageEnabled_drive (s : State) (n : Slot) :
    (s.restageEnabled n).drive = s.drive := by
  simp only [State.restageEnabled]
  split <;> simp

@[simp] theorem State.restageEnabled_sections (s : State) (n : Slot) :
    (s.restageEnabled n).sections = s.sections := by
  simp only [State.restageEnabled]
  split <;> simp

@[simp] theorem State.restageEnabled_sec (s : State) (n : Slot) (i : Slot) :
    (s.restageEnabled n).sec i = s.sec i := by
  simp [State.sec]

@[simp] theorem State.restageEnabled_loops (s : State) (n : Slot) :
    (s.restageEnabled n).loops = s.loops := by
  simp only [State.restageEnabled]
  split <;> simp

@[simp] theorem State.restageEnabled_loopRec (s : State) (n : Slot) (i : LoopId) :
    (s.restageEnabled n).loopRec i = s.loopRec i := by
  simp [State.loopRec]

@[simp] theorem State.restageEnabled_pumps (s : State) (n : Slot) :
    (s.restageEnabled n).pumps = s.pumps := by
  simp only [State.restageEnabled]
  split <;> simp

@[simp] theorem State.restageEnabled_pump (s : State) (n : Slot) (i : LoopId) :
    (s.restageEnabled n).pump i = s.pump i := by
  simp [State.pump]

@[simp] theorem State.restageEnabled_evalQueue (s : State) (n : Slot) :
    (s.restageEnabled n).evalQueue = s.evalQueue := by
  simp only [State.restageEnabled]
  split <;> simp

@[simp] theorem State.restageEnabled_bindings (s : State) (n : Slot) :
    (s.restageEnabled n).bindings = s.bindings := by
  simp only [State.restageEnabled]
  split <;> simp

@[simp] theorem State.restageEnabled_binding (s : State) (n : Slot) (i : BindingId) :
    (s.restageEnabled n).binding i = s.binding i := by
  simp [State.binding]

@[simp] theorem State.restageEnabled_txQueue (s : State) (n : Slot) :
    (s.restageEnabled n).txQueue = s.txQueue := by
  simp only [State.restageEnabled]
  split <;> simp

@[simp] theorem State.restageEnabled_transmission (s : State) (n : Slot) :
    (s.restageEnabled n).transmission = s.transmission := by
  simp only [State.restageEnabled]
  split <;> simp

@[simp] theorem State.restageEnabled_search (s : State) (n : Slot) :
    (s.restageEnabled n).search = s.search := by
  simp only [State.restageEnabled]
  split <;> simp

@[simp] theorem State.restageEnabled_lines (s : State) (n : Slot) :
    (s.restageEnabled n).lines = s.lines := by
  simp only [State.restageEnabled]
  split <;> simp

@[simp] theorem State.restageEnabled_line (s : State) (n : Slot) (i : LineId) :
    (s.restageEnabled n).line i = s.line i := by
  simp [State.line]

@[simp] theorem State.restageEnabled_attention (s : State) (n : Slot) :
    (s.restageEnabled n).attention = s.attention := by
  simp only [State.restageEnabled]
  split <;> simp

@[simp] theorem State.restageEnabled_seen (s : State) (n : Slot) :
    (s.restageEnabled n).seen = s.seen := by
  simp only [State.restageEnabled]
  split <;> simp

@[simp] theorem State.restageEnabled_rest (s : State) (n : Slot) :
    (s.restageEnabled n).rest = s.rest := by
  simp only [State.restageEnabled]
  split <;> simp

/-! `releaseStop` -/


@[simp] theorem State.releaseStop_time (s : State) :
    s.releaseStop.time = s.time := by
  simp only [State.releaseStop]
  simp
  rw [foldl_keeps State.time _ (by intro s a; simp)]

@[simp] theorem State.releaseStop_resetPin (s : State) :
    s.releaseStop.resetPin = s.resetPin := by
  simp only [State.releaseStop]
  simp
  rw [foldl_keeps State.resetPin _ (by intro s a; simp)]

@[simp] theorem State.releaseStop_drive (s : State) :
    s.releaseStop.drive = s.drive := by
  simp only [State.releaseStop]
  simp
  rw [foldl_keeps State.drive _ (by intro s a; simp)]

@[simp] theorem State.releaseStop_sections (s : State) :
    s.releaseStop.sections = s.sections := by
  simp only [State.releaseStop]
  simp
  rw [foldl_keeps State.sections _ (by intro s a; simp)]

@[simp] theorem State.releaseStop_sec (s : State)  (i : Slot) :
    s.releaseStop.sec i = s.sec i := by
  simp [State.sec]

@[simp] theorem State.releaseStop_loops (s : State) :
    s.releaseStop.loops = s.loops := by
  simp only [State.releaseStop]
  simp
  rw [foldl_keeps State.loops _ (by intro s a; simp)]

@[simp] theorem State.releaseStop_loopRec (s : State)  (i : LoopId) :
    s.releaseStop.loopRec i = s.loopRec i := by
  simp [State.loopRec]

@[simp] theorem State.releaseStop_evalQueue (s : State) :
    s.releaseStop.evalQueue = s.evalQueue := by
  simp only [State.releaseStop]
  simp
  rw [foldl_keeps State.evalQueue _ (by intro s a; simp)]

@[simp] theorem State.releaseStop_bindings (s : State) :
    s.releaseStop.bindings = s.bindings := by
  simp only [State.releaseStop]
  simp
  rw [foldl_keeps State.bindings _ (by intro s a; simp)]

@[simp] theorem State.releaseStop_binding (s : State)  (i : BindingId) :
    s.releaseStop.binding i = s.binding i := by
  simp [State.binding]

@[simp] theorem State.releaseStop_txQueue (s : State) :
    s.releaseStop.txQueue = s.txQueue := by
  simp only [State.releaseStop]
  simp
  rw [foldl_keeps State.txQueue _ (by intro s a; simp)]

@[simp] theorem State.releaseStop_transmission (s : State) :
    s.releaseStop.transmission = s.transmission := by
  simp only [State.releaseStop]
  simp
  rw [foldl_keeps State.transmission _ (by intro s a; simp)]

@[simp] theorem State.releaseStop_search (s : State) :
    s.releaseStop.search = s.search := by
  simp only [State.releaseStop]
  simp
  rw [foldl_keeps State.search _ (by intro s a; simp)]

@[simp] theorem State.releaseStop_lines (s : State) :
    s.releaseStop.lines = s.lines := by
  simp only [State.releaseStop]
  simp
  rw [foldl_keeps State.lines _ (by intro s a; simp)]

@[simp] theorem State.releaseStop_line (s : State)  (i : LineId) :
    s.releaseStop.line i = s.line i := by
  simp [State.line]

@[simp] theorem State.releaseStop_attention (s : State) :
    s.releaseStop.attention = s.attention := by
  simp only [State.releaseStop]
  simp
  rw [foldl_keeps State.attention _ (by intro s a; simp)]

@[simp] theorem State.releaseStop_seen (s : State) :
    s.releaseStop.seen = s.seen := by
  simp only [State.releaseStop]
  simp
  rw [foldl_keeps State.seen _ (by intro s a; simp)]

@[simp] theorem State.releaseStop_rest (s : State) :
    s.releaseStop.rest = s.rest := by
  simp only [State.releaseStop]
  simp
  rw [foldl_keeps State.rest _ (by intro s a; simp)]
  rfl

end Sys2Proof.Machine
end

