-- ==== Sys2Proof/Laws/Attention.lean ====
section
/-! SUPPORT. The attention set: what a posting adds (R163), and what the pins show of it (R165). -/

namespace Sys2Proof.Machine

open Sys2Proof

theorem mem_insertCause (c d : Cause) (l : List Cause) : c ∈ insertCause d l ↔ c ∈ l ∨ c = d := by
  induction l with
  | nil => simp [insertCause]
  | cons e r ih =>
    simp only [insertCause]; split
    · next h => subst h; simp; tauto
    · split
      · simp; tauto
      · simp [ih]; tauto

/-- A posting adds its cause and nothing else (R163). -/
theorem State.mem_post (s : State) (k : CauseKind) (n : Nat) (c : Cause) :
    c ∈ (s.post k n).attention ↔ c ∈ s.attention ∨ c = { kind := k, subject := n } :=
  mem_insertCause _ _ _

/-- Posting a cause already present leaves an ordered set as it was (R163). -/
theorem insertCause_of_mem (c : Cause) (l : List Cause) (hs : l.Pairwise fun a b => a.key < b.key)
    (h : c ∈ l) : insertCause c l = l := by
  induction l with
  | nil => cases h
  | cons d r ih =>
    simp only [insertCause]; split
    · rfl
    · next hn =>
      have hc : c ∈ r := by simpa [hn] using h
      have := List.rel_of_pairwise_cons hs hc
      rw [if_neg (by omega), ih (List.Pairwise.of_cons hs) hc]

end Sys2Proof.Machine
end

