-- ==== Sys2Proof/Laws/Drive.lean ====
section
/-! SUPPORT. What restaging a fan channel gives, for itself, for its gang partner and for every other channel; and
folds over tables whose steps each touch one record. -/

namespace Sys2Proof.Machine

open Sys2Proof

/-- Two states are equal where every field is; `State.rest` stands for the fields of the link and the resets. -/
theorem State.eq_of_fields {s t : State} (time : t.time = s.time) (resetPin : t.resetPin = s.resetPin)
    (stopLow : t.stopLow = s.stopLow) (sections : t.sections = s.sections) (fans : t.fans = s.fans)
    (loops : t.loops = s.loops) (pumps : t.pumps = s.pumps) (drive : t.drive = s.drive)
    (evalQueue : t.evalQueue = s.evalQueue) (seen : t.seen = s.seen) (bindings : t.bindings = s.bindings)
    (txQueue : t.txQueue = s.txQueue) (transmission : t.transmission = s.transmission)
    (search : t.search = s.search) (lines : t.lines = s.lines) (attention : t.attention = s.attention)
    (rest : t.rest = s.rest) : t = s := by
  obtain ⟨⟩ := s
  obtain ⟨⟩ := t
  simp_all [State.rest]

/-! ### Pairs -/

theorem neighbourOf_ne (n : Slot) : neighbourOf n ≠ n := by
  revert n; decide

theorem neighbourOf_neighbourOf (n : Slot) : neighbourOf (neighbourOf n) = n := by
  revert n; decide

theorem leadOf_neighbourOf (n : Slot) : leadOf (neighbourOf n) = leadOf n := by
  revert n; decide

theorem followerOf_neighbourOf (n : Slot) : followerOf (neighbourOf n) = followerOf n := by
  revert n; decide

theorem pair_cases (n : Slot) :
    (n = leadOf n ∧ neighbourOf n = followerOf n) ∨ (n = followerOf n ∧ neighbourOf n = leadOf n) := by
  revert n; decide

theorem State.gangFormed_neighbourOf (s : State) (n : Slot) : s.gangFormed (neighbourOf n) = s.gangFormed n := by
  simp [State.gangFormed, leadOf_neighbourOf, followerOf_neighbourOf]

theorem State.partner_eq_some {s : State} {n p : Slot} (h : s.partner n = some p) :
    s.gangFormed n = true ∧ p = neighbourOf n := by
  unfold State.partner at h
  split at h
  · exact ⟨by assumption, by injection h with h; exact h.symm⟩
  · cases h

theorem State.partner_ne {s : State} {n p : Slot} (h : s.partner n = some p) : p ≠ n := by
  rw [(State.partner_eq_some h).2]; exact neighbourOf_ne n

theorem State.partner_symm {s : State} {n p : Slot} (h : s.partner n = some p) : s.partner p = some n := by
  obtain ⟨hg, rfl⟩ := State.partner_eq_some h
  simp [State.partner, State.gangFormed_neighbourOf, hg, neighbourOf_neighbourOf]

/-- The pairing of a state depends on its section records alone. -/
theorem State.partner_congr {s t : State} (h : ∀ n, t.sec n = s.sec n) (n : Slot) : t.partner n = s.partner n := by
  simp [State.partner, State.gangFormed, h]

@[simp] theorem State.formOwn_partner (s : State) (n m : Slot) : (s.formOwn n).partner m = s.partner m :=
  State.partner_congr (by simp) m

@[simp] theorem State.restage_partner (s : State) (n m : Slot) : (s.restage n).partner m = s.partner m :=
  State.partner_congr (by simp) m

/-! ### Restaging -/

theorem State.formOwn_fan (s : State) (n m : Slot) :
    (s.formOwn n).fan m =
      if m = n then { s.fan n with ownStaged := min (s.fan n).ramp (fanCeiling (s.sec n)) } else s.fan m := by
  by_cases h : m = n
  · subst h; simp [State.formOwn, State.ownStagedOf]
  · simp [State.formOwn, State.modFan_fan_ne s _ h, h]

theorem State.handFan_fan (s : State) (n m : Slot) (duty : Nat) :
    (s.handFan n duty).fan m =
      if m = n then
        { s.fan n with gen := { (s.fan n).gen with stagedDuty := if s.stopLow then 0 else duty } }
      else s.fan m := by
  by_cases h : m = n
  · subst h; simp [State.handFan]
  · simp [State.handFan, State.modFan_fan_ne s _ h, h]

/-- The duty a channel hands its generator, from what its own staged duty and its partner's are (R129, R131,
R132). -/
def State.handed (s : State) (n : Slot) (own : Slot → Nat) : Nat :=
  if s.stopLow then 0
  else
    match s.partner n with
    | none => own n
    | some p => min (own n) (own p)

/-- The restaged channel itself (R129, R131, R132). -/
theorem State.restage_fan_self (s : State) (n : Slot) :
    (s.restage n).fan n =
      { s.fan n with
        ownStaged := min (s.fan n).ramp (fanCeiling (s.sec n))
        gen :=
          { (s.fan n).gen with
            stagedDuty :=
              s.handed n fun m =>
                if m = n then min (s.fan n).ramp (fanCeiling (s.sec n)) else (s.fan m).ownStaged } } := by
  unfold State.restage State.handAll State.handed
  rw [State.formOwn_partner]
  cases hp : s.partner n with
  | none => simp [State.handFan_fan, State.formOwn_fan]
  | some p =>
    have hne := State.partner_ne hp
    simp [State.handFan_fan, State.formOwn_fan, hne, hne.symm]

/-- The gang partner of a restaged channel (R131, R132). -/
theorem State.restage_fan_partner (s : State) {n p : Slot} (h : s.partner n = some p) :
    (s.restage n).fan p =
      { s.fan p with
        gen :=
          { (s.fan p).gen with
            stagedDuty :=
              if s.stopLow then 0
              else min (min (s.fan n).ramp (fanCeiling (s.sec n))) (s.fan p).ownStaged } } := by
  have hne := State.partner_ne h
  unfold State.restage State.handAll
  rw [State.formOwn_partner, h]
  simp [State.handFan_fan, State.formOwn_fan, hne]

/-- Every other channel is left as it was. -/
theorem State.restage_fan_other (s : State) {n m : Slot} (h : m ≠ n) (hp : s.partner n ≠ some m) :
    (s.restage n).fan m = s.fan m := by
  unfold State.restage State.handAll
  rw [State.formOwn_partner]
  cases hq : s.partner n with
  | none => simp [State.handFan_fan, State.formOwn_fan, h]
  | some p =>
    have hmp : m ≠ p := by rintro rfl; exact hp hq
    simp [State.handFan_fan, State.formOwn_fan, h, hmp]

/-- Restaging touches, of every channel, its own staged duty and what it hands its generator alone. -/
theorem State.restage_fan_shape (s : State) (n m : Slot) :
    (s.restage n).fan m =
      { s.fan m with
        ownStaged := ((s.restage n).fan m).ownStaged
        gen := { (s.fan m).gen with stagedDuty := ((s.restage n).fan m).gen.stagedDuty } } := by
  by_cases h : m = n
  · subst h; rw [State.restage_fan_self]
  · by_cases hp : s.partner n = some m
    · rw [State.restage_fan_partner s hp]
    · rw [State.restage_fan_other s h hp]

theorem leadOf_ne_followerOf (n : Slot) : leadOf n ≠ followerOf n := by
  revert n; decide

theorem State.partner_leadOf (s : State) (n : Slot) :
    s.partner (leadOf n) = if s.gangFormed n then some (followerOf n) else none := by
  have h : leadOf (leadOf n) = leadOf n ∧ followerOf (leadOf n) = followerOf n ∧
      neighbourOf (leadOf n) = followerOf n := by revert n; decide
  simp [State.partner, State.gangFormed, h]

theorem State.partner_followerOf (s : State) (n : Slot) :
    s.partner (followerOf n) = if s.gangFormed n then some (leadOf n) else none := by
  have h : leadOf (followerOf n) = leadOf n ∧ followerOf (followerOf n) = followerOf n ∧
      neighbourOf (followerOf n) = leadOf n := by revert n; decide
  simp [State.partner, State.gangFormed, h]

theorem State.gangFormed_congr {s t : State} (h : ∀ n, t.sec n = s.sec n) (n : Slot) :
    t.gangFormed n = s.gangFormed n := by
  simp [State.gangFormed, h]

/-- Both channels of a pair after both have restaged (R131). -/
theorem State.restagePair_fan (s : State) (n m : Slot) (hm : m = leadOf n ∨ m = followerOf n) :
    (s.restagePair n).fan m =
      { s.fan m with
        ownStaged := min (s.fan m).ramp (fanCeiling (s.sec m))
        gen :=
          { (s.fan m).gen with
            stagedDuty :=
              if s.stopLow then 0
              else if s.gangFormed n then
                min (min (s.fan (leadOf n)).ramp (fanCeiling (s.sec (leadOf n))))
                  (min (s.fan (followerOf n)).ramp (fanCeiling (s.sec (followerOf n))))
              else min (s.fan m).ramp (fanCeiling (s.sec m)) } } := by
  have hne := leadOf_ne_followerOf n
  unfold State.restagePair
  have hg := State.gangFormed_congr (t := s.restage (leadOf n)) (s := s) (by simp) n
  rcases hm with rfl | rfl
  · by_cases hf : s.gangFormed n = true
    · have p1 : (s.restage (leadOf n)).partner (followerOf n) = some (leadOf n) := by
        rw [State.partner_followerOf, hg, hf]; rfl
      have p2 : s.partner (leadOf n) = some (followerOf n) := by rw [State.partner_leadOf, hf]; rfl
      rw [State.restage_fan_partner _ p1, State.restage_fan_self, State.restage_fan_partner _ p2]
      simp [hf, min_comm]
    · have hf' : s.gangFormed n = false := by simpa using hf
      have p1 : (s.restage (leadOf n)).partner (followerOf n) ≠ some (leadOf n) := by
        rw [State.partner_followerOf, hg, hf']; simp
      have p2 : s.partner (leadOf n) = none := by rw [State.partner_leadOf, hf']; rfl
      rw [State.restage_fan_other _ hne p1, State.restage_fan_self]
      simp [State.handed, p2, hf']
  · by_cases hf : s.gangFormed n = true
    · have p1 : (s.restage (leadOf n)).partner (followerOf n) = some (leadOf n) := by
        rw [State.partner_followerOf, hg, hf]; rfl
      have p2 : s.partner (leadOf n) = some (followerOf n) := by rw [State.partner_leadOf, hf]; rfl
      rw [State.restage_fan_self, State.restage_fan_partner _ p2]
      simp only [State.handed, p1, hf, State.restage_stopLow, State.restage_sec]
      simp [State.restage_fan_self, hne, min_comm]
    · have hf' : s.gangFormed n = false := by simpa using hf
      have p1 : (s.restage (leadOf n)).partner (followerOf n) = none := by
        rw [State.partner_followerOf, hg, hf']; rfl
      have p2 : s.partner (leadOf n) ≠ some (followerOf n) := by rw [State.partner_leadOf, hf']; simp
      rw [State.restage_fan_self, State.restage_fan_other _ hne.symm p2]
      simp [State.handed, State.partner_followerOf, hg, hf']

/-- Every channel outside the pair is left as it was. -/
theorem State.restagePair_fan_other (s : State) (n m : Slot) (h1 : m ≠ leadOf n) (h2 : m ≠ followerOf n) :
    (s.restagePair n).fan m = s.fan m := by
  have hg := State.gangFormed_congr (t := s.restage (leadOf n)) (s := s) (by simp) n
  unfold State.restagePair
  rw [State.restage_fan_other _ h2, State.restage_fan_other _ h1]
  · rw [State.partner_leadOf]; split <;> simp [h2.symm]
  · rw [State.partner_followerOf, hg]; split <;> simp [h1.symm]

/-! ### Folds that touch one record a step -/

/-- A fold over distinct indices whose step at an index is all that touches the reading at that index: what the
reading is after it. -/
theorem foldl_pointwise {ι β : Type} [DecidableEq ι] (read : State → ι → β) (f : State → ι → State)
    (keep : ∀ s i j, j ≠ i → read (f s i) j = read s j) (I : State → Prop)
    (hI : ∀ s i, I s → I (f s i)) (g : ι → β → β) (step : ∀ s i, I s → read (f s i) i = g i (read s i)) :
    ∀ (l : List ι), l.Nodup → ∀ s, I s → ∀ j,
      read (l.foldl f s) j = if j ∈ l then g j (read s j) else read s j := by
  intro l
  induction l with
  | nil => intro _ s _ j; simp
  | cons i l ih =>
    intro hn s hs j
    rw [List.nodup_cons] at hn
    rw [List.foldl_cons, ih hn.2 _ (hI s i hs)]
    by_cases hj : j = i
    · subst hj; simp [hn.1, step s j hs]
    · simp [hj, keep s i j hj]

theorem mem_allSlots (n : Slot) : n ∈ allSlots := List.mem_finRange n

theorem nodup_allSlots : allSlots.Nodup := List.nodup_finRange 24

theorem mem_allLoops (l : LoopId) : l ∈ allLoops := List.mem_finRange l

theorem nodup_allLoops : allLoops.Nodup := List.nodup_finRange 4

theorem mem_allLines (k : LineId) : k ∈ allLines := List.mem_finRange k

theorem nodup_allLines : allLines.Nodup := List.nodup_finRange 4

theorem mem_allBindings (b : BindingId) : b ∈ allBindings := List.mem_finRange b

theorem nodup_allBindings : allBindings.Nodup := List.nodup_finRange 48

/-- The staged pump duty of every SET loop after all are decided (R82, R83). -/
theorem State.decidePumps_pump (s : State) (l : LoopId) :
    (s.decidePumps).pump l =
      if (s.loopRec l).isSet then { s.pump l with stagedDuty := s.pumpDuty l } else s.pump l := by
  have h := foldl_pointwise (fun t l => t.pump l) State.decidePump
    (fun t i j hj => by unfold State.decidePump; split <;> simp [State.modPump_pump, hj.symm])
    (fun t => ∃ ps, t = { s with pumps := ps })
    (fun t i ⟨ps, h⟩ => by
      subst h; unfold State.decidePump; split
      · exact ⟨_, rfl⟩
      · exact ⟨_, rfl⟩)
    (fun l c => if (s.loopRec l).isSet then { c with stagedDuty := s.pumpDuty l } else c)
    (fun t i ⟨ps, h⟩ => by
      subst h; unfold State.decidePump
      have e1 : State.loopRec { s with pumps := ps } i = s.loopRec i := rfl
      have e2 : State.pumpDuty { s with pumps := ps } i = s.pumpDuty i := rfl
      rw [e1, e2]; split <;> simp)
    allLoops nodup_allLoops s ⟨s.pumps, rfl⟩ l
  simpa [State.decidePumps, mem_allLoops] using h

/-- Evaluating one line. -/
theorem State.evalLine_line (s : State) (k j : LineId) :
    (s.evalLine k).line j =
      if k = j then
        (s.line k).act (s.maskSafe (s.line k).mask) (s.expiryIn (delaySeconds (s.line k).delayCode))
      else s.line j := by
  simp [State.evalLine, State.modLine_line]

/-- Evaluating lines changes the lines alone. -/
theorem State.evalLines_eq (s : State) (n : Slot) : s.evalLines n = { s with lines := (s.evalLines n).lines } := by
  unfold State.evalLines
  generalize allLines = l
  induction l generalizing s with
  | nil => rfl
  | cons k l ih => rw [List.foldl_cons, ih]; split <;> rfl

/-- The lines after those that hold a section are evaluated (R157, R158). -/
theorem State.evalLines_line (s : State) (n : Slot) (k : LineId) :
    (s.evalLines n).line k =
      if (s.line k).mask.getLsbD n.val then
        (s.line k).act (s.maskSafe (s.line k).mask) (s.expiryIn (delaySeconds (s.line k).delayCode))
      else s.line k := by
  have h := foldl_pointwise (fun t k => t.line k)
    (fun t k => if (t.line k).mask.getLsbD n.val then t.evalLine k else t)
    (fun t i j hj => by split <;> simp [State.evalLine_line, hj.symm])
    (fun t => ∃ ls, t = { s with lines := ls })
    (fun t i ⟨ls, h⟩ => by
      subst h; split
      · exact ⟨_, rfl⟩
      · exact ⟨_, rfl⟩)
    (fun k c =>
      if c.mask.getLsbD n.val then c.act (s.maskSafe c.mask) (s.expiryIn (delaySeconds c.delayCode)) else c)
    (fun t i ⟨ls, h⟩ => by
      subst h; split
      · rw [State.evalLine_line, if_pos rfl]; rfl
      · rfl)
    allLines nodup_allLines s ⟨s.lines, rfl⟩ k
  simpa [State.evalLines, mem_allLines] using h

/-- Leaving the masks changes the lines alone. -/
theorem State.leaveMasks_eq (s : State) (n : Slot) :
    s.leaveMasks n = { s with lines := (s.leaveMasks n).lines } := by
  unfold State.leaveMasks
  generalize allLines = l
  induction l generalizing s with
  | nil => rfl
  | cons k l ih => rw [List.foldl_cons, ih]; split <;> rfl

/-- The lines after a section has left every mask (R161). -/
theorem State.leaveMasks_line (s : State) (n : Slot) (k : LineId) :
    (s.leaveMasks n).line k =
      if (s.line k).mask.getLsbD n.val then
        { s.line k with mask := (s.line k).mask &&& ~~~(1#24 <<< n.val) }.act
          (s.maskSafe ((s.line k).mask &&& ~~~(1#24 <<< n.val)))
          (s.expiryIn (delaySeconds (s.line k).delayCode))
      else s.line k := by
  have h := foldl_pointwise (fun t k => t.line k)
    (fun t k =>
      if (t.line k).mask.getLsbD n.val then
        (t.modLine k fun c => { c with mask := c.mask &&& ~~~(1#24 <<< n.val) }).evalLine k
      else t)
    (fun t i j hj => by split <;> simp [State.evalLine_line, State.modLine_line, hj.symm])
    (fun t => ∃ ls, t = { s with lines := ls })
    (fun t i ⟨ls, h⟩ => by
      subst h; split
      · exact ⟨_, rfl⟩
      · exact ⟨_, rfl⟩)
    (fun k c =>
      if c.mask.getLsbD n.val then
        { c with mask := c.mask &&& ~~~(1#24 <<< n.val) }.act
          (s.maskSafe (c.mask &&& ~~~(1#24 <<< n.val))) (s.expiryIn (delaySeconds c.delayCode))
      else c)
    (fun t i ⟨ls, h⟩ => by
      subst h; split
      · rw [State.evalLine_line, if_pos rfl, State.modLine_line, if_pos rfl]; rfl
      · rfl)
    allLines nodup_allLines s ⟨s.lines, rfl⟩ k
  simpa [State.leaveMasks, mem_allLines] using h

/-! ### Emptying the bindings of a section -/

/-- One step of the emptying. -/
def State.emptyFor (n : Slot) (s : State) (b : BindingId) : State :=
  match (s.binding b).fields with
  | some f => if fieldSlot f.dest = some n then (s.setBinding b .empty).dropStale b else s
  | none => s

/-- Whether a binding feeds a destination of a section. -/
def BindingState.feedsSection (b : BindingState) (n : Slot) : Bool :=
  b.fields.any fun f => fieldSlot f.dest == some n

theorem State.emptyFor_eq (n : Slot) (s : State) (b : BindingId) :
    State.emptyFor n s b =
      if (s.binding b).feedsSection n then (s.setBinding b .empty).dropStale b else s := by
  unfold State.emptyFor BindingState.feedsSection
  cases h : (s.binding b).fields <;> simp

theorem State.unbindSection_eq_foldl (s : State) (n : Slot) :
    s.unbindSection n =
      (allBindings.foldl (State.emptyFor n) s).modSec n fun r =>
        { r with outlet := .awaiting, air := .awaiting, valve := .awaiting } := rfl

/-- The bindings after a section's are emptied (R24). -/
theorem State.unbindSection_binding (s : State) (n : Slot) (b : BindingId) :
    (s.unbindSection n).binding b = if (s.binding b).feedsSection n then .empty else s.binding b := by
  have h := foldl_pointwise (fun t b => t.binding b) (State.emptyFor n)
    (fun t i j hj => by rw [State.emptyFor_eq]; split <;> simp [State.setBinding_binding, hj.symm])
    (fun _ => True) (fun _ _ _ => trivial)
    (fun _ x => if x.feedsSection n then .empty else x)
    (fun t i _ => by rw [State.emptyFor_eq]; split <;> simp [State.setBinding_binding])
    allBindings nodup_allBindings s trivial b
  simpa [State.unbindSection_eq_foldl, mem_allBindings] using h

/-- The causes that are left when a section's bindings are emptied (R24). -/
theorem State.unbindSection_attention (s : State) (n : Slot) (c : Cause) :
    c ∈ (s.unbindSection n).attention ↔
      c ∈ s.attention ∧ ¬ (c.kind = .stale ∧ ∃ b, (s.binding b).feedsSection n = true ∧ c.subject = b.val) := by
  have key : ∀ (l : List BindingId), l.Nodup → ∀ t : State,
      (c ∈ (l.foldl (State.emptyFor n) t).attention ↔
        c ∈ t.attention ∧
          ¬ (c.kind = .stale ∧ ∃ b ∈ l, (t.binding b).feedsSection n = true ∧ c.subject = b.val)) := by
    intro l
    induction l with
    | nil => intro _ t; simp
    | cons i l ih =>
      intro hn t
      rw [List.nodup_cons] at hn
      rw [List.foldl_cons, ih hn.2, State.emptyFor_eq]
      have hb : ∀ b ∈ l, ((if (t.binding i).feedsSection n = true then (t.setBinding i .empty).dropStale i else t).binding
          b) = t.binding b := by
        intro b hb
        have : i ≠ b := by rintro rfl; exact hn.1 hb
        split <;> simp [State.setBinding_binding, this]
      have hex : (∃ b ∈ l, ((if (t.binding i).feedsSection n = true then (t.setBinding i .empty).dropStale i
            else t).binding b).feedsSection n = true ∧ c.subject = b.val) ↔
          ∃ b ∈ l, (t.binding b).feedsSection n = true ∧ c.subject = b.val := by
        constructor
        · rintro ⟨b, h1, h2, h3⟩; exact ⟨b, h1, by rwa [hb b h1] at h2, h3⟩
        · rintro ⟨b, h1, h2, h3⟩; exact ⟨b, h1, by rwa [hb b h1], h3⟩
      rw [hex]
      by_cases hf : (t.binding i).feedsSection n = true
      · simp only [hf, if_true, State.dropStale, State.dropCauses, List.mem_filter, List.mem_cons,
          exists_eq_or_imp]
        simp only [State.setBinding, Bool.not_and, Bool.or_eq_true, Bool.not_eq_true', beq_eq_false_iff_ne]
        constructor
        · rintro ⟨⟨h1, h2⟩, h3⟩
          refine ⟨h1, ?_⟩
          rintro ⟨hk, ⟨_, hs⟩ | hr⟩
          · rcases h2 with h2 | h2
            · exact h2 hk
            · exact h2 hs
          · exact h3 ⟨hk, hr⟩
        · rintro ⟨h1, h2⟩
          refine ⟨⟨h1, ?_⟩, fun h => h2 ⟨h.1, .inr h.2⟩⟩
          by_cases hk : c.kind = .stale
          · exact .inr fun hs => h2 ⟨hk, .inl ⟨trivial, hs⟩⟩
          · exact .inl hk
      · simp [hf]
  have h := key allBindings nodup_allBindings s
  simpa [State.unbindSection_eq_foldl, mem_allBindings] using h

end Sys2Proof.Machine
end

