-- ==== Sys2Proof/Laws/Destinations.lean ====
section
/-! SUPPORT. The destination fields: what replacing one leaves, and what making one AWAITING does to the clear lines
(R101, R106, R107, R110, R157). -/

namespace Sys2Proof.Machine

open Sys2Proof

-- One declaration after another: side by side, their proofs wait for each other's equation lemmas in many threads.
set_option Elab.async false

theorem State.setDest_dest (s : State) (d e : DestField) (v : Destination) :
    (s.setDest d v).dest e = if e = d then v else s.dest e := by
  cases d <;> cases e <;> simp [State.setDest, State.dest, State.modSec_sec, State.modLoop_loopRec] <;>
    split <;> rename_i h <;> first
    | (subst h; simp)
    | simp [Ne.symm h]

theorem State.setDest_sec_shape (s : State) (d : DestField) (v : Destination) (n : Slot) :
    (s.setDest d v).sec n =
      { s.sec n with
        outlet := ((s.setDest d v).sec n).outlet, air := ((s.setDest d v).sec n).air,
        valve := ((s.setDest d v).sec n).valve } := by
  cases d <;> simp only [State.setDest, State.modSec_sec, State.modLoop_sec] <;> split <;>
    rename_i h <;> first
    | rfl
    | (subst h; rfl)

theorem State.setDest_loopRec_shape (s : State) (d : DestField) (v : Destination) (l : LoopId) :
    (s.setDest d v).loopRec l =
      { s.loopRec l with
        flow := ((s.setDest d v).loopRec l).flow, pressure := ((s.setDest d v).loopRec l).pressure,
        concentration := ((s.setDest d v).loopRec l).concentration,
        air := ((s.setDest d v).loopRec l).air } := by
  cases d <;> simp only [State.setDest, State.modSec_loopRec, State.modLoop_loopRec] <;> split <;>
    rename_i h <;> first
    | rfl
    | (subst h; rfl)

theorem State.setDest_frame (s : State) (d : DestField) (v : Destination) :
    s.setDest d v = { s with sections := (s.setDest d v).sections, loops := (s.setDest d v).loops } := by
  cases d <;> rfl

theorem State.evalLinesOf_frame (s : State) (d : DestField) :
    s.evalLinesOf d = { s with lines := (s.evalLinesOf d).lines } := by
  unfold State.evalLinesOf; split
  · exact State.evalLines_eq _ _
  · rfl

theorem State.makeAwaiting_frame (s : State) (d : DestField) :
    s.makeAwaiting d =
      { s with
        sections := (s.setDest d .awaiting).sections, loops := (s.setDest d .awaiting).loops,
        lines := (s.makeAwaiting d).lines } := by
  unfold State.makeAwaiting
  have h := State.evalLinesOf_frame (s.setDest d .awaiting) d
  generalize (s.setDest d .awaiting).evalLinesOf d = x at *
  have h2 := State.setDest_frame s d .awaiting
  generalize s.setDest d .awaiting = y at *
  generalize x.lines = L at *
  rw [h]
  generalize y.sections = S at *
  generalize y.loops = M at *
  rw [h2]

theorem State.makeAwaiting_dest (s : State) (d e : DestField) :
    (s.makeAwaiting d).dest e = if e = d then .awaiting else s.dest e := by
  rw [State.makeAwaiting_frame, ← State.setDest_dest]
  generalize s.setDest d .awaiting = y
  cases e <;> rfl

theorem State.makeAwaiting_sec (s : State) (d : DestField) (n : Slot) :
    (s.makeAwaiting d).sec n = (s.setDest d .awaiting).sec n := by
  rw [State.makeAwaiting_frame]; rfl

theorem State.makeAwaiting_loopRec (s : State) (d : DestField) (l : LoopId) :
    (s.makeAwaiting d).loopRec l = (s.setDest d .awaiting).loopRec l := by
  rw [State.makeAwaiting_frame]; rfl

/-- A section whose OUTLET is not FRESH is not safe to load (R157). -/
theorem SectionRecord.unsafe_of_outlet (r : SectionRecord) (h : r.outlet.status ≠ .fresh) :
    r.safe = false := by
  unfold SectionRecord.safe; simp [h]

/-- Where the OUTLET that changed is not FRESH, the lines of its section are released (R157, R158). -/
theorem State.evalLinesOf_released (s : State) (d : DestField)
    (hd : ∀ n, d = .outlet n → (s.sec n).safe = false) : LinesReleased s (s.evalLinesOf d) (· = d) := by
  intro k
  unfold State.evalLinesOf
  constructor
  · rintro ⟨n, rfl, hm⟩
    simp only [outletSlot]
    rw [State.evalLines_line, if_pos hm]
    have : s.maskSafe (s.line k).mask = false := by
      unfold State.maskSafe
      rw [Bool.and_eq_false_iff]; right
      rw [List.all_eq_false]
      exact ⟨n, by simp [maskSlots, hm, mem_allSlots], by simp [hd n rfl]⟩
    rw [this]; rfl
  · intro h
    cases d <;> simp only [outletSlot]
    rename_i n
    rw [State.evalLines_line, if_neg (by rw [h n rfl]; decide)]

theorem State.makeAwaiting_released (s : State) (d : DestField) :
    LinesReleased s (s.makeAwaiting d) (· = d) := by
  have h := State.evalLinesOf_released (s.setDest d .awaiting) d (by
    rintro n rfl
    apply SectionRecord.unsafe_of_outlet
    simp [State.setDest, Destination.awaiting])
  intro k
  have hl : ∀ k, (s.setDest d .awaiting).line k = s.line k := by
    intro k; rw [State.setDest_frame]; rfl
  have hk := h k
  rw [hl] at hk
  exact hk

/-- Two states agree on everything but their destination fields where each record does (R101). -/
theorem DestsBecome.of_shape (s t : State) (v : DestField → Destination) (h : ∀ d, t.dest d = v d)
    (hs : ∀ n, t.sec n =
      { s.sec n with outlet := (t.sec n).outlet, air := (t.sec n).air, valve := (t.sec n).valve })
    (hl : ∀ l, t.loopRec l =
      { s.loopRec l with
        flow := (t.loopRec l).flow, pressure := (t.loopRec l).pressure,
        concentration := (t.loopRec l).concentration, air := (t.loopRec l).air }) :
    DestsBecome s t v := by
  constructor
  · intro n; rw [hs]
    have a := h (.outlet n)
    have b := h (.air n)
    have c := h (.valve n)
    simp only [State.dest] at a b c
    simp only [a, b, c]
  · intro l; rw [hl]
    have a := h (.loopFlow l)
    have b := h (.loopPressure l)
    have c := h (.loopConcentration l)
    have d := h (.loopAir l)
    simp only [State.dest] at a b c d
    simp only [a, b, c, d]

end Sys2Proof.Machine
end

