-- ==== Sys2Proof/Laws/Encoding.lean ====
section
/-! SUPPORT. Laws of the operand forms: the sum and the length of a frame, the fields of a payload, clamping, and
the lengths of the optional fields of a reply. -/

namespace Sys2Proof

/-- The sum of two lists of bytes is the sum of their sums. -/
theorem byteSum_append (a b : List Byte) : byteSum (a ++ b) = byteSum a + byteSum b := by
  induction a with
  | nil => simp [byteSum]
  | cons x xs ih => simp [byteSum] at *; rw [ih]; ac_rfl

/-- Every frame has 64 bytes. -/
theorem encodeFrame_length (a b : Byte) (p : List Byte) (h : p.length ≤ 60) :
    (encodeFrame a b p).length = 64 := by
  simp [encodeFrame]; omega

namespace Machine

/-! ### Fields of a payload -/

theorem field16_eq (p : List Byte) (i : Nat) : field16 p i = be16 (p.getD i 0) (p.getD (i + 1) 0) := rfl

theorem field32_eq (p : List Byte) (i : Nat) :
    field32 p i = be32 (p.getD i 0) (p.getD (i + 1) 0) (p.getD (i + 2) 0) (p.getD (i + 3) 0) := by
  simp only [field32, field16, field8, be32, Nat.add_assoc, Nat.reduceAdd]; omega

/-- Two bytes joined are 256 times the first and the second. -/
theorem append_toNat (a b : Byte) : (a ++ b : BitVec 16).toNat = a.toNat * 256 + b.toNat := by
  rw [BitVec.toNat_append, ← Nat.shiftLeft_add_eq_or_of_lt b.isLt, Nat.shiftLeft_eq]

theorem fieldSigned_eq (p : List Byte) (i : Nat) :
    fieldSigned p i = signed16 (p.getD i 0) (p.getD (i + 1) 0) := by
  unfold fieldSigned field16 field8 signed16
  congr 1
  apply BitVec.eq_of_toNat_eq
  have := (p.getD i 0).isLt
  have := (p.getD (i + 1) 0).isLt
  rw [append_toNat, BitVec.toNat_ofNat]
  omega

/-- A signed field is written back as the two bytes it was read from. -/
theorem putSigned_signed16 (a b : Byte) : putSigned (signed16 a b) = [a, b] := by
  unfold putSigned signed16 put16 put8
  have := b.isLt
  have := a.isLt
  rw [BitVec.ofInt_toInt, append_toNat]
  have h1 : BitVec.ofNat 8 ((a.toNat * 256 + b.toNat) / 256) = a := by
    apply BitVec.eq_of_toNat_eq; simp; omega
  have h2 : BitVec.ofNat 8 (a.toNat * 256 + b.toNat) = b := by
    apply BitVec.eq_of_toNat_eq; simp; omega
  rw [h1, h2]
  rfl

theorem undefinedCode_of_lt (p : List Byte) (i count : Nat) (b : Byte) (h : p[i]? = some b)
    (hb : b.toNat < count) : undefinedCode p i count = false := by
  simp [undefinedCode, h]; omega

theorem undefinedCode_of_le (p : List Byte) (i count : Nat) (b : Byte) (h : p[i]? = some b)
    (hb : count ≤ b.toNat) : undefinedCode p i count = true := by
  simp [undefinedCode, h, hb]

/-- The subject byte of an index names it. -/
theorem indexByte_toNat {k : Nat} (i : Fin k) (h : k ≤ 256) : (indexByte i).toNat = i.val := by
  simp [indexByte]; omega

/-! ### Clamping -/

theorem clampNat_bounds (lo hi v : Nat) (h : lo ≤ hi) : lo ≤ clampNat lo hi v ∧ clampNat lo hi v ≤ hi := by
  unfold clampNat; omega

theorem clampNat_of_within (lo hi v : Nat) (h1 : lo ≤ v) (h2 : v ≤ hi) : clampNat lo hi v = v := by
  unfold clampNat; omega

theorem clampField_of_within (lo hi v : Nat) (h1 : lo ≤ v) (h2 : v ≤ hi) :
    clampField lo hi v = { value := v, changed := false } := by
  unfold clampField; rw [clampNat_of_within lo hi v h1 h2]; simp

theorem clampOrDefault_value (d lo hi v : Nat) : (clampOrDefault d lo hi v).value = orDefault d lo hi v := by
  unfold clampOrDefault orDefault; split <;> rfl

theorem clampOrDefault_changed (d lo hi v : Nat) :
    (clampOrDefault d lo hi v).changed = wasClamped lo hi v := by
  unfold clampOrDefault wasClamped; split <;> simp_all [clampField]

theorem orDefault_bounds (d lo hi v : Nat) (h : lo ≤ hi) (hd : lo ≤ d ∧ d ≤ hi) :
    lo ≤ orDefault d lo hi v ∧ orDefault d lo hi v ≤ hi := by
  unfold orDefault; split
  · exact hd
  · exact clampNat_bounds lo hi v h

/-- An acceptance is answered DONE_CLAMPED exactly where a value was clamped (R4, R68). -/
theorem okClamped_eq (s : State) (c : Bool) (P : Prop) [Decidable P] (h : c = true ↔ P) :
    Verdict.okClamped s c = .accept s (doneStatus P) [] := by
  unfold Verdict.okClamped doneStatus; cases c <;> simp_all

/-! ### Fields of a reply -/

theorem putMask_length (m : BitVec 24) : (putMask m).length = 3 := rfl

theorem putOption_length {α : Type} (w : Nat) (put : α → List Byte) (h : ∀ a, (put a).length = w)
    (o : Option α) : (putOption w put o).length = w + 1 := by
  cases o <;> simp [putOption, put8, h]

/-- A point of a loaded curve is the signed field it came from (R75). -/
theorem fieldCurve_get (p : List Byte) (i : Fin 9) :
    tabGet (fieldCurve p) i = signed16 (p.getD (2 * i.val) 0) (p.getD (2 * i.val + 1) 0) := by
  rw [← fieldSigned_eq]; simp [fieldCurve, tabGet, tabMk]

end Machine

end Sys2Proof
end

