-- ==== Sys2Proof/Laws/Search.lean ====
section
/-! SUPPORT. What the search's operations leave of the sections, the marks, the clear lines and the transmit queue. A
change of mark writes a section's mark and refresh timer alone; a reading of a section that does not look at these
two is `MarkBlind`, and every operation of the search keeps it. -/

namespace Sys2Proof.Machine

open Sys2Proof

-- One declaration after another: side by side, their proofs wait for each other's equation lemmas in many threads.
set_option Elab.async false

/-! ### Posting of valve commands (R114) -/

theorem mem_postEntry (n : Slot) (c : ValveCommand) (l : List QueueEntry) :
    { slot := n, command := c } ∈ postEntry n c l := by
  induction l with
  | nil => simp [postEntry]
  | cons e l ih => unfold postEntry; split <;> simp [ih]

theorem postEntry_fresh (n : Slot) (c : ValveCommand) (l : List QueueEntry) (h : ∀ e ∈ l, e.slot ≠ n) :
    postEntry n c l = l ++ [{ slot := n, command := c }] := by
  induction l with
  | nil => rfl
  | cons e l ih => simp at h; simp [postEntry, h.1, ih h.2]

theorem mem_postEntry_of_mem (n : Slot) (c : ValveCommand) (l : List QueueEntry) (e : QueueEntry)
    (h : e ∈ l) (he : e.slot ≠ n ∨ e.command = c) : e ∈ postEntry n c l := by
  induction l with
  | nil => simp at h
  | cons d l ih =>
    unfold postEntry; split
    · rename_i hd
      rcases List.mem_cons.1 h with rfl | h
      · rcases he with he | he
        · exact absurd hd he
        · rw [← hd, ← he]; simp
      · simp [h]
    · rcases List.mem_cons.1 h with rfl | h
      · simp
      · simp [ih h]

theorem slot_of_mem_postEntry (n : Slot) (c : ValveCommand) (l : List QueueEntry) (e : QueueEntry)
    (h : e ∈ postEntry n c l) : e.slot = n ∨ e ∈ l := by
  induction l with
  | nil => simp [postEntry] at h; left; rw [h]
  | cons d l ih =>
    unfold postEntry at h; split at h
    · rcases List.mem_cons.1 h with rfl | h
      · left; rfl
      · simp [h]
    · rcases List.mem_cons.1 h with rfl | h
      · simp
      · rcases ih h with h | h <;> simp [h]

/-! ### Changes of marks (R136) -/

/-- A change of mark writes a section's mark and, where it has a valve node, its refresh timer. -/
theorem State.setMark_sec (s : State) (m : Mark) (n k : Slot) :
    (s.setMark m n).sec k =
      if k = n then
        { s.sec n with
          mark := m
          refreshTimer :=
            if (s.sec n).config.valveNode.isSome then some (s.expiryIn 10)
            else (s.sec n).refreshTimer }
      else s.sec k := by
  unfold State.setMark
  simp only [State.evalLines_sec, State.restage_sec]
  by_cases hk : k = n
  · subst hk
    simp only [State.modSec_sec_self]
    split <;> simp_all
    rfl
  · simp only [State.modSec_sec_self, hk, if_false]
    split <;> simp [State.modSec_sec_ne _ _ hk]

theorem State.setMarks_mark (m : Mark) (l : List Slot) :
    ∀ (s : State) (k : Slot), ((s.setMarks m l).sec k).mark = if k ∈ l then m else (s.sec k).mark := by
  induction l with
  | nil => intro s k; simp [State.setMarks]
  | cons n l ih =>
    intro s k
    show ((State.setMarks (s.setMark m n) m l).sec k).mark = _
    rw [ih, State.setMark_sec]
    by_cases h : k = n
    · subst h; by_cases h2 : k ∈ l <;> simp [h2]
    · by_cases h2 : k ∈ l <;> simp [h, h2]

theorem State.setMarks_sec_other (m : Mark) (l : List Slot) :
    ∀ (s : State) (k : Slot), k ∉ l → (s.setMarks m l).sec k = s.sec k := by
  induction l with
  | nil => intro s k _; rfl
  | cons n l ih =>
    intro s k h
    simp at h
    refine Eq.trans (ih (s.setMark m n) k h.2) ?_
    rw [State.setMark_sec, if_neg h.1]

/-- A reading of a section that does not look at its mark and its refresh timer. -/
def MarkBlind {β : Type} (g : SectionRecord → β) : Prop :=
  ∀ r m t, g { r with mark := m, refreshTimer := t } = g r

theorem State.setMarks_keeps {β : Type} (g : SectionRecord → β) (hg : MarkBlind g) (m : Mark)
    (l : List Slot) : ∀ (s : State) (k : Slot), g ((s.setMarks m l).sec k) = g (s.sec k) := by
  induction l with
  | nil => intro s k; rfl
  | cons n l ih =>
    intro s k
    show g ((State.setMarks (s.setMark m n) m l).sec k) = _
    rw [ih, State.setMark_sec]
    split
    · rename_i h; subst h; exact hg _ _ _
    · rfl

theorem State.setMark_txQueue (s : State) (m : Mark) (n : Slot) :
    (s.setMark m n).txQueue =
      if (s.sec n).config.valveNode.isSome then Sys2Proof.Machine.postEntry n m.command s.txQueue
      else s.txQueue := by
  unfold State.setMark
  rw [State.evalLines_txQueue, State.restage_txQueue]
  simp only [State.modSec_sec, if_true]
  split <;> rfl

theorem State.setMarks_entry_slot (m : Mark) (l : List Slot) :
    ∀ (s : State) (e : QueueEntry), e ∈ (s.setMarks m l).txQueue → e.slot ∈ l ∨ e ∈ s.txQueue := by
  induction l with
  | nil => intro s e h; right; exact h
  | cons n l ih =>
    intro s e h
    rcases ih (s.setMark m n) e h with h | h
    · simp [h]
    · rw [State.setMark_txQueue] at h
      split at h
      · rcases slot_of_mem_postEntry _ _ _ _ h with h | h <;> simp [h]
      · simp [h]

theorem State.setMarks_keeps_entry (m : Mark) (l : List Slot) :
    ∀ (s : State) (k : Slot), { slot := k, command := m.command } ∈ s.txQueue →
      { slot := k, command := m.command } ∈ (s.setMarks m l).txQueue := by
  induction l with
  | nil => intro s k h; exact h
  | cons n l ih =>
    intro s k h
    apply ih (s.setMark m n)
    rw [State.setMark_txQueue]; split
    · exact mem_postEntry_of_mem _ _ _ _ h (Or.inr rfl)
    · exact h

/-- Every marked section with a valve node has the command of its new mark in the queue (R116). -/
theorem State.setMarks_posts (m : Mark) (l : List Slot) :
    ∀ (s : State) (k : Slot), k ∈ l → (s.sec k).config.valveNode.isSome = true →
      { slot := k, command := m.command } ∈ (s.setMarks m l).txQueue := by
  induction l with
  | nil => intro s k h; simp at h
  | cons n l ih =>
    intro s k h hv
    by_cases hk : k = n
    · subst hk
      apply State.setMarks_keeps_entry m l (s.setMark m k)
      rw [State.setMark_txQueue, if_pos hv]; exact mem_postEntry _ _ _
    · have : k ∈ l := by simpa [hk] using h
      refine ih (s.setMark m n) k this ?_
      rw [State.setMark_sec, if_neg hk]; exact hv

/-! ### Releases and endings -/

theorem State.release_search (s : State) : s.release.search = { s.search with isolated := [] } := by
  simp [State.release]

theorem State.release_mark (s : State) (k : Slot) :
    (s.release.sec k).mark = if k ∈ s.search.isolated then .none else (s.sec k).mark := by
  simp [State.release, State.setMarks_mark]

theorem State.release_keeps {β : Type} (g : SectionRecord → β) (hg : MarkBlind g) (s : State) (k : Slot) :
    g (s.release.sec k) = g (s.sec k) := by
  simp [State.release, State.setMarks_keeps g hg]

theorem State.endSearch_sec (s : State) (r : SearchResult) (k : Slot) :
    (s.endSearch r).sec k = s.release.sec k := by
  simp [State.endSearch]

theorem State.endSearch_search (s : State) (r : SearchResult) :
    (s.endSearch r).search = { s.search.toIdle with result := r } := by
  simp [State.endSearch, State.resumeMonitor]
  split <;> simp [State.release_search, SearchContext.toIdle]

theorem State.endSearch_attention (s : State) (r : SearchResult) :
    (s.endSearch r).attention = insertCause { kind := .searchEnd, subject := 0 } s.attention := by
  simp [State.endSearch, State.resumeMonitor]
  split <;> simp [State.post, State.release]

theorem State.endSearch_keeps {β : Type} (g : SectionRecord → β) (hg : MarkBlind g) (s : State)
    (r : SearchResult) (k : Slot) : g ((s.endSearch r).sec k) = g (s.sec k) := by
  rw [State.endSearch_sec, State.release_keeps g hg]

theorem State.valveFault_sec (s : State) (l : List Slot) (k : Slot) :
    (s.valveFault l).sec k = (s.endSearch .valveFault).sec k := by
  simp [State.valveFault]

/-! ### Isolations and waits -/

theorem State.isolate_keeps {β : Type} (g : SectionRecord → β) (hg : MarkBlind g) (s : State) (k : Slot) :
    g (s.isolate.sec k) = g (s.sec k) := by
  unfold State.isolate
  dsimp only
  repeat' split
  all_goals first
    | rfl
    | (rw [State.valveFault_sec, State.endSearch_keeps g hg]; rfl)
    | simp [State.setMarks_keeps g hg]

theorem State.newStep_keeps {β : Type} (g : SectionRecord → β) (hg : MarkBlind g) (s : State) (k : Slot) :
    g (s.newStep.sec k) = g (s.sec k) := by
  unfold State.newStep; rw [State.isolate_keeps g hg]; rfl

theorem State.judgeResting_keeps {β : Type} (g : SectionRecord → β) (hg : MarkBlind g) (s : State)
    (k : Slot) : g (s.judgeResting.sec k) = g (s.sec k) := by
  unfold State.judgeResting; split
  · rw [State.newStep_keeps g hg]; rfl
  · rfl

theorem State.judgeSuspended_keeps {β : Type} (g : SectionRecord → β) (hg : MarkBlind g) (s : State)
    (k : Slot) : g (s.judgeSuspended.sec k) = g (s.sec k) := by
  unfold State.judgeSuspended; split
  · rw [State.isolate_keeps g hg]; rfl
  · rfl

theorem State.judgeWait_keeps {β : Type} (g : SectionRecord → β) (hg : MarkBlind g) (s : State)
    (k : Slot) : g (s.judgeWait.sec k) = g (s.sec k) := by
  unfold State.judgeWait
  split <;> first
    | rw [State.judgeResting_keeps g hg]
    | rw [State.judgeSuspended_keeps g hg]
    | rfl

theorem State.retireFromSearch_keeps {β : Type} (g : SectionRecord → β) (hg : MarkBlind g) (s : State)
    (n k : Slot) : g ((s.retireFromSearch n).sec k) = g (s.sec k) := by
  unfold State.retireFromSearch
  dsimp only
  repeat' split
  · rfl
  · rw [State.endSearch_keeps g hg]; rfl
  · rw [State.judgeWait_keeps g hg]; rfl
  · rfl

/-! ### Masks of the clear lines: the search changes none -/

theorem ClearLine.act_mask (c : ClearLine) (holds : Bool) (expiry : Nat) :
    (c.act holds expiry).mask = c.mask := by
  unfold ClearLine.act; repeat' split
  all_goals rfl

theorem State.evalLines_mask (s : State) (n : Slot) (k : LineId) :
    ((s.evalLines n).line k).mask = (s.line k).mask := by
  rw [State.evalLines_line]; split
  · rw [ClearLine.act_mask]
  · rfl

theorem State.setMark_mask (s : State) (m : Mark) (n : Slot) (k : LineId) :
    ((s.setMark m n).line k).mask = (s.line k).mask := by
  unfold State.setMark
  rw [State.evalLines_mask]
  split
  · simp [State.postValve]; rfl
  · simp

theorem State.setMarks_mask (m : Mark) (l : List Slot) :
    ∀ (s : State) (k : LineId), ((s.setMarks m l).line k).mask = (s.line k).mask := by
  induction l with
  | nil => intro s k; rfl
  | cons n l ih =>
    intro s k
    show ((State.setMarks (s.setMark m n) m l).line k).mask = _
    rw [ih, State.setMark_mask]

theorem State.release_mask (s : State) (k : LineId) : (s.release.line k).mask = (s.line k).mask := by
  show ((s.setMarks _ _).line k).mask = _
  rw [State.setMarks_mask]

theorem State.endSearch_line (s : State) (r : SearchResult) (k : LineId) :
    (s.endSearch r).line k = s.release.line k := by
  unfold State.endSearch; rw [State.resumeMonitor_line]; rfl

theorem State.valveFault_line (s : State) (l : List Slot) (k : LineId) :
    (s.valveFault l).line k = (s.endSearch .valveFault).line k := by
  simp [State.valveFault]

theorem State.isolate_mask (s : State) (k : LineId) : (s.isolate.line k).mask = (s.line k).mask := by
  unfold State.isolate
  dsimp only
  repeat' split
  all_goals first
    | rfl
    | (rw [State.valveFault_line, State.endSearch_line, State.release_mask]; rfl)
    | (show ((State.setMarks _ _ _).line k).mask = _; rw [State.setMarks_mask]; rfl)

theorem State.newStep_mask (s : State) (k : LineId) : (s.newStep.line k).mask = (s.line k).mask := by
  unfold State.newStep; rw [State.isolate_mask]; rfl

theorem State.judgeWait_mask (s : State) (k : LineId) : (s.judgeWait.line k).mask = (s.line k).mask := by
  unfold State.judgeWait State.judgeResting State.judgeSuspended
  repeat' split
  all_goals first
    | rfl
    | (rw [State.newStep_mask]; rfl)
    | (rw [State.isolate_mask]; rfl)

theorem State.retireFromSearch_mask (s : State) (n : Slot) (k : LineId) :
    ((s.retireFromSearch n).line k).mask = (s.line k).mask := by
  unfold State.retireFromSearch
  dsimp only
  repeat' split
  · rfl
  · rw [State.endSearch_line, State.release_mask]; rfl
  · rw [State.judgeWait_mask]; rfl
  · rfl

/-! ### The duty in force: a change of mark moves none -/

theorem State.restage_dutyInForce (s : State) (n m : Slot) :
    ((s.restage n).fan m).gen.dutyInForce = (s.fan m).gen.dutyInForce := by
  rw [State.restage_fan_shape]

theorem State.setMark_dutyInForce (s : State) (mk : Mark) (n m : Slot) :
    ((s.setMark mk n).fan m).gen.dutyInForce = (s.fan m).gen.dutyInForce := by
  unfold State.setMark
  rw [State.evalLines_fan, State.restage_dutyInForce]
  split <;> rfl

theorem State.setMarks_dutyInForce (mk : Mark) (l : List Slot) :
    ∀ (s : State) (m : Slot), ((s.setMarks mk l).fan m).gen.dutyInForce = (s.fan m).gen.dutyInForce := by
  induction l with
  | nil => intro s k; rfl
  | cons n l ih =>
    intro s k
    show ((State.setMarks (s.setMark mk n) mk l).fan k).gen.dutyInForce = _
    rw [ih, State.setMark_dutyInForce]

end Sys2Proof.Machine
end

