-- ==== Sys2Proof/Laws/Isolation.lean ====
section
/-! SUPPORT. What an ending and an isolation of the search do, said once in the terms of the statements, and what of the
state and of the context `IsolationMade` looks at. -/

namespace Sys2Proof.Machine

open Sys2Proof

-- One declaration after another: side by side, their proofs wait for each other's equation lemmas in many threads.
set_option Elab.async false

/-! ### Endings (R148) -/

/-- The context a search leaves behind is the one the statements describe. -/
theorem SearchContext.toIdle_ended (c : SearchContext) (r : SearchResult) :
    { c.toIdle with result := r } = c.ended r := rfl

/-- A release posts OPEN for every section of the isolated set that has a valve node. -/
theorem openPosted_release (s : State) : OpenPosted s s.release s.search.isolated := fun n hn hv =>
  State.setMarks_posts .none s.search.isolated s n hn (Option.isSome_iff_ne_none.2 hv)

theorem State.endSearch_txQueue (s : State) (r : SearchResult) :
    (s.endSearch r).txQueue = s.release.txQueue := by
  simp [State.endSearch]

theorem monitorBegins_endSearch (s : State) (r : SearchResult) :
    MonitorBegins s (s.endSearch r) s.search.loopOf := by
  intro l hl
  have loop : ((s.release.modSearch fun c => { c.toIdle with result := r }).post .searchEnd 0).search.loopOf =
      some l := by
    simp [State.release_search, SearchContext.toIdle, hl]
  unfold State.endSearch State.resumeMonitor
  rw [loop]
  simp [State.beginWindow, State.expiryIn, State.tenths, CaptureWindow.empty]

/-- An ending does all that `SearchEnded` lists. -/
theorem searchEnded_endSearch (s : State) (r : SearchResult) : SearchEnded s (s.endSearch r) r := by
  refine ⟨s.endSearch_search r, ?_, fun n => ?_, fun n hn hv => ?_, monitorBegins_endSearch s r⟩
  · rw [State.endSearch_attention, mem_insertCause]
    exact .inr rfl
  · rw [State.endSearch_sec, State.release_mark]
  · rw [State.endSearch_txQueue]
    exact openPosted_release s n hn hv

theorem State.mem_postAll (k : CauseKind) (l : List Slot) (s : State) (c : Cause) :
    c ∈ (s.postAll k l).attention ↔ c ∈ s.attention ∨ ∃ n ∈ l, c = { kind := k, subject := n.val } := by
  unfold State.postAll
  induction l generalizing s with
  | nil => simp
  | cons n l ih => rw [List.foldl_cons, ih, State.mem_post]; simp [or_assoc]

theorem State.mem_valveFault (s : State) (l : List Slot) (n : Slot) (h : n ∈ l) :
    { kind := .valveFault, subject := n.val } ∈ (s.valveFault l).attention := by
  unfold State.valveFault
  rw [State.mem_postAll]
  exact .inr ⟨n, h, rfl⟩

theorem searchEnded_valveFault (s : State) (l : List Slot) : SearchEnded s (s.valveFault l) .valveFault := by
  obtain ⟨idle, posted, marks, opened, monitor⟩ := searchEnded_endSearch s .valveFault
  refine ⟨?_, ?_, fun n => ?_, fun n hn hv => ?_, fun k hk => ?_⟩
  · simpa [State.valveFault] using idle
  · unfold State.valveFault
    rw [State.mem_postAll]
    exact .inl posted
  · rw [State.valveFault_sec]
    exact marks n
  · simpa [State.valveFault] using opened n hn hv
  · simpa [State.valveFault] using monitor k hk

/-! ### The isolation (R139) -/

/-- An isolation does one of the three things that `IsolationMade` lists. -/
theorem isolationMade_isolate (u : State) (p : SearchParams) (hp : u.search.params = some p) :
    IsolationMade u u.isolate u.search p u.tenths fun n => (u.sec n).mark := by
  unfold IsolationMade
  intro half members step
  have list : (u.search.range.take ((u.search.range.length + 1) / 2)).flatMap SearchUnit.members = members :=
    rfl
  have sections (f : SearchContext → SearchContext) (n : Slot) : (u.modSearch f).sec n = u.sec n := rfl
  have unsafe_iff : (members.any fun m => (u.sec m).protection != .normal) = true ↔
      ∃ n ∈ members, (u.sec n).protection ≠ .normal := by simp
  have bare_iff : (members.any fun m => (u.sec m).config.valveNode.isNone) = true ↔
      ∃ n ∈ members, (u.sec n).config.valveNode = none := by simp
  have rest (f : SearchContext → SearchContext) (hf : (f u.search).params = u.search.params) :
      (u.modSearch f).restTimer = if p.rest = 0 then none else some (u.tenths + 10 * p.rest) := by
    simp [State.restTimer, hf, hp, State.expiryIn]
    rfl
  unfold State.isolate
  simp only [list, sections]
  refine ⟨fun h => ?_, fun h bare => ?_, fun h => ?_⟩
  · rw [if_pos (unsafe_iff.2 h)]
    exact ⟨by simp [rest, step, half], fun n => rfl⟩
  · rw [if_neg fun k => by
      obtain ⟨n, hn, kn⟩ := unsafe_iff.1 k
      exact kn (h n hn), if_pos (bare_iff.2 bare)]
    obtain ⟨ends, posted, marks, opened, monitor⟩ := searchEnded_valveFault
      (u.modSearch fun c =>
        { c with
          phase := some (if u.search.range.length = 1 then .confirm else .probe)
          probed := (u.search.range.length + 1) / 2 })
      (members.filter fun m => (u.sec m).config.valveNode.isNone)
    exact ⟨by rw [ends]; rfl, opened, monitor, posted,
      fun n hn hv => State.mem_valveFault _ _ n (by simp [hn, hv]), fun n => by rw [marks n]; rfl⟩
  · rw [if_neg fun k => by
        obtain ⟨n, hn, kn⟩ := unsafe_iff.1 k
        exact kn (h n hn).1,
      if_neg fun k => by
        obtain ⟨n, hn, kn⟩ := bare_iff.1 k
        exact (h n hn).2 kn]
    refine ⟨by simp [SearchContext.param, hp, State.expiryIn, State.tenths, step, half],
      fun n => by simp [State.setMarks_mark], fun n hn => ?_⟩
    have posts := State.setMarks_posts .probe members
      (u.modSearch fun c =>
        { c with
          phase := some (if u.search.range.length = 1 then .confirm else .probe)
          probed := (u.search.range.length + 1) / 2 }) n hn
    simp at posts ⊢
    exact posts (Option.isSome_iff_ne_none.2 (h n hn).2)

/-- Of the state before it, `IsolationMade` looks at the protection states and the valve nodes of the sections and at
the window lengths of the loops. -/
theorem isolationMade_congr (s u t : State) (c : SearchContext) (p : SearchParams) (tenths : Nat)
    (marks : Slot → Mark)
    (h : ∀ n, (s.sec n).protection = (u.sec n).protection ∧
      (s.sec n).config.valveNode = (u.sec n).config.valveNode)
    (w : ∀ l, (s.loopRec l).config.leakWindow = (u.loopRec l).config.leakWindow)
    (made : IsolationMade u t c p tenths marks) : IsolationMade s t c p tenths marks := by
  have protection n : (s.sec n).protection = (u.sec n).protection := (h n).1
  have node n : (s.sec n).config.valveNode = (u.sec n).config.valveNode := (h n).2
  simpa only [IsolationMade, OpenPosted, MonitorBegins, protection, node, w] using made

/-- Of the context it looks neither at the state and the timers nor at the wait set. -/
theorem isolationMade_context (u t : State) (c : SearchContext) (phaseTimer deadline : Option Nat)
    (wait : List Slot) (state : SearchState) (p : SearchParams) (tenths : Nat) (marks : Slot → Mark)
    (made : IsolationMade u t c p tenths marks) :
    IsolationMade u t
      { c with phaseTimer := phaseTimer, wait := wait, deadline := deadline, state := state } p tenths marks :=
  made

end Sys2Proof.Machine
end

