-- ==== Sys2Proof/Laws/PerInstr.lean ====
section
/-! SUPPORT. The statement families made per command. `RequestShape`: a well-formed request carries a kind code of
R173 and a payload that fits its frame (section 9.2); the other commands carry no request. -/

namespace Sys2Proof.Laws.RequestShape

open Sys2Proof

-- One declaration after another: side by side, their proofs wait for each other's equation lemmas in many threads.
set_option Elab.async false

/-- A well-formed command that is a request has a kind code of R173 and at most 60 payload bytes. -/
def Statement (i : Instr) : Prop :=
  i.wellFormed = true → ∀ k dt j p, requestParts i = some (k, dt, j, p) → k ∈ kindCodes ∧ p.length ≤ 60

/-- A request whose payload fits. -/
theorem of_payloadFits {i : Instr} {k dt : Nat} {j : Byte} {p : List Byte}
    (hp : requestParts i = some (k, dt, j, p)) (hk : k ∈ kindCodes)
    (hw : i.wellFormed = true → payloadFits p = true) : Statement i := by
  intro h k' dt' j' p' hp'
  rw [hp] at hp'
  cases hp'
  exact ⟨hk, by simpa [payloadFits] using hw h⟩

/-- A command that is no request. -/
theorem of_none {i : Instr} (hp : requestParts i = none) : Statement i := by
  intro _ k dt j p h
  rw [hp] at h
  cases h

theorem null (dt : Nat) (subject : Byte) (payload : List Byte) :
    Statement (.null dt subject payload) :=
  of_payloadFits rfl (by decide) (fun h => by simpa [Instr.wellFormed] using h)

theorem enrol (dt : Nat) (subject : Byte) (payload : List Byte) :
    Statement (.enrol dt subject payload) :=
  of_payloadFits rfl (by decide) (fun h => by simpa [Instr.wellFormed] using h)

theorem amendFlow (dt : Nat) (subject : Byte) (payload : List Byte) :
    Statement (.amendFlow dt subject payload) :=
  of_payloadFits rfl (by decide) (fun h => by simp [Instr.wellFormed] at h; exact h.1)

theorem amendThresholds (dt : Nat) (subject : Byte) (payload : List Byte) :
    Statement (.amendThresholds dt subject payload) :=
  of_payloadFits rfl (by decide) (fun h => by simp [Instr.wellFormed] at h; exact h.1)

theorem amendStaleness (dt : Nat) (subject : Byte) (payload : List Byte) :
    Statement (.amendStaleness dt subject payload) :=
  of_payloadFits rfl (by decide) (fun h => by simp [Instr.wellFormed] at h; exact h.1)

theorem amendValve (dt : Nat) (subject : Byte) (payload : List Byte) :
    Statement (.amendValve dt subject payload) :=
  of_payloadFits rfl (by decide) (fun h => by simp [Instr.wellFormed] at h; exact h.1)

theorem amendGang (dt : Nat) (subject : Byte) (payload : List Byte) :
    Statement (.amendGang dt subject payload) :=
  of_payloadFits rfl (by decide) (fun h => by simp [Instr.wellFormed] at h; exact h.1)

theorem amendRamp (dt : Nat) (subject : Byte) (payload : List Byte) :
    Statement (.amendRamp dt subject payload) :=
  of_payloadFits rfl (by decide) (fun h => by simp [Instr.wellFormed] at h; exact h.1)

theorem amendLimits (dt : Nat) (subject : Byte) (payload : List Byte) :
    Statement (.amendLimits dt subject payload) :=
  of_payloadFits rfl (by decide) (fun h => by simp [Instr.wellFormed] at h; exact h.1)

theorem lookup (dt : Nat) (subject : Byte) (payload : List Byte) :
    Statement (.lookup dt subject payload) :=
  of_payloadFits rfl (by decide) (fun h => by simpa [Instr.wellFormed] using h)

theorem fanDemand (dt : Nat) (subject : Byte) (payload : List Byte) :
    Statement (.fanDemand dt subject payload) :=
  of_payloadFits rfl (by decide) (fun h => by simpa [Instr.wellFormed] using h)

theorem acknowledgeTrip (dt : Nat) (subject : Byte) (payload : List Byte) :
    Statement (.acknowledgeTrip dt subject payload) :=
  of_payloadFits rfl (by decide) (fun h => by simpa [Instr.wellFormed] using h)

theorem retire (dt : Nat) (subject : Byte) (payload : List Byte) :
    Statement (.retire dt subject payload) :=
  of_payloadFits rfl (by decide) (fun h => by simpa [Instr.wellFormed] using h)

theorem loopSetGlycol (dt : Nat) (subject : Byte) (payload : List Byte) :
    Statement (.loopSetGlycol dt subject payload) :=
  of_payloadFits rfl (by decide) (fun h => by simp [Instr.wellFormed] at h; exact h.1)

theorem loopSetRegime (dt : Nat) (subject : Byte) (payload : List Byte) :
    Statement (.loopSetRegime dt subject payload) :=
  of_payloadFits rfl (by decide) (fun h => by simp [Instr.wellFormed] at h; exact h.1)

theorem loopSetPump (dt : Nat) (subject : Byte) (payload : List Byte) :
    Statement (.loopSetPump dt subject payload) :=
  of_payloadFits rfl (by decide) (fun h => by simp [Instr.wellFormed] at h; exact h.1)

theorem loopSetLeak (dt : Nat) (subject : Byte) (payload : List Byte) :
    Statement (.loopSetLeak dt subject payload) :=
  of_payloadFits rfl (by decide) (fun h => by simp [Instr.wellFormed] at h; exact h.1)

theorem loopSetSearch (dt : Nat) (subject : Byte) (payload : List Byte) :
    Statement (.loopSetSearch dt subject payload) :=
  of_payloadFits rfl (by decide) (fun h => by simp [Instr.wellFormed] at h; exact h.1)

theorem loopSetUnset (dt : Nat) (subject : Byte) (payload : List Byte) :
    Statement (.loopSetUnset dt subject payload) :=
  of_payloadFits rfl (by decide) (fun h => by simp [Instr.wellFormed] at h; exact h.1)

theorem loopLookup (dt : Nat) (subject : Byte) (payload : List Byte) :
    Statement (.loopLookup dt subject payload) :=
  of_payloadFits rfl (by decide) (fun h => by simpa [Instr.wellFormed] using h)

theorem pumpDemand (dt : Nat) (subject : Byte) (payload : List Byte) :
    Statement (.pumpDemand dt subject payload) :=
  of_payloadFits rfl (by decide) (fun h => by simpa [Instr.wellFormed] using h)

theorem curveLoad (dt : Nat) (subject : Byte) (payload : List Byte) :
    Statement (.curveLoad dt subject payload) :=
  of_payloadFits rfl (by decide) (fun h => by simpa [Instr.wellFormed] using h)

theorem curveLookup (dt : Nat) (subject : Byte) (payload : List Byte) :
    Statement (.curveLookup dt subject payload) :=
  of_payloadFits rfl (by decide) (fun h => by simpa [Instr.wellFormed] using h)

theorem bind (dt : Nat) (subject : Byte) (payload : List Byte) :
    Statement (.bind dt subject payload) :=
  of_payloadFits rfl (by decide) (fun h => by simpa [Instr.wellFormed] using h)

theorem unbind (dt : Nat) (subject : Byte) (payload : List Byte) :
    Statement (.unbind dt subject payload) :=
  of_payloadFits rfl (by decide) (fun h => by simpa [Instr.wellFormed] using h)

theorem holdOn (dt : Nat) (subject : Byte) (payload : List Byte) :
    Statement (.holdOn dt subject payload) :=
  of_payloadFits rfl (by decide) (fun h => by simp [Instr.wellFormed] at h; exact h.1)

theorem holdOff (dt : Nat) (subject : Byte) (payload : List Byte) :
    Statement (.holdOff dt subject payload) :=
  of_payloadFits rfl (by decide) (fun h => by simp [Instr.wellFormed] at h; exact h.1)

theorem bindingLookup (dt : Nat) (subject : Byte) (payload : List Byte) :
    Statement (.bindingLookup dt subject payload) :=
  of_payloadFits rfl (by decide) (fun h => by simpa [Instr.wellFormed] using h)

theorem seenRead (dt : Nat) (subject : Byte) (payload : List Byte) :
    Statement (.seenRead dt subject payload) :=
  of_payloadFits rfl (by decide) (fun h => by simpa [Instr.wellFormed] using h)

theorem seenClear (dt : Nat) (subject : Byte) (payload : List Byte) :
    Statement (.seenClear dt subject payload) :=
  of_payloadFits rfl (by decide) (fun h => by simpa [Instr.wellFormed] using h)

theorem clearLineSet (dt : Nat) (subject : Byte) (payload : List Byte) :
    Statement (.clearLineSet dt subject payload) :=
  of_payloadFits rfl (by decide) (fun h => by simpa [Instr.wellFormed] using h)

theorem clearLineLookup (dt : Nat) (subject : Byte) (payload : List Byte) :
    Statement (.clearLineLookup dt subject payload) :=
  of_payloadFits rfl (by decide) (fun h => by simpa [Instr.wellFormed] using h)

theorem searchStart (dt : Nat) (subject : Byte) (payload : List Byte) :
    Statement (.searchStart dt subject payload) :=
  of_payloadFits rfl (by decide) (fun h => by simpa [Instr.wellFormed] using h)

theorem searchStop (dt : Nat) (subject : Byte) (payload : List Byte) :
    Statement (.searchStop dt subject payload) :=
  of_payloadFits rfl (by decide) (fun h => by simpa [Instr.wellFormed] using h)

theorem searchLookup (dt : Nat) (subject : Byte) (payload : List Byte) :
    Statement (.searchLookup dt subject payload) :=
  of_payloadFits rfl (by decide) (fun h => by simpa [Instr.wellFormed] using h)

theorem nextAttention (dt : Nat) (subject : Byte) (payload : List Byte) :
    Statement (.nextAttention dt subject payload) :=
  of_payloadFits rfl (by decide) (fun h => by simpa [Instr.wellFormed] using h)

theorem attentionLevels (dt : Nat) (subject : Byte) (payload : List Byte) :
    Statement (.attentionLevels dt subject payload) :=
  of_payloadFits rfl (by decide) (fun h => by simpa [Instr.wellFormed] using h)

theorem partStatus (dt : Nat) (subject : Byte) (payload : List Byte) :
    Statement (.partStatus dt subject payload) :=
  of_payloadFits rfl (by decide) (fun h => by simpa [Instr.wellFormed] using h)

theorem partConfigure (dt : Nat) (subject : Byte) (payload : List Byte) :
    Statement (.partConfigure dt subject payload) :=
  of_payloadFits rfl (by decide) (fun h => by simpa [Instr.wellFormed] using h)

theorem fullReset (dt : Nat) (subject : Byte) (payload : List Byte) :
    Statement (.fullReset dt subject payload) :=
  of_payloadFits rfl (by decide) (fun h => by simpa [Instr.wellFormed] using h)

theorem transactionBegin (dt : Nat) : Statement (.transactionBegin dt) := of_none rfl

theorem brokenTransaction (dt : Nat) (bytes : List Byte) (extra : Nat) : Statement (.brokenTransaction dt bytes extra) := of_none rfl

theorem frameRefused (dt : Nat) (frame : List Byte) : Statement (.frameRefused dt frame) := of_none rfl

theorem notReadyTransactionEnd (dt : Nat) : Statement (.notReadyTransactionEnd dt) := of_none rfl

theorem replyReady : Statement .replyReady := of_none rfl

theorem powerOn (stopLow selLow resetLow : Bool) : Statement (.powerOn stopLow selLow resetLow) := of_none rfl

theorem pinReset : Statement .pinReset := of_none rfl

theorem stopAssertion (dt : Nat) : Statement (.stopAssertion dt) := of_none rfl

theorem stopRelease (dt : Nat) : Statement (.stopRelease dt) := of_none rfl

theorem fragmentEnd (dt : Nat) (chars : List BusChar) : Statement (.fragmentEnd dt chars) := of_none rfl

theorem transmissionBegin (dt : Nat) : Statement (.transmissionBegin dt) := of_none rfl

theorem transmissionEnd (dt : Nat) (readBack : List BusChar) : Statement (.transmissionEnd dt readBack) := of_none rfl

theorem evaluationTake (dt : Nat) : Statement (.evaluationTake dt) := of_none rfl

theorem evaluationTimerExpiry (n : Slot) : Statement (.evaluationTimerExpiry n) := of_none rfl

theorem refreshTimerExpiry (n : Slot) : Statement (.refreshTimerExpiry n) := of_none rfl

theorem freshnessExpiry (d : DestField) : Statement (.freshnessExpiry d) := of_none rfl

theorem combiningWindowExpiry (d : DestField) : Statement (.combiningWindowExpiry d) := of_none rfl

theorem holdExpiry (d : DestField) : Statement (.holdExpiry d) := of_none rfl

theorem fanRampExpiry (n : Slot) : Statement (.fanRampExpiry n) := of_none rfl

theorem pumpRampExpiry (l : LoopId) : Statement (.pumpRampExpiry l) := of_none rfl

theorem periodBoundary (dt : Nat) (c : ChannelRef) : Statement (.periodBoundary dt c) := of_none rfl

theorem leakWindowExpiry (l : LoopId) : Statement (.leakWindowExpiry l) := of_none rfl

theorem delayTimerExpiry (k : LineId) : Statement (.delayTimerExpiry k) := of_none rfl

theorem settleTimerExpiry : Statement .settleTimerExpiry := of_none rfl

theorem settleDeadlineExpiry : Statement .settleDeadlineExpiry := of_none rfl

theorem observeTimerExpiry : Statement .observeTimerExpiry := of_none rfl

theorem restTimerExpiry : Statement .restTimerExpiry := of_none rfl

theorem restDeadlineExpiry : Statement .restDeadlineExpiry := of_none rfl

theorem channelClockTick (dt : Nat) (g : ClockGroup) : Statement (.channelClockTick dt g) := of_none rfl

theorem resetInputAssertion : Statement .resetInputAssertion := of_none rfl

end Sys2Proof.Laws.RequestShape
end

