-- ==== Sys2Proof/Laws/Take.lean ====
section
/-! SUPPORT. The taking of a request: the one lemma that says what a request does, the routing of its subject, the
service by slot state, and what the verdicts leave. -/

namespace Sys2Proof.Machine

open Sys2Proof

/-! ### The end of a transaction -/

/-- Where a request is taken, the judgement acts on the part at the take (R173). -/
theorem State.endTransaction_of_taking (s : State) (dt : Nat) (judge : State → State) (h : s.taking) :
    (s.advance dt).endTransaction judge = judge (s.atTake dt) := by
  obtain ⟨h1, h2⟩ := h
  have h3 : (s.advance dt).inReset = false := h1
  rcases h2 with h2 | ⟨f, h2⟩ <;> simp [State.endTransaction, h2, h3, State.atTake]

/-- A request that is taken: the owner judges the part at the take, and the link takes its verdict (R173). -/
theorem State.request_of_taking (s : State) (dt kind : Nat) (owner : State → Verdict) (h : s.taking) :
    s.request dt kind owner = (s.atTake dt).take kind (owner (s.atTake dt)) := by
  simp [State.request, s.endTransaction_of_taking _ _ h]

/-- A request in a transaction answered NOT_READY only ends the transaction (R177). -/
theorem State.request_of_notReady (s : State) (dt kind : Nat) (owner : State → Verdict) (f : Reply)
    (h : s.link = .answering f true) :
    s.request dt kind owner = { s with time := s.time + dt, link := .idle } := by
  simp [State.request, State.endTransaction, State.advance, h]

/-- A request in a transaction the part ignores only ends the transaction (R181). -/
theorem State.request_of_ignored (s : State) (dt kind : Nat) (owner : State → Verdict)
    (h : s.link = .ignored) :
    s.request dt kind owner = { s with time := s.time + dt, link := .idle } := by
  simp [State.request, State.endTransaction, State.advance, h]

/-! ### Verdicts -/

theorem State.take_no (s : State) (dt kind : Nat) (st : Status) :
    (s.atTake dt).take kind (.no st) = s.answered dt kind st [] := rfl

theorem State.take_refuse (s : State) (dt kind : Nat) (st : Status) (p : List Byte) :
    (s.atTake dt).take kind (.refuse st p) = s.answered dt kind st p := rfl

theorem State.take_ok_self (s : State) (dt kind : Nat) :
    (s.atTake dt).take kind (.ok (s.atTake dt)) = s.answered dt kind .done [] := rfl

theorem State.take_answer_self (s : State) (dt kind : Nat) (p : List Byte) :
    (s.atTake dt).take kind (.answer (s.atTake dt) p) = s.answered dt kind .done p := rfl

/-! ### The part at the take -/

theorem State.atTake_sec (s : State) (dt : Nat) (n : Slot) : (s.atTake dt).sec n = s.sec n := rfl

theorem State.atTake_fan (s : State) (dt : Nat) (n : Slot) : (s.atTake dt).fan n = s.fan n := rfl

theorem State.atTake_loopRec (s : State) (dt : Nat) (l : LoopId) : (s.atTake dt).loopRec l = s.loopRec l := rfl

theorem State.atTake_pump (s : State) (dt : Nat) (l : LoopId) : (s.atTake dt).pump l = s.pump l := rfl

theorem State.atTake_binding (s : State) (dt : Nat) (b : BindingId) :
    (s.atTake dt).binding b = s.binding b := rfl

theorem State.atTake_line (s : State) (dt : Nat) (k : LineId) : (s.atTake dt).line k = s.line k := rfl

theorem State.atTake_dest (s : State) (dt : Nat) (d : DestField) : (s.atTake dt).dest d = s.dest d := by
  cases d <;> rfl

/-! ### Subjects -/

theorem onSlot_index (n : Slot) (owner : Slot → Verdict) : onSlot (indexByte n) owner = owner n := by
  have h := indexByte_toNat n (by decide)
  unfold onSlot; rw [dif_pos (by rw [h]; exact n.isLt)]; congr 1; ext; exact h

theorem onSlot_beyond (j : Byte) (h : 24 ≤ j.toNat) (owner : Slot → Verdict) :
    onSlot j owner = .no .badSubject := by
  unfold onSlot; rw [dif_neg (by omega)]

theorem onLoop_index (l : LoopId) (owner : LoopId → Verdict) : onLoop (indexByte l) owner = owner l := by
  have h := indexByte_toNat l (by decide)
  unfold onLoop; rw [dif_pos (by rw [h]; exact l.isLt)]; congr 1; ext; exact h

theorem onLoop_beyond (j : Byte) (h : 4 ≤ j.toNat) (owner : LoopId → Verdict) :
    onLoop j owner = .no .badSubject := by
  unfold onLoop; rw [dif_neg (by omega)]

theorem onBinding_index (b : BindingId) (owner : BindingId → Verdict) :
    onBinding (indexByte b) owner = owner b := by
  have h := indexByte_toNat b (by decide)
  unfold onBinding; rw [dif_pos (by rw [h]; exact b.isLt)]; congr 1; ext; exact h

theorem onBinding_beyond (j : Byte) (h : 48 ≤ j.toNat) (owner : BindingId → Verdict) :
    onBinding j owner = .no .badSubject := by
  unfold onBinding; rw [dif_neg (by omega)]

theorem onLine_index (k : LineId) (owner : LineId → Verdict) : onLine (indexByte k) owner = owner k := by
  have h := indexByte_toNat k (by decide)
  unfold onLine; rw [dif_pos (by rw [h]; exact k.isLt)]; congr 1; ext; exact h

theorem onLine_beyond (j : Byte) (h : 4 ≤ j.toNat) (owner : LineId → Verdict) :
    onLine j owner = .no .badSubject := by
  unfold onLine; rw [dif_neg (by omega)]

/-! ### Slot states (R8) -/

theorem ifInService_of_vacant (r : SectionRecord) (owner : Verdict) (h : r.slot = .vacant) :
    ifInService r owner = .no .vacant := by simp [ifInService, h]

theorem ifInService_of_retiring (r : SectionRecord) (owner : Verdict) (h : r.slot = .retiring) :
    ifInService r owner = .no .busy := by simp [ifInService, h]

theorem ifInService_of_inService (r : SectionRecord) (owner : Verdict) (h : r.slot.inService = true) :
    ifInService r owner = owner := by
  cases hh : r.slot <;> simp_all [ifInService, SlotState.inService]

theorem SlotState.enrolled_of_inService (x : SlotState) : x.inService = true → x.enrolled = true := by
  cases x <;> simp [SlotState.inService, SlotState.enrolled]

/-! ### Frames of the operations the owners share -/

theorem State.restage_frame (s : State) (n : Slot) : s.restage n = { s with fans := (s.restage n).fans } := by
  apply State.eq_of_fields <;> simp; rfl

theorem State.restagePair_frame (s : State) (n : Slot) :
    s.restagePair n = { s with fans := (s.restagePair n).fans } := by
  unfold State.restagePair
  rw [State.restage_frame, State.restage_frame (s.restage (leadOf n))]
  rw [State.restage_frame s]

theorem State.decidePumps_frame (s : State) : s.decidePumps = { s with pumps := s.decidePumps.pumps } := by
  unfold State.decidePumps
  generalize allLoops = l
  induction l generalizing s with
  | nil => rfl
  | cons n l ih => rw [List.foldl_cons, ih]; unfold State.decidePump; split <;> rfl

/-- What a restaging leaves of the fan channels is what `Restaged` says, for any state with the same sections and
stop input (R129, R131, R132). -/
theorem Restaged.of_restage (s t u : State) (n : Slot) (hu : ∀ m, u.fan m = s.fan m)
    (hsec : ∀ m, t.sec m = u.sec m) (hst : t.stopLow = u.stopLow)
    (hf : ∀ m, t.fan m = (u.restage n).fan m) : Restaged s t n := by
  unfold Restaged
  simp only
  intro m
  rw [hf m, hst, hsec, State.partner_congr hsec]
  by_cases h : m = n
  · subst h
    rw [State.restage_fan_self, hu]
    simp only [State.handed, if_true]
    cases hp : u.partner m with
    | none => rfl
    | some p => simp [State.partner_ne hp, hu]
  · rw [if_neg h]
    by_cases hp : u.partner n = some m
    · rw [State.restage_fan_partner u hp, hp, if_pos rfl, hu, hu]
    · rw [if_neg hp, State.restage_fan_other u h hp, hu]

/-! ### What a reading of the sections depends on -/

theorem State.anyMemberIn_congr {s t : State} (h : ∀ m, t.sec m = s.sec m) (l : LoopId) (p : Protection) :
    t.anyMemberIn l p = s.anyMemberIn l p := by
  simp [State.anyMemberIn, h]

theorem State.maskSafe_congr {s t : State} (h : ∀ m, (t.sec m).safe = (s.sec m).safe) (mask : BitVec 24) :
    t.maskSafe mask = s.maskSafe mask := by
  simp [State.maskSafe, h]

/-! ### Enabling, forcing and draining a fan channel -/

/-- The assertion of the stop input on a generator (R132). -/
theorem Channel.force_eq (c : Channel) (activeLow : Bool) :
    c.force activeLow =
      { c with
        dutyInForce := 0, compareInForce := 0, stagedDuty := 0, output := idleLevel activeLow } := by
  simp [Channel.force, Channel.drive, Channel.level, Channel.isActive]

/-- A fan channel right after its enabling (R126). -/
theorem Channel.enable_zero (period : Nat) (activeLow : Bool) :
    Channel.enable 0 period activeLow =
      { enabled := true, counter := 0, direction := .up, stagedDuty := 0, stagedPeriod := period,
        dutyInForce := 0, periodInForce := period, compareInForce := 0,
        output := idleLevel activeLow } := by
  have : compareOf 0 period = 0 := by simp [compareOf]
  simp [Channel.enable, Channel.boundary, Channel.drive, Channel.level, Channel.isActive, this]

/-- What the fan drain condition does once it is judged (R26). -/
theorem State.checkFanDrain_eq (w : State) (n : Slot) :
    w.checkFanDrain n =
      if (w.sec n).slot = .retiring ∧ (w.fan n).gen.dutyInForce = 0 then
        if (w.sec n).valveDrained then (w.disableFan n).modSec n fun _ => .cleared
        else w.modSec n fun r => { r with fanDrained := true }
      else w := by
  unfold State.checkFanDrain State.drain
  split
  · rename_i h
    simp only [State.modSec_sec, if_true, h, true_and]
    split
    · unfold State.disableFan State.modFan State.modSec; simp [tabSet, State.fanActiveLow]
    · rfl
  · rfl

theorem State.stopFan_other (s : State) {n m : Slot} (h : m ≠ n) :
    (s.stopFan n).sec m = s.sec m ∧ (s.stopFan n).fan m = s.fan m := by
  unfold State.stopFan State.checkFanDrain State.drain State.disableFan
  split
  · split
    · split <;> simp [State.modSec_sec, State.modFan_fan, h.symm]
    · simp [State.modFan_fan, h.symm]
  · simp

theorem State.stopFan_frame (s : State) (n : Slot) :
    s.stopFan n = { s with sections := (s.stopFan n).sections, fans := (s.stopFan n).fans } := by
  unfold State.stopFan State.checkFanDrain State.drain State.disableFan
  split
  · split
    · split <;> rfl
    · rfl
  · rfl

end Sys2Proof.Machine
end

