-- ==== Sys2Proof/Tests/Slice0.lean ====
section
/-! SUPPORT. Tests. Ill-formed commands that WellFormed refuses; codes and frames written out from the manual; its
worked examples; one small step of several commands; and, as `witness_<Name>`, a state and operands that meet the
hypotheses of each statement. Expected values come from the manual's text, its tables and its worked sequences. -/

namespace Sys2Proof.Tests

open Sys2Proof Sys2Proof.Machine

-- One declaration after another: side by side, their proofs wait for each other's equation lemmas in many threads.
set_option Elab.async false

/-! ### States -/

/-- The FROST copy of the worked sequence of section 6.8. -/
def limits : LimitSet := { fan := 200, watch := 120, defend := 60, guard := 300 }

/-- A configuration in loop 0 with a valve node. -/
def config : SectionConfig :=
  { SectionConfig.cleared with
    designFlow := 300, weight := 2, iWatch := 30000, iDefend := 120000, iTrip := 600000, penalty := 20,
    grace := 60, emax := 4, riseStep := 8, fallStep := 4, valveNode := some 16, mild := limits,
    frost := limits }

/-- A FRESH destination that holds a value of quality OK. -/
def fresh (v : Int) : Destination :=
  { status := .fresh, stored := some { value := v, quality := .ok, captured := 0 }, staleSince := none,
    freshTimer := some 100, combineTimer := none, holdTimer := none }

/-- An evaluation record with a given margin and part time. -/
def evaluated (margin : Int) (taken : PartTime) : EvalRecord :=
  { taken := taken, elapsed := 0, tOut := 500, tAir := -300
    flags :=
      { outletHeld := false, outletDegraded := false, airSubstituted := false, flowHeld := false,
        flowZeroed := false, concentrationDeclared := false }
    share := 0, ratio := 0, coupling := 32, tWall := margin, tFreeze := 0, margin := margin }

/-- A LIVE, NORMAL section that is safe to load and eligible for a search. -/
def liveSection : SectionRecord :=
  { SectionRecord.cleared with
    slot := .live, config := config, active := limits, hostDemand := 150, lastEval := some (evaluated 900 0),
    evalTimer := some 40, refreshTimer := some 100, outlet := fresh 500, air := fresh (-300),
    valve := fresh 0 }

/-- Its fan channel: R, staged duty and duty in force 64, as in section 6.8. -/
def liveFan : FanChannel :=
  { gen := Channel.enable 64 160 false, ramp := 64, rampTimer := some 3000000, ownStaged := 64 }

/-- A SET loop with a leak window in progress. -/
def setLoop : LoopRecord :=
  { LoopRecord.afterReset with
    isSet := true, rampTimer := some 3000000, leakTimer := some 6000, leakLength := 600 }

/-- A binding of an OUTLET destination, node 37. -/
def outletBinding (n : Slot) : Binding :=
  { kind := .outlet, node := 37, sub := 0, careHigh := true, careLow := true, careSub := true,
    dest := .outlet n, combine := .replace, freshLimit := 10, holdLimit := 600 }

/-- Loop 0 SET, slot 5 LIVE in it, evaluated next, with a binding, and clear line 0 asserted for it. -/
def base : State :=
  { State.reset with
    time := 1200
    sections := tabSet State.reset.sections 5 liveSection
    fans := tabSet State.reset.fans 5 liveFan
    loops := tabSet State.reset.loops 0 setLoop
    pumps := tabSet State.reset.pumps 0 (Channel.enable 0 255 false)
    bindings := tabSet State.reset.bindings 0 (.active (outletBinding 5))
    evalQueue := [5]
    receiverSynced := true
    lines := tabSet State.reset.lines 0 { ClearLine.afterReset with mask := 32, state := .asserted } }

/-- `base` with slot 5's record changed. -/
def withSection (f : SectionRecord → SectionRecord) : State := base.modSec 5 f

/-- `base` with the search context changed. -/
def withSearch (f : SearchContext → SearchContext) : State := base.modSearch f

/-- Slot 5 RETIRING, its valve drained. -/
def retiring : State := withSection fun r => { r with slot := .retiring, valveDrained := true }

/-- Slot 5 isolated by a search in a given state of loop 0, which runs both timers. -/
def searching (state : SearchState) (phase : Phase) (mark : Mark) (valve : Int) : State :=
  (withSection fun r => { r with mark := mark, valve := fresh valve }).modSearch fun c =>
    { c with
      state := state, phase := some phase, loopOf := some 0, params := some LoopConfig.defaults.search,
      candidates := [{ lead := 5, follower := none }], rangeHi := 1, probed := 1,
      isolated := if mark = .none then [] else [5], wait := if mark = .none then [5] else [],
      phaseTimer := some 1200, deadline := some 1800 }

/-- A window of three captures over 360 s, with given first and last pressures. -/
def window (first last : Int) : CaptureWindow :=
  { count := 3, first := some { pressure := first, taken := 0 },
    last := some { pressure := last, taken := 3600 } }

/-- A clear line, a search or a queue apart, what a witness of `taking` needs. -/
theorem taking_of (s : State) (h : s.inReset = false) (k : s.link = .idle) : s.taking := ⟨h, .inl k⟩

/-! ### Ill-formed commands -/

theorem test_ill_payload_too_long : (Instr.null 0 0 (List.replicate 61 0)).wellFormed = false := by decide
theorem test_well_payload_of_sixty : (Instr.null 0 0 (List.replicate 60 0)).wellFormed = true := by decide
theorem test_ill_amend_group : (Instr.amendFlow 0 0 [1, 0, 0, 0]).wellFormed = false := by decide
theorem test_ill_loop_group : (Instr.loopSetPump 0 0 [3, 0]).wellFormed = false := by decide
theorem test_ill_hold_flag : (Instr.holdOff 0 0 [0]).wellFormed = false := by decide
theorem test_well_undefined_group : (Instr.amendFlow 0 0 [7]).wellFormed = true := by decide
theorem test_ill_broken_whole :
    (Instr.brokenTransaction 0 (List.replicate 64 0) 0).wellFormed = false := by decide
theorem test_ill_broken_pulses : (Instr.brokenTransaction 0 [] 8).wellFormed = false := by decide
theorem test_well_broken_65 : (Instr.brokenTransaction 0 (List.replicate 64 0) 1).wellFormed = true := by
  decide
theorem test_ill_refused_length : (Instr.frameRefused 0 [0]).wellFormed = false := by decide
theorem test_ill_refused_good_frame :
    (Instr.frameRefused 0 (List.replicate 64 0)).wellFormed = false := by decide +kernel
theorem test_ill_read_back :
    (Instr.transmissionEnd 0 (List.replicate 10 { byte := 0, stopOk := true, own := true })).wellFormed =
      false := by decide

/-! ### Codes written out (sections 5.1, 5.2 and 9.2) -/

/-- The nibble 6 is sent as 51. -/
theorem test_nibble_six : encodeNibble 6 = 51 := by decide

/-- With position 5 flipped, 51 arrives as 35 and is corrected to 6. -/
theorem test_nibble_six_corrected : decodeNibble 35 = some 6 := by decide

/-- With positions 5 and 6 flipped, it arrives as 3, a double error. -/
theorem test_nibble_six_double : decodeNibble 3 = none := by decide

/-- Node 37 (nibbles 2 and 5), OUTLET reading, sub 0, value 500, OK: d1 to d4 of 2 are 0010, sent p1 0, p2 1, d1 0,
p3 1, d2 0, d3 1, d4 0 and parity 1; of 5 are 0101, sent 0, 1, 0, 0, 1, 0, 1 and parity 1; bytes 5 to 8 sum to 0. -/
theorem test_telegram_bytes :
    decodeFragment (heard [0x3C, 0xAA, 0xD2, 0x00, 0x00, 0x01, 0xF4, 0x00, 0x0B]) =
      some (.ok { node := 37, kind := 0, command := false, sub := 0, value := 500, quality := 0 }) := by
  decide +kernel

/-- A telegram whose bytes 5 to 8 do not sum to 0 fails the last check. -/
theorem test_telegram_check_byte :
    decodeFragment (heard [0x3C, 0xAA, 0xD2, 0x00, 0x00, 0x01, 0xF4, 0x00, 0x0C]) =
      some (.error .checkByte) := by decide +kernel

/-- Sixty-four bytes of 0 are a NULL: kind 0, subject 0, length 0, sum 0. -/
theorem test_frame_null : commandOfFrame 0 (List.replicate 64 0) = .null 0 0 [] := by decide +kernel

/-- FAN DEMAND of slot 5 to 150: 4, 5, 1, 150 sum to 160, so the check byte is 96. -/
theorem test_frame_fan_demand :
    commandOfFrame 0 ([4, 5, 1, 150, 96] ++ List.replicate 59 0) = .fanDemand 0 5 [150] := by decide +kernel

/-- The same with a wrong check byte is refused by the link. -/
theorem test_frame_bad_check : isRefused ([4, 5, 1, 150, 97] ++ List.replicate 59 0) = true := by
  decide +kernel

/-- AMEND of VALVE, node 16, for slot 5: 2 + 5 + 3 + 4 + 1 + 16 = 31. -/
theorem test_frame_amend_valve :
    commandOfFrame 0 ([2, 5, 3, 4, 1, 16, 225] ++ List.replicate 57 0) = .amendValve 0 5 [4, 1, 16] := by
  decide +kernel

/-- The table gives no row any bits. -/
theorem test_no_table_word : decodeTableWord 16 1 = none := rfl

/-! ### Worked examples of the margin computation (chapter 2) -/

/-- The table of couplings of R41. -/
theorem test_coupling_table :
    [wallCoupling 0 0, wallCoupling 0 480, wallCoupling 0 481, wallCoupling 104 0, wallCoupling 255 0,
      wallCoupling 255 512, wallCoupling 64 256] = [32, 2, 1, 240, 240, 31, 17] := by decide

/-- The table of roundings of R42, at an outlet of 0. -/
theorem test_wall_table :
    [wallTemperature 0 (-1870) 27, wallTemperature 0 (-5) 128, wallTemperature 0 5 128,
      wallTemperature 0 1 128, wallTemperature 0 3 240, wallTemperature 0 (-7) 240] =
      [-197, -3, 2, 0, 3, -7] := by decide

/-- The table of freeze points of R43. -/
theorem test_freeze_table :
    [freezePoint defaultCurveA 350, freezePoint defaultCurveA 525, freezePoint defaultCurveA 599,
      freezePoint defaultCurveA 600, freezePoint defaultCurveB 100, freezePoint defaultCurveB 0] =
      [-1716, -3400, -4288, -4300, -393, 0] := by decide +kernel

/-- Section 2.9 on a small state: slot 5 of a loop with Σw 20, in which slots 2, 3, 4, 6 and 7 stand as weights. -/
def coldNight : State :=
  let other (w : Nat) : SectionRecord :=
    { SectionRecord.cleared with slot := .live, config := { config with weight := w } }
  let five : SectionRecord :=
    { liveSection with
      integrator := 29950, lastEval := some (evaluated 0 1204560), outlet := fresh (-1250),
      air := fresh (-3120) }
  let s : State :=
    { base with
      time := 1204600 * unitsPerTenth
      sections := tabSet base.sections 5 five
      loops :=
        tabSet base.loops 0
          { setLoop with
            config := { setLoop.config with concentration := 400 }
            regime := .frost, flow := fresh 1800, concentration := fresh 350, air := fresh (-3080) } }
  ((((s.modSec 2 fun _ => other 4).modSec 3 fun _ => other 4).modSec 4 fun _ => other 4).modSec 6
    fun _ => other 4).modSec 7 fun _ => other 2

/-- Section 2.9: share 180, q 153, W 27, wall -1447, freeze point -1716, margin 269, 40 tenths. -/
theorem test_cold_night_record :
    let e := coldNight.evaluation 5
    (e.share, e.ratio, e.coupling, e.tWall, e.tFreeze, e.margin, e.elapsed) =
      (180, 153, 27, -1447, -1716, 269, 40) := by decide +kernel

/-- Section 2.9: the integrator becomes 30,074 and the section enters WATCH. -/
theorem test_cold_night_taken :
    ((match exec (.evaluationTake 0) coldNight with
      | .next t => some ((t.sec 5).integrator, (t.sec 5).protection, (t.sec 5).evalTimer)
      | _ => none) = some (30074, .watch, some 1204640)) := by decide +kernel

/-- Section 2.10: outlet silent for 950 tenths, so 970 below; and for 3950 tenths. -/
theorem test_outlet_degraded :
    let d : Destination := { fresh (-900) with status := .stale, staleSince := some 0, freshTimer := none }
    [(outletUsed d (-3300) 60 20 950).value, (outletUsed d (-3300) 60 20 3950).value] = [-970, -1570] := by
  decide

/-- The largest steps of the integrator (R46). -/
theorem test_integrator_bounds :
    [integrate 0 (-5000) 2000 300, integrate 105000 14000 0 300, integrate 29950 269 300 40,
      integrate 80000 235 300 40] = [210000, 0, 30074, 80260] := by decide

/-! ### Worked examples of the drive channels, the leak monitor and the lines -/

/-- The compare values of R123 at period 160, and two of section 6.8. -/
theorem test_compare_table :
    [0, 1, 60, 64, 100, 118, 120, 150, 254, 255, 104, 144].map (compareOf · 160) =
      [0, 1, 38, 40, 63, 74, 75, 94, 159, 160, 65, 90] := by decide

/-- Section 6.8: from 64 toward 150 by 8, from 144 to 150, and down from 150 toward 100 by 4, or at once. -/
theorem test_ramp_steps :
    [nextRamp config 64 150, nextRamp config 144 150,
      nextRamp { config with lowering := .slew } 150 100, nextRamp { config with lowering := .slew } 102 100,
      nextRamp config 150 100] = [72, 150, 146, 100, 100] := by decide

/-- Section 6.8, expiry 1: the demand of 150 raises R to 72, the next expiry 250 ms later. -/
theorem test_fan_ramp_expiry :
    ((match exec (.fanRampExpiry 5) base with
      | .next t => some ((t.fan 5).ramp, (t.fan 5).gen.stagedDuty, (t.fan 5).rampTimer)
      | _ => none) = some (72, 72, some 6000000)) := by decide +kernel

/-- A boundary takes the staged 64 into force with compare 40 (R123). -/
theorem test_period_boundary :
    ((match exec (.periodBoundary 0 (.fan 5)) base with
      | .next t => some ((t.fan 5).gen.dutyInForce, (t.fan 5).gen.compareInForce, (t.fan 5).gen.output)
      | _ => none) = some (64, 40, .high)) := by decide +kernel

/-- Section 4.8, window 1: 1,500 to 1,488 mbar over 5,400 tenths is a rate of 80. -/
theorem test_leak_rate :
    CaptureWindow.rate
      { count := 10, first := some { pressure := 1500, taken := 2000120 },
        last := some { pressure := 1488, taken := 2005520 } } = 80 := by decide

/-- R156: the delays of the eight codes. -/
theorem test_delays : (List.finRange 8).map delaySeconds = [0, 5, 10, 20, 40, 80, 160, 320] := by decide

/-- The assertion of the stop input forces the fan idle at once and R to 0 (R132). -/
theorem test_stop_assertion :
    ((match exec (.stopAssertion 0) base with
      | .next t => some ((t.fan 5).ramp, (t.fan 5).gen.dutyInForce, (t.fan 5).gen.output, (t.pump 0).stagedDuty)
      | _ => none) = some (0, 0, .low, 64)) := by decide +kernel

/-- A capture of a telegram written out above: 500 into slot 5's OUTLET, which stays safe. -/
theorem test_capture :
    ((match exec (.fragmentEnd 1200000 (heard [0x3C, 0xAA, 0xD2, 0x00, 0x00, 0x01, 0xF4, 0x00, 0x0B])) base with
      | .next t =>
        some ((t.sec 5).outlet.stored.map (·.value), (t.sec 5).outlet.freshTimer, (t.line 0).state,
          t.seen[37])
      | _ => none) = some (some 500, some 101, .asserted, 1)) := by decide +kernel

/-- PART STATUS after a reset (R179): device 68, revision 1, cause POWER, one cause, nothing else. -/
theorem test_part_status :
    ((match exec (.partStatus 0 0 []) State.reset with
      | .next t => some (t.reply.payload, t.readyAt)
      | _ => none) = some ([68, 1, 0, 0, 1, 0, 0, 0, 0, 0, 0, 0, 0], 1200)) := by decide +kernel

/-- NEXT ATTENTION after a reset returns RESTARTED, subject 0, HIGH, with none left (R166). -/
theorem test_next_attention :
    ((match exec (.nextAttention 0 0 []) State.reset with
      | .next t => some (t.reply.payload, t.attention)
      | _ => none) = some ([1, 0, 0, 0], [])) := by decide +kernel

/-! ### Witnesses of the hypotheses, one or more for each statement -/

theorem base_taking : base.taking := taking_of _ rfl rfl

theorem witness_StepRunsTheFrontCommand :
    { base with pending := [Instr.replyReady] }.pending = .replyReady :: [] ∧ base.pending = [] := ⟨rfl, rfl⟩

theorem witness_TelegramsDecodeBack : (1 : Fin 8) ≠ 0 := by decide

/-- A group at its first code, one past the last code, and the longest payload. -/
theorem witness_RequestFramesDecode :
    (Instr.amendFlow 7 5 [0, 1, 2, 3]).wellFormed = true ∧ (Instr.amendFlow 7 5 [7]).wellFormed = true ∧
      (Instr.loopSetUnset 7 5 (5 :: List.replicate 59 0)).wellFormed = true ∧
      requestParts (.loopSetUnset 7 5 (5 :: List.replicate 59 0)) =
        some (16, 7, 5, 5 :: List.replicate 59 0) ∧
      (frameOfCommand (.loopSetUnset 7 5 (5 :: List.replicate 59 0))).isSome = true := by decide +kernel

/-- An ENROL payload for loop 0: flow 300, weight 2, defaults, node 16, a gang code, the limits above twice. -/
def enrolment (gang : Byte) : List Byte :=
  [0, 1, 44, 2, 0, 20] ++ List.replicate 12 0 ++ [20, 0, 60, 0, 0, 0, 0, 1, 16, gang] ++
    [200, 120, 60, 1, 44, 200, 120, 60, 1, 44]

/-- Subjects 23 and 24, every slot state a clause names, and a length that is wrong. -/
theorem witness_SectionRequestsBySlotState :
    base.taking ∧ requestParts (.acknowledgeTrip 0 24 []) = some (5, 0, 24, []) ∧ (23 : Byte) = indexByte (23 : Slot) ∧
      (base.sec 5).slot ≠ .vacant ∧ (base.sec 23).slot = .vacant ∧ (retiring.sec 5).slot = .retiring ∧
      (List.replicate 38 (0 : Byte)).length = 38 ∧ undefinedCode [1] 0 2 = false :=
  ⟨base_taking, by decide, by decide, by decide +kernel, by decide +kernel, by decide +kernel, by decide,
    by decide⟩

/-- The checks of ENROL: loop 4; lowering 2; loop 3 that is UNSET; the gang flag on an odd slot; and on slot 4,
which forms a gang with slot 5 while a search is held in their loop. -/
theorem witness_SectionRequestsBySlotState_enrol :
    let c := (enrolConfig (enrolment 0)).value
    4 ≤ field8 ((enrolment 1).set 0 4) 0 ∧ 2 ≤ field8 ((enrolment 1).set 22 2) 22 ∧
      ((enrolment 1).set 22 2).length = 38 ∧ field8 ((enrolment 1).set 0 3) 0 = 3 ∧
      (base.loopRec 3).isSet = false ∧ (base.loopRec 0).isSet = true ∧
      (c.gangFlag = true ∧ (23 : Slot).val % 2 = 1) ∧ (base.sec 4).slot = .vacant ∧ (4 : Slot).val % 2 = 0 ∧
      neighbourOf 4 = 5 ∧ (base.sec 5).slot.inService = true ∧ (base.sec 5).config.loopOf = c.loopOf ∧
      (searching .held .confirm .held 1).search.loopOf = some c.loopOf ∧ c.ordered = true := by
  decide +kernel

/-- The checks of AMEND: group 7; RAMP with lowering 2, at full length and in two bytes; and a FLOW that is short. -/
theorem witness_SectionRequestsBySlotState_amend :
    requestParts (.amendFlow 0 5 [7]) = some (2, 0, 5, [7]) ∧ (base.sec 5).slot.inService = true ∧
      7 ≤ (7 : Byte).toNat ∧ 1 < [3, 2, 1, 1].length ∧ 2 ≤ field8 [3, 2, 1, 1] 1 ∧ 2 ≤ field8 [3, 2] 1 ∧
      [(0 : Byte), 1].length ≠ 4 := by decide +kernel

/-- An even slot with the flag on, and the last, odd slot with it off. -/
theorem witness_EnrolStartsASection :
    base.taking ∧ (base.sec 2).slot = .vacant ∧ (base.sec 23).slot = .vacant ∧
      (∀ g : Fin 2,
        let p := enrolment (BitVec.ofNat 8 g.val)
        let c := (enrolConfig p).value
        p.length = 38 ∧ field8 p 0 = 0 ∧ field8 p 22 < 2 ∧ field8 p 25 < 2 ∧ field8 p 27 < 2 ∧
          c.ordered = true ∧ (c.gangFlag = true ↔ g = 0)) ∧
      (base.loopRec 0).isSet = true ∧ base.enrolGangRefusal 2 (enrolConfig (enrolment 0)).value = none ∧
      base.enrolGangRefusal 23 (enrolConfig (enrolment 1)).value = none :=
  ⟨base_taking, by decide +kernel⟩

/-- The last loop, and each code of the lowering mode, the presence byte and the gang flag. -/
theorem witness_EnrolClampsItsScalars :
    field8 ((enrolment 0).set 0 3) 0 = (3 : LoopId).val ∧ field8 (enrolment 0) 22 = 0 ∧
      field8 ((enrolment 0).set 22 1) 22 = 1 ∧ field8 ((enrolment 0).set 25 0) 25 = 0 ∧
      field8 (enrolment 0) 25 = 1 ∧ field8 (enrolment 0) 27 = 0 ∧ field8 (enrolment 1) 27 = 1 := by
  decide +kernel

theorem witness_AmendmentsOfPlainGroups :
    base.taking ∧ (base.sec 5).slot.inService = true ∧
      (orDefault 30000 1 4000000 (be32 0 0 0 0) < orDefault 120000 1 4000000 (be32 0 0 0 0)) ∧
      ¬ (orDefault 30000 1 4000000 (be32 0 0 0 2) < orDefault 120000 1 4000000 (be32 0 0 0 2)) ∧
      (1 : Byte).toNat < 2 ∧ ¬ (2 : Byte).toNat < 2 := ⟨base_taking, by decide +kernel⟩

/-- With no transmission, with one of slot 5's entry, and with one that has stopped. -/
theorem witness_AmendmentOfTheValve :
    let e : QueueEntry := { slot := 5, command := .toOpen }
    base.taking ∧ (base.sec 5).slot.inService = true ∧ (base.sec 5).mark = .none ∧ (1 : Byte).toNat < 2 ∧
      ((withSection fun r => { r with mark := .probe }).sec 5).mark ≠ .none ∧ base.transmission = none ∧
      (base.beginSending e 16).transmission.map (·.stopAt) = some none ∧
      ((base.beginSending e 16).removeEntry 5).transmission.map (·.stopAt) = some (some 7450) :=
  ⟨base_taking, by decide +kernel⟩

/-- Slots 4 and 5 LIVE in loop 0, and slot 4 in loop 1 beside slot 5. -/
def pair (l : LoopId) (flag : Bool) : State :=
  base.modSec 4 fun _ => { liveSection with config := { config with loopOf := l, gangFlag := flag } }

theorem witness_AmendmentOfTheGang :
    (pair 0 false).taking ∧ ((pair 0 false).sec 4).slot.inService = true ∧ neighbourOf 4 = 5 ∧
      ((pair 0 false).sec 4).config.gangFlag ≠ true ∧ ((pair 0 true).sec 4).config.gangFlag ≠ false ∧
      ((pair 0 false).sec 5).config.loopOf = ((pair 0 false).sec 4).config.loopOf ∧
      ((pair 1 false).sec 5).config.loopOf ≠ ((pair 1 false).sec 4).config.loopOf ∧
      (pair 0 false).searchIn 0 = false ∧
      ((pair 0 false).modSearch fun c => { c with state := .held, loopOf := some 0 }).searchIn 0 = true :=
  ⟨taking_of _ rfl rfl, by decide +kernel⟩

/-- While a search is held in loop 0: slot 4's flag goes on beside a RETIRING slot 5, and beside one in service. -/
theorem witness_AmendmentOfTheGang_searched :
    let s := (pair 0 false).modSearch fun c => { c with state := .held, loopOf := some 0 }
    let beside := s.modSec 5 fun r => { r with slot := .retiring }
    s.search.state ≠ .idle ∧ s.search.loopOf = some (s.sec 4).config.loopOf ∧ (s.sec 5).slot.inService = true ∧
      beside.inReset = false ∧ beside.link = .idle ∧ (beside.sec 4).slot.inService = true ∧
      (beside.sec 5).slot.inService = false ∧ (beside.sec 4).config.gangFlag = false ∧
      (beside.sec 5).config.loopOf = (beside.sec 4).config.loopOf := by decide +kernel

theorem witness_AmendmentOfTheLimits :
    base.taking ∧ (base.sec 5).slot.inService = true ∧ (2 : Byte).toNat < 3 ∧ (1 : Byte).toNat < 2 ∧
      ((60 : Byte).toNat ≤ (60 : Byte).toNat ∧ (60 : Byte).toNat ≤ (60 : Byte).toNat) ∧
      ¬ (61 : Byte).toNat ≤ (60 : Byte).toNat :=
  ⟨base_taking, by decide +kernel⟩

theorem witness_DemandsAreStoredAsSent :
    base.taking ∧ (base.sec 5).slot.inService = true ∧ (base.loopRec 0).isSet = true ∧
      (base.loopRec 3).isSet = false ∧ 4 ≤ (4 : Byte).toNat := ⟨base_taking, by decide +kernel⟩

/-- Not TRIPPED; TRIPPED with the integrator at the exit level of 22,500, and one above it; and at it while a
suspended search waits for the section, with the rest timer running and expired. -/
theorem witness_AcknowledgementOfATrip :
    base.taking ∧ (base.sec 5).protection ≠ .tripped ∧
      (∀ i : Fin 2,
        let s := withSection fun r => { r with protection := .tripped, integrator := 22500 + i.val }
        (s.sec 5).slot.inService = true ∧ (s.sec 5).protection = .tripped ∧
          ((s.sec 5).integrator ≤ 3 * (s.sec 5).config.iWatch / 4 ↔ i = 0) ∧ s.search.state ≠ .suspended) ∧
      let s := (searching .suspended .probe .none 0).modSec 5 fun r =>
        { r with protection := .tripped, integrator := 22500 }
      s.search.state = .suspended ∧ 5 ∈ s.search.wait ∧ (s.sec 5).mark = .none ∧
        s.search.params = some LoopConfig.defaults.search ∧ s.search.phaseTimer ≠ none ∧
        (s.modSearch fun c => { c with phaseTimer := none }).search.phaseTimer = none :=
  ⟨base_taking, by decide +kernel⟩

theorem witness_RetirementTakesASectionOut :
    base.taking ∧ (base.sec 5).slot.inService = true ∧ (base.sec 5).mark = .none ∧
      base.search.state = .idle ∧ ((searching .settling .probe .probe 0).sec 5).mark = .probe ∧
      ((searching .held .confirm .held 1).sec 5).mark = .held ∧ (searching .held .confirm .held 1).taking :=
  ⟨base_taking, by decide +kernel, by decide +kernel, by decide, by decide +kernel, by decide +kernel,
    taking_of _ rfl rfl⟩

/-- RETIRE of the candidate slot 5 in RESTING and in SUSPENDED: as the only unit, whose loss empties the range;
and beside slot 7, with the rest timer expired. -/
theorem witness_RetirementTakesASectionOut_search :
    ∀ suspended : Fin 2,
      let s := searching (if suspended = 0 then .resting else .suspended) .probe .none 0
      let beside := s.modSearch fun c =>
        { c with
          candidates := [{ lead := 5, follower := none }, { lead := 7, follower := none }], rangeHi := 2,
          phaseTimer := none }
      s.inReset = false ∧ s.link = .idle ∧ (s.sec 5).slot.inService = true ∧ (s.sec 5).mark = .none ∧
        s.search.state ≠ .idle ∧ (∃ u ∈ s.search.candidates, 5 ∈ u.members) ∧
        (s.search.without 5).rangeHi ≤ (s.search.without 5).rangeLo ∧ 5 ∈ beside.search.wait ∧
        (beside.search.candidates.flatMap SearchUnit.members).Nodup ∧
        (beside.search.without 5).rangeLo < (beside.search.without 5).rangeHi ∧
        (∀ m ∈ beside.search.wait.filter (· ≠ 5), (beside.sec m).valve.reads 0 = true) ∧
        beside.search.params = some LoopConfig.defaults.search := by decide +kernel

theorem witness_LookupsOnlyAnswer :
    base.taking ∧ (base.sec 5).slot ≠ .vacant ∧ (1 : Byte).toNat < 2 ∧ 2 ≤ (2 : Byte).toNat ∧
      base.binding 0 = .active (outletBinding 5) := ⟨base_taking, by decide +kernel⟩

theorem witness_GlycolSetsOrChangesALoop :
    base.taking ∧ (base.loopRec 0).isSet = true ∧ (base.loopRec 1).isSet = false ∧ (1 : Byte).toNat < 2 :=
  ⟨base_taking, by decide +kernel⟩

/-- UNSET is BUSY for loop 0, which slot 5 uses, and for loop 1 only while a search uses it. The checks: subject 4,
group 6, curve 2, and a PUMP of 8 bytes. -/
theorem witness_LoopSetOfASetLoop :
    base.taking ∧ (base.loopRec 0).isSet = true ∧ (base.loopRec 1).isSet = false ∧
      ((base.sec 5).slot ≠ .vacant ∧ (base.sec 5).config.loopOf = 0) ∧
      ((base.modLoop 1 fun _ => setLoop).loopRec 1).isSet = true ∧
      (∀ n : Slot, (base.sec n).slot ≠ .vacant → (base.sec n).config.loopOf ≠ 1) ∧
      base.search.state = .idle ∧ field8 [0, 0, 0, 0, 1] 4 < 2 ∧ 4 ≤ (4 : Byte).toNat ∧
      requestParts (.loopSetPump 0 0 (2 :: List.replicate 7 0)) = some (16, 0, 0, 2 :: List.replicate 7 0) ∧
      6 ≤ (6 : Byte).toNat ∧ 2 ≤ field8 [0, 2] 1 ∧ (2 :: List.replicate 7 (0 : Byte)).length ≠ 7 :=
  ⟨base_taking, by decide +kernel⟩

/-- Curve A's default points in order, and turned round; subject 2; and a payload of 19 bytes. -/
theorem witness_CurvesAreLoadedAndReadBack :
    let point (p : List Byte) (i : Nat) := signed16 (p.getD (2 * i) 0) (p.getD (2 * i + 1) 0)
    let p := (defaultCurveA.toList.map putSigned).flatten
    let q := (defaultCurveA.toList.reverse.map putSigned).flatten
    base.taking ∧ p.length = 18 ∧ 2 ≤ (2 : Byte).toNat ∧ (p ++ [0]).length ≠ 18 ∧
      ((∀ i < 9, -6000 ≤ point p i ∧ point p i ≤ 0) ∧ ∀ i < 8, point p (i + 1) ≤ point p i) ∧
      ¬ ((∀ i < 9, -6000 ≤ point q i ∧ point q i ≤ 0) ∧ ∀ i < 8, point q (i + 1) ≤ point q i) :=
  ⟨base_taking, by decide +kernel⟩

/-- Every slot VACANT and one that is not; the highest codes; and each undefined one in the last byte it can have. -/
theorem witness_PartConfigureSetsTheDrives :
    base.taking ∧ (base.sec 5).slot ≠ .vacant ∧ State.reset.taking ∧
      (∀ n : Slot, (State.reset.sec n).slot = .vacant) ∧ (7 : Byte).toNat < 8 ∧ (15 : Byte).toNat < 16 ∧
      (∃ x ∈ [(0, 8), (1, 8), (2, 2), (3, 2), (8, 16)],
        x.1 < [0, 0, 0, 0, 0, 0, 0, 0, (16 : Byte)].length ∧ x.2 ≤ field8 [0, 0, 0, 0, 0, 0, 0, 0, 16] x.1) ∧
      ¬ (∃ x ∈ [(0, 8), (1, 8), (2, 2), (3, 2), (8, 16)],
        x.1 < [7, 7, 1, (1 : Byte)].length ∧ x.2 ≤ field8 [7, 7, 1, 1] x.1) :=
  ⟨base_taking, by decide +kernel, taking_of _ rfl rfl, by decide +kernel⟩

/-- Binding 0 HELD; slot 0 VACANT; slot 5's OUTLET fed by binding 0; slot 5's AIR fed by none. The checks: subject
48, combine mode 2, do-care 8, 13 bytes, and kind AIR for an OUTLET. -/
theorem witness_BindingsAreMade :
    let p (kind care mode : Byte) : List Byte := [kind, 37, 0, care, 0, 5, 0, mode, 0, 60, 1, 44]
    let undefined (p : List Byte) :=
      ∃ x ∈ [(3, 8), (4, 2), (6, if field8 p 4 = 0 then 3 else 4), (7, 2)],
        x.1 < p.length ∧ x.2 ≤ field8 p x.1
    base.taking ∧ (15 : Byte).toNat < 16 ∧ (7 : Byte).toNat < 8 ∧
      (base.setBinding 0 (.held (outletBinding 5))).binding 0 = .held (outletBinding 5) ∧
      (fieldSlot (.outlet 0) = some 0 ∧ (base.sec 0).slot.inService = false) ∧
      ((0 : BindingId) ≠ 1 ∧ (base.binding 0).feeds (.outlet 5) = true) ∧
      (fieldSlot (.air 5) = some 5 ∧ (base.sec 5).slot.inService = true) ∧
      (∀ b : BindingId, (base.binding b).feeds (.air 5) = false) ∧ 48 ≤ (48 : Byte).toNat ∧
      undefined (p 0 7 2) ∧ undefined (p 0 8 0) ∧ ¬ undefined (p 0 7 1 ++ [0]) ∧ (p 0 7 1 ++ [0]).length ≠ 12 ∧
      ¬ undefined (p 1 7 1) ∧ (p 1 7 1).length = 12 ∧ field8 (p 1 7 1) 0 ≠ 0 :=
  ⟨base_taking, by decide +kernel⟩

theorem witness_UnbindAndHoldActOnTheDestination :
    base.taking ∧ base.binding 47 = .empty ∧ base.binding 0 = .active (outletBinding 5) ∧
      (base.setBinding 0 (.held (outletBinding 5))).binding 0 = .held (outletBinding 5) ∧
      requestParts (.holdOn 0 48 [2]) = some (34, 0, 48, [2]) ∧ 48 ≤ (48 : Byte).toNat ∧ 2 ≤ field8 [2] 0 ∧
      requestParts (.unbind 0 47 [0]) = some (33, 0, 47, [0]) ∧ (47 : Byte) = indexByte (47 : BindingId) :=
  ⟨base_taking, by decide +kernel⟩

/-- The telegram of `test_telegram_bytes`, from node 37 with value 500. -/
def reading : List BusChar := heard [0x3C, 0xAA, 0xD2, 0x00, 0x00, 0x01, 0xF4, 0x00, 0x0B]

/-- The reading that telegram carries. -/
def outletReading : Reading := { node := 37, kind := .outlet, sub := 0, value := 500, quality := .ok }

theorem witness_SeenMarksAreReadAndCleared :
    base.taking ∧ (15 : Byte).toNat < 16 ∧ ¬ (16 : Byte).toNat < 16 ∧ base.inReset = false ∧
      (base.advance 0).sending = false ∧ (∀ c ∈ reading, c.own = false) ∧
      (base.advance 0).hears reading = true ∧
      decodeFragment reading =
        some (.ok { node := 37, kind := 0, command := false, sub := 0, value := 500, quality := 0 }) :=
  ⟨base_taking, by decide +kernel⟩

/-- Eight characters, a missing stop bit, an own character; a fragment that began one unit less than a gap after a
reset, with and without pauses; a command to a node; and a reading that no binding matches. -/
theorem witness_FragmentsThatStoreNothing :
    base.inReset = false ∧ (reading.take 8).length ≠ 9 ∧
      (∃ c ∈ [{ byte := 0, stopOk := false, own := true : BusChar }], c.stopOk = false ∧ c.own = true) ∧
      (State.reset.receiverSynced = false ∧ (State.reset.advance 81249).hears reading = false ∧
        (State.reset.advance 81250).hears reading = true ∧
        (State.reset.advance 81250).hears (reading.map fun c => { c with pause := 1 }) = false) ∧
      decodeFragment (heard (encodeTelegram (commandTelegram 16 .toOpen))) =
        some (.ok (commandTelegram 16 .toOpen)) ∧
      (commandTelegram 16 .toOpen).command = true ∧
      (∀ b : BindingId, (State.reset.binding b).matchesReading outletReading = false) := by decide +kernel

/-- The telegram above is delivered to binding 0, once that is made for node 37 and OUTLET, by a part which hears
it and transmits nothing. -/
theorem reading_delivered (s : State) (h : s.inReset = false) (u : s.receiverSynced = true)
    (x : s.transmission = none) (b : s.binding 0 = .active (outletBinding 5)) :
    Delivers s 0 reading 0 (outletBinding 5) outletReading .ok :=
  ⟨h, by simp [State.sending, State.advance, x], by decide, by simp [State.hears, State.advance, u],
    ⟨{ node := 37, kind := 0, command := false, sub := 0, value := 500, quality := 0 }, by decide +kernel, rfl,
      by decide +kernel⟩,
    .inl ⟨rfl, rfl⟩, b, by decide, fun c k => absurd k (by simp)⟩

/-- For a LIVE and a STARTING section. -/
theorem witness_ReadingsAreCaptured :
    Delivers base 0 reading 0 (outletBinding 5) outletReading .ok ∧ (base.sec 5).slot = .live ∧
      ((withSection fun r => { r with slot := .starting }).sec 5).slot = .starting :=
  ⟨reading_delivered _ rfl rfl rfl rfl, by decide +kernel⟩

/-- A binding of loop 0's PRESSURE, node 37. -/
def pressureBinding : Binding := { outletBinding 5 with kind := .pressure, dest := .loopPressure 0 }

/-- PRESSURE readings of 10,000 mbar, the top of the range, and of 10,001, which is clamped to it (R95), are delivered
where the monitor of loop 0 runs and where a search observes in it; and the destination then holds 10,000. -/
theorem witness_ReadingsAreCaptured_pressure (above : Fin 2) :
    let x : Telegram :=
      { node := 37, kind := 3, command := false, sub := 0, value := BitVec.ofNat 16 (10000 + above.val),
        quality := 0 }
    let r : Reading := { node := 37, kind := .pressure, sub := 0, value := 10000, quality := .ok }
    let running := base.setBinding 0 (.active pressureBinding)
    let observing := (searching .observing .probe .probe 1).setBinding 0 (.active pressureBinding)
    running.monitorRuns 0 = true ∧ observing.monitorRuns 0 = false ∧ observing.search.loopOf = some 0 ∧
      (running.keeps 0 pressureBinding r .ok).stored.map (·.value) = some 10000 ∧
      Delivers running 0 (heard (encodeTelegram x)) 0 pressureBinding r .ok ∧
      Delivers observing 0 (heard (encodeTelegram x)) 0 pressureBinding r .ok := by
  have arrives : ∀ above : Fin 2,
      let x : Telegram :=
        { node := 37, kind := 3, command := false, sub := 0, value := BitVec.ofNat 16 (10000 + above.val),
          quality := 0 }
      decodeFragment (heard (encodeTelegram x)) = some (.ok x) ∧
        (∀ c ∈ heard (encodeTelegram x), c.own = false) ∧
        readingOf x = some { node := 37, kind := .pressure, sub := 0, value := 10000, quality := .ok } := by
    decide +kernel
  obtain ⟨decoded, others, read⟩ := arrives above
  have first (c : BindingId) (h : c < 0) : False := absurd h (by simp)
  exact ⟨by decide +kernel, by decide +kernel, rfl, by decide +kernel,
    ⟨rfl, rfl, others, rfl, ⟨_, decoded, rfl, read⟩, .inl ⟨rfl, rfl⟩, by decide +kernel, by decide +kernel,
      fun c h => (first c h).elim⟩,
    ⟨rfl, rfl, others, rfl, ⟨_, decoded, rfl, read⟩, .inl ⟨rfl, rfl⟩, by decide +kernel, by decide +kernel,
      fun c h => (first c h).elim⟩⟩

/-- A binding of slot 5's VALVE, node 16. -/
def valveBinding : Binding :=
  { outletBinding 5 with kind := .valve, node := 16, dest := .valve 5 }

/-- The telegram in which node 16 reports a position. -/
def position (v : Fin 4) : List BusChar :=
  heard (encodeTelegram
    { node := 16, kind := 5, command := false, sub := 0, value := BitVec.ofNat 16 v.val, quality := 0 })

/-- A state with slot 5's VALVE bound and no binding before it. -/
def valveBound (s : State) : State := s.setBinding 0 (.active valveBinding)

/-- A position is delivered. -/
theorem position_delivered (s : State) (v : Fin 4) (h : s.inReset = false) (u : s.receiverSynced = true)
    (x : s.transmission = none) :
    Delivers (valveBound s) 0 (position v) 0 valveBinding
      { node := 16, kind := .valve, sub := 0, value := v.val, quality := .ok } .ok := by
  have decoded : ∀ v : Fin 4,
      decodeFragment (position v) =
          some (.ok
            { node := 16, kind := 5, command := false, sub := 0, value := BitVec.ofNat 16 v.val, quality := 0 }) ∧
        (∀ c ∈ position v, c.own = false) ∧
        readingOf
            { node := 16, kind := 5, command := false, sub := 0, value := BitVec.ofNat 16 v.val, quality := 0 } =
          some { node := 16, kind := .valve, sub := 0, value := v.val, quality := .ok } := by decide +kernel
  exact ⟨h, by simp [valveBound, State.sending, State.advance, State.setBinding, x], (decoded v).2.1,
    by simp [valveBound, State.hears, State.advance, State.setBinding, u],
    ⟨_, (decoded v).1, rfl, (decoded v).2.2⟩, .inl ⟨rfl, rfl⟩,
    by simp [valveBound, State.binding, State.setBinding, tabGet, tabSet],
    by simp [Binding.covers, valveBinding, outletBinding], fun c k => absurd k (by simp)⟩

theorem witness_DestinationTimersExpire :
    base.inReset = false ∧
      (∀ b c : BindingId, (base.binding b).feeds (.outlet 5) = true → (base.binding c).feeds (.outlet 5) = true →
        b = c) ∧
      (base.dest (.outlet 5)).freshTimer = some 100 ∧
      ((base.setDest (.outlet 5)
        { fresh 500 with status := .held, freshTimer := none, holdTimer := some 600 }).dest
          (.outlet 5)).holdTimer = some 600 ∧
      ((base.setDest (.air 5) { fresh 500 with combineTimer := some 90 }).dest (.air 5)).combineTimer =
        some 90 := by decide +kernel

/-- A first evaluation; an isolated section; a loop UNSET; a section of the search that trips, with 2 and 3
pre-emptions before; a HELD one; one that a suspended search awaits; and an outlet STALE for exactly its grace. -/
theorem witness_EvaluationsAreTakenWhole :
    let trips (s : State) := s.modSec 5 fun r => { r with integrator := 600000 }
    let decided (s : State) :=
      let e := s.evaluation 5
      decideProtection (s.sec 5).protection (s.sec 5).config e.margin
        (integrate (s.sec 5).integrator e.margin (s.sec 5).active.guard e.elapsed)
    let probed := trips (searching .settling .probe .probe 0)
    base.inReset = false ∧ base.evalQueue = 5 :: [] ∧ (base.loopRec (base.sec 5).config.loopOf).isSet = true ∧
      ((withSection fun r => { r with lastEval := none, mark := .probe }).sec 5).lastEval = none ∧
      ((withSection fun r => { r with mark := .probe }).sec 5).mark ≠ .none ∧
      ((base.modLoop 0 fun r => { r with isSet := false }).loopRec 0).isSet = false ∧
      decided probed = .tripped ∧ (probed.sec 5).protection = .normal ∧ probed.search.preemptions < 3 ∧
      3 ≤ (probed.modSearch fun c => { c with preemptions := 3 }).search.preemptions ∧
      probed.search.params = some LoopConfig.defaults.search ∧
      decided (trips (searching .held .confirm .held 1)) = .tripped ∧
      ((searching .held .confirm .held 1).sec 5).mark = .held ∧
      decided (trips (searching .suspended .probe .none 0)) = .tripped ∧
      5 ∈ (searching .suspended .probe .none 0).search.wait ∧
      { fresh 500 with status := .stale, staleSince := some 400 }.age 1000 - 10 * config.grace = 0 ∧
      { fresh 500 with status := .stale, staleSince := some 400 }.last = some 500 := by decide +kernel

/-- The rows of R78, slot 5's air being the coldest: at the frost entry and just above it in MILD; in FROST above the
exit, with the dwell of 900 s just passed over a wrap of part time, and one tenth short of it. -/
theorem witness_EvaluationsAreTakenWhole_regime :
    let taken (air : Int) (regime : Regime) (entry : PartTime) :=
      match exec (.evaluationTake 0)
          ((withSection fun r => { r with air := fresh air }).modLoop 0 fun r =>
            { r with regime := regime, regimeEntry := entry }) with
      | .next t => some ((t.loopRec 0).coldest, (t.loopRec 0).regime)
      | _ => none
    taken (-1500) .mild 0 = some (some (-1500), .mild) ∧
      taken (-1501) .mild 0 = some (some (-1501), .frost) ∧
      taken (-999) .frost (-9000) = some (some (-999), .mild) ∧
      taken (-999) .frost (-8999) = some (some (-999), .frost) ∧
      taken (-1000) .frost (-9000) = some (some (-1000), .frost) := by decide +kernel

/-- A margin on either side of the guard and at it, and the ends of the ranges. -/
theorem witness_IntegratorUpdate :
    base.inReset = false ∧ base.evalQueue = 5 :: [] ∧ (-5000 : Int) < (2000 : Nat) ∧
      ((300 : Nat) : Int) ≤ 300 ∧ 4000000 ≤ 4000000 := by decide +kernel

theorem witness_WallAndFreezePointBounds :
    curveOrdered defaultCurveA = true ∧ curveOrdered defaultCurveB = true ∧ Mark.held ≠ .none ∧
      10 ≤ 10 ∧ 512 ≤ 512 ∧ 240 ≤ 240 := by decide +kernel

/-- At the default thresholds: at and just below -H, and integrators at the edges of the table's rows. -/
theorem witness_ProtectionDecisionTable :
    let h : Int := config.hardFloor
    (-1 < -h) ∧ ¬ ((0 : Int) < -h ∨ config.iTrip ≤ 599999) ∧ config.iTrip ≤ 600000 ∧
      config.iDefend ≤ 120000 ∧ 119999 < config.iDefend ∧ config.iWatch ≤ 30000 ∧ 29999 < config.iWatch ∧
      22500 ≤ 3 * config.iWatch / 4 ∧ 3 * config.iWatch / 4 < 22501 ∧ 90000 ≤ 3 * config.iDefend / 4 ∧
      3 * config.iDefend / 4 < 90001 := by decide

theorem witness_RampsFollowTheirTargets :
    base.inReset = false ∧ (base.fan 5).rampTimer = some 3000000 ∧ (base.loopRec 0).rampTimer = some 3000000 ∧
      (base.loopRec 0).isSet = true := by decide +kernel

theorem witness_BoundariesTakeTheStagedValues :
    base.inReset = false ∧ (base.pump 0).enabled = true ∧ (base.fan 5).gen.enabled = true ∧
      (retiring.sec 5).slot = .retiring ∧ (base.fan 0).gen.enabled = false ∧
      (base.pump 1).enabled = false := by decide +kernel

/-- Slot 5 RETIRING with its last tick of the period to come and 0 staged. -/
theorem witness_ClockTicksReachTheirGroup :
    let s := retiring.modFan 5 fun f => { f with gen := { f.gen with stagedDuty := 0, counter := 159 } }
    s.inReset = false ∧ (s.fan 5).gen.enabled = true ∧ (s.fan 5).gen.boundaryNext s.drive.fanAlign = true ∧
      (s.sec 5).slot = .retiring ∧ ((s.fan 5).gen.tick s.drive.fanAlign false).dutyInForce = 0 ∧
      (s.sec 5).valveDrained = true := by decide +kernel

theorem witness_PeriodsLastTheirTicks :
    ∀ p : Fin 3,
      let c := Channel.enable 128 p.val false
      c.enabled = true ∧ c.counter = 0 ∧ c.direction = .up ∧ c.periodInForce = p.val := by decide

/-- Loop 0 is SET and loop 1 is not; a search that probes and none. -/
theorem witness_StopAssertion :
    base.inReset = false ∧ base.stopLow = false ∧ (base.loopRec 0).isSet = true ∧ (base.loopRec 1).isSet = false ∧ base.search.state.probing = false ∧
      (base.fan 5).gen.enabled = true ∧ (base.sec 5).slot ≠ .retiring ∧ (retiring.fan 5).gen.enabled = true ∧
      (searching .observing .probe .probe 1).search.state.probing = true ∧
      (searching .observing .probe .probe 1).stopLow = false := by decide +kernel

theorem witness_StopRelease :
    let s : State := { pair 0 true with stopLow := true }
    s.inReset = false ∧ s.stopLow = true ∧ (s.loopRec 0).isSet = true ∧ (s.loopRec 1).isSet = false ∧
      (s.fan 5).gen.enabled = true ∧ s.partner 5 = some 4 ∧ (4 : Slot).val % 2 = 0 ∧ (5 : Slot).val = (4 : Slot).val + 1 ∧
      base.partner 5 = none := by decide +kernel

theorem witness_SectionTimersQueueTheirWork :
    base.inReset = false ∧ (base.sec 5).evalTimer = some 40 ∧ (base.sec 5).refreshTimer = some 100 ∧
      (∀ q ∈ base.txQueue, q.slot ≠ 5) ∧
      (base.postValve 5 .toClosed).txQueue = [] ++ { slot := 5, command := .toClosed } :: [] := by
  decide +kernel

/-- OPEN queued for slot 5, and its transmission in progress, or stopped at the end of its first character; and the
same while slot 5 retires. -/
theorem witness_TransmissionsSendTheFrontEntry :
    let s := base.postValve 5 .toOpen
    let e : QueueEntry := { slot := 5, command := .toOpen }
    s.inReset = false ∧ s.transmission = none ∧ s.txQueue = e :: [] ∧ (s.sec 5).config.valveNode = some 16 ∧
      (s.beginSending e 16).txQueue = e :: [] ∧
      ((s.beginSending e 16).transmission.map (·.stopAt)) = some none ∧
      (((s.beginSending e 16).removeEntry 5).transmission.map (·.stopAt)) = some (some 7450) ∧
      ((s.beginSending e 16).removeEntry 5).busDrivePin = .high ∧
      (((s.beginSending e 16).removeEntry 5).advance 6250).busDrivePin = .low ∧
      (retiring.sec 5).slot = .retiring ∧ (retiring.postValve 5 .toOpen).txQueue = e :: [] := by
  decide +kernel

/-- Valid at exactly half of 720 s; the rates 0 and 5,000 against the threshold of 40; two captures only. -/
theorem witness_LeakWindowsAreJudged :
    base.inReset = false ∧ base.monitorRuns 0 = true ∧ (base.loopRec 0).leakTimer = some 6000 ∧
      (base.loopRec 0).leakWindow.count < 3 ∧ 5 * 720 ≤ (window 1500 1000).span ∧
      (window 1500 1500).rate ≤ (base.loopRec 0).config.suspect ∧
      (base.loopRec 0).config.suspect < (window 1500 1000).rate ∧ base.candidateList 0 ≠ [] ∧
      (withSection fun r => { r with protection := .watch }).candidateList 0 = [] ∧
      (base.loopRec 0).config.autoSearch = false := by decide +kernel

theorem witness_SearchStartIsolatesTheFirstHalf :
    base.taking ∧ (base.loopRec 0).isSet = true ∧ (base.loopRec 1).isSet = false ∧
      base.search.state = .idle ∧ base.candidateList 0 = [{ lead := 5, follower := none }] ∧
      (searching .held .confirm .held 1).search.state ≠ .idle ∧
      (withSection fun r => { r with protection := .watch }).candidateList 0 = [] ∧ base.entriesKept ∧
      (base.line 1).mask.getLsbD 5 = false :=
  ⟨base_taking, by unfold State.entriesKept; decide +kernel⟩

/-- Closed and open valves; the deadline with the settle timer stopped and running; and each position that the
awaited valve can report. -/
theorem witness_SettlingWaitsForClosedValves :
    (∀ closed : Fin 2,
      let s := searching .settling .probe .probe closed.val
      s.inReset = false ∧ s.search.state = .settling ∧ s.search.params = some LoopConfig.defaults.search ∧
        s.search.phaseTimer = some 1200 ∧ s.search.deadline = some 1800 ∧ 5 ∈ s.search.isolated ∧
        ((∀ n ∈ s.search.isolated, (s.sec n).valve.reads 1 = true) ↔ closed = 1) ∧
        (s.modSearch fun c => { c with phaseTimer := none }).search.phaseTimer = none) ∧
      ∀ v : Fin 4,
        Delivers (valveBound (searching .settling .probe .probe 0)) 0 (position v) 0 valveBinding
          { node := 16, kind := .valve, sub := 0, value := v.val, quality := .ok } .ok :=
  ⟨by decide +kernel, fun v => position_delivered _ v rfl rfl rfl⟩

/-- Windows that are invalid, at once and at the last repeat, and valid with a rate above the quiet rate and with
one of 0, in both phases. -/
theorem witness_ObservationDecidesTheSearch :
    let p := LoopConfig.defaults.search
    let c := (searching .observing .probe .probe 1).search
    (searching .observing .probe .probe 1).inReset = false ∧ c.state = .observing ∧ c.params = some p ∧
      c.phaseTimer = some 1200 ∧ c.phase = some .probe ∧
      (searching .observing .confirm .probe 1).search.phase = some .confirm ∧
      (c.window.count < 3 ∧ c.repeats < 2 ∧ 2 ≤ { c with repeats := 2 }.repeats) ∧
      ∀ w ∈ [window 1500 1490, window 1500 1499],
        let s := (searching .observing .probe .probe 1).modSearch fun c => { c with window := w }
        s.search.state = .observing ∧ s.search.phaseTimer = some 1200 ∧ 3 ≤ s.search.window.count ∧
          5 * p.observe ≤ s.search.window.span ∧
          (s.search.window.rate ≤ p.quiet ↔ w = window 1500 1499) := by decide +kernel

/-- The range after a quiet and after a loud PROBE step, restarts left and used up, and a rest time of 0 with the
valve open and closed. -/
theorem witness_ObservationDecidesTheSearch_next :
    let p := LoopConfig.defaults.search
    let c := (searching .observing .probe .probe 1).search
    (c.rangeLo < c.rangeLo + c.probed ∧ c.rangeHi ≤ c.rangeLo + c.probed) ∧
      (c.restartsUsed < p.restarts ∧ p.restarts ≤ { c with restartsUsed := 1 }.restartsUsed) ∧ p.rest ≠ 0 ∧
      { p with rest := 0 }.rest = 0 ∧
      ∀ closed : Fin 2,
        let s := searching .observing .probe .probe closed.val
        (∀ n ∈ s.search.isolated, (s.sec n).valve.reads 0 = true) ↔ closed = 0 := by decide +kernel

/-- Each position that an isolated valve can report is delivered. -/
theorem witness_ObservationDecidesTheSearch_position (v : Fin 4) :
    5 ∈ (searching .observing .probe .probe 1).search.isolated ∧
      Delivers (valveBound (searching .observing .probe .probe 1)) 0 (position v) 0 valveBinding
        { node := 16, kind := .valve, sub := 0, value := v.val, quality := .ok } .ok :=
  ⟨by decide, position_delivered _ v rfl rfl rfl⟩

/-- RESTING and SUSPENDED, with the awaited valve open and closed, the awaited section in NORMAL and not, and each
position that the valve can report; and a member without a valve node in the range. -/
theorem witness_RestingWaitsForOpenValves :
    (∀ closed : Fin 2,
      let s := searching .resting .probe .none closed.val
      s.inReset = false ∧ s.search.state = .resting ∧ s.search.params = some LoopConfig.defaults.search ∧
        s.search.phaseTimer = some 1200 ∧ s.search.deadline = some 1800 ∧
        ((∀ n ∈ s.search.wait, (s.sec n).valve.reads 0 = true) ↔ closed = 0) ∧
        (∀ n ∈ s.search.wait, (s.sec n).protection = .normal) ∧
        (searching .suspended .probe .none closed.val).search.state = .suspended ∧
        (((searching .suspended .probe .none 0).modSec 5 fun r => { r with protection := .watch }).sec 5).protection ≠
          .normal ∧
        s.search.range = [{ lead := 5, follower := none }] ∧
        ((s.modSec 5 fun r => { r with config := { r.config with valveNode := none } }).sec 5).config.valveNode =
          none) ∧
      ∀ v : Fin 4,
        Delivers (valveBound (searching .resting .probe .none 0)) 0 (position v) 0 valveBinding
            { node := 16, kind := .valve, sub := 0, value := v.val, quality := .ok } .ok ∧
          Delivers (valveBound (searching .suspended .probe .none 1)) 0 (position v) 0 valveBinding
            { node := 16, kind := .valve, sub := 0, value := v.val, quality := .ok } .ok :=
  ⟨by decide +kernel, fun v => ⟨position_delivered _ v rfl rfl rfl, position_delivered _ v rfl rfl rfl⟩⟩

theorem witness_SearchStopReleases :
    base.taking ∧ base.search.state = .idle ∧ (searching .held .confirm .held 1).taking ∧
      (searching .held .confirm .held 1).search.state = .held ∧
      (searching .observing .probe .probe 1).taking ∧
      (searching .observing .probe .probe 1).search.state ≠ .idle ∧
      (searching .observing .probe .probe 1).search.loopOf = some 0 ∧
      (searching .held .confirm .held 1).search.isolated = [5] ∧ ((base.line 0).mask.getLsbD 5 = true ∧
      (base.line 1).mask.getLsbD 5 = false) :=
  ⟨base_taking, rfl, taking_of _ rfl rfl, rfl, taking_of _ rfl rfl, by decide, rfl, rfl, by decide⟩

/-- A mask of slot 5, which is safe; of slot 0, which is VACANT; and of none; the codes 0, 7 and 8; subject 4; and
three bytes. -/
theorem witness_ClearLinesFollowTheirCondition :
    base.taking ∧ base.maskSafe 32 = true ∧ base.maskSafe 0 = false ∧
      (∀ n : Slot, (32 : BitVec 24).getLsbD n.val = true → (base.sec n).slot.inService = true) ∧
      ((1 : BitVec 24).getLsbD 0 = true ∧ (base.sec 0).slot.inService = false) ∧ (7 : Byte).toNat < 8 ∧
      ((base.modLine 0 fun c => { c with timer := some 50 }).line 0).timer = some 50 ∧ 4 ≤ (4 : Byte).toNat ∧
      8 ≤ field8 [0, 0, 32, 8] 3 ∧ [(0 : Byte), 0, 32].length ≠ 4 :=
  ⟨base_taking, by decide +kernel⟩

theorem base_attention : base.attentionKept := by
  refine ⟨by decide +kernel, by decide +kernel⟩

theorem witness_PostingOnlyAddsItsCause :
    base.attentionKept ∧ { kind := .restarted, subject := 0 } ∈ base.attention ∧
      { kind := .regime, subject := 3 } ∉ base.attention := ⟨base_attention, by decide +kernel⟩

/-- Two causes of different levels, of which the first comes first. -/
def twoCauses : State := base.post .watch 5

theorem witness_NextAttentionTakesTheFirstCause :
    twoCauses.taking ∧ twoCauses.attentionKept ∧ { base with attention := [] }.attention = [] ∧
      { kind := .restarted, subject := 0 } ∈ twoCauses.attention ∧
      (∀ d ∈ twoCauses.attention, d ≠ { kind := .restarted, subject := 0 } →
        twoCauses.levelOf .restarted = .high ∧ twoCauses.levelOf d.kind = .low) :=
  ⟨taking_of _ rfl rfl, ⟨by decide +kernel, by decide +kernel⟩, rfl, by decide +kernel, by decide +kernel⟩

theorem witness_AttentionLevelsReorder :
    base.taking ∧ (1 : Byte) ≠ 0 ∧ (List.replicate 11 (0 : Byte)).length ≠ 12 ∧
      (∃ b ∈ List.replicate 12 (2 : Byte), 2 ≤ b.toNat) ∧ (∀ b ∈ List.replicate 12 (1 : Byte), b.toNat < 2) :=
  ⟨base_taking, by decide⟩

/-- Just before and exactly at the ready time; a transaction answered NOT_READY, one ignored, and one that begins in a
reset. -/
theorem witness_RepliesAreNotReadyUntilTheirTime :
    State.reset.link = .idle ∧ State.reset.inReset = false ∧ State.reset.time + 1199 < State.reset.readyAt ∧
      State.reset.readyAt ≤ State.reset.time + 1200 ∧
      { base with link := .answering base.notReadyReply true }.link = .answering base.notReadyReply true ∧
      { base with link := .ignored }.link = .ignored ∧ { base with link := .ignored }.inReset = false ∧
      { base with resetPin := .low }.link = .idle ∧ { base with resetPin := .low }.inReset = true ∧
      isBroken [] 7 = true ∧ isRefused ([4, 5, 1, 150, 97] ++ List.replicate 59 0) = true := by
  decide +kernel

/-- A refused request; a broken transaction; and frames of length 61, of a bad sum and of kind 7. -/
theorem witness_RefusalsChangeOnlyTheReply :
    base.taking ∧ requestParts (.fanDemand 0 24 [1]) = some (4, 0, 24, [1]) ∧
      ((match exec (.fanDemand 0 24 [1]) base with
        | .next t => t.reply.status.isRefusal
        | _ => false) = true) ∧
      isBroken [] 0 = true ∧ ([0, 0, 61] ++ List.replicate 61 (0 : Byte)).length = 64 ∧
      60 < (([0, 0, 61] ++ List.replicate 61 (0 : Byte)).getD 2 0).toNat ∧
      byteSum (([4, 5, 1, 150, 97] ++ List.replicate 59 (0 : Byte)).take 5) ≠ 0 ∧
      byteSum (([7, 0, 0, 249] ++ List.replicate 60 (0 : Byte)).take 4) = 0 ∧
      (([7, 0, 0, 249] ++ List.replicate 60 (0 : Byte)).headD 0).toNat ∉ kindCodes :=
  ⟨base_taking, by decide +kernel⟩

/-- Subjects and lengths just outside the table's: SEEN CLEAR with subject 1, and PUMP DEMAND without its byte. -/
theorem witness_RefusalsChangeOnlyTheReply_table :
    requestParts (.seenClear 0 1 []) = some (37, 0, 1, []) ∧ 1 ≤ (1 : Byte).toNat ∧
      requestParts (.pumpDemand 0 3 []) = some (18, 0, 3, []) ∧ (3 : Byte).toNat < 4 := by decide +kernel

theorem witness_NullCollectsTheReply :
    { base.reply with payload := List.replicate 60 0 }.payload.length ≤ 60 ∧ base.taking ∧ base.link = .idle ∧
      base.inReset = false ∧ base.readyAt ≤ base.time + 0 :=
  ⟨by decide, base_taking, by decide⟩

theorem witness_ResetsRestoreTheResetState :
    base.resetPin ≠ .lowThroughPowerOn ∧ base.taking := ⟨by decide, base_taking⟩

theorem witness_ResetInputHoldsThePart :
    base.inReset = false ∧ { base with resetPin := .low }.inReset = true ∧ Instr.replyReady ≠ .pinReset := by
  decide

/-! ### States that meet the invariants, and that step on -/

/-- `base` with an evaluation to take. -/
def ready : State := { base with pending := [.evaluationTake 0] }

theorem ready_steps : ∃ t, step ready = .next t := ⟨_, rfl⟩

theorem witness_RecordsStayInRange :
    ready.attentionKept ∧ ready.integratorsBounded ∧ ready.curvesKept ∧ ready.orderingsKept ∧
      ∃ t, step ready = .next t :=
  ⟨⟨by decide +kernel, by decide +kernel⟩, by unfold State.integratorsBounded; decide +kernel,
    by unfold State.curvesKept; decide +kernel, by unfold State.orderingsKept; decide +kernel, ready_steps⟩

/-- Only binding 0 of `ready` is made. -/
theorem ready_bindings (b : BindingId) (h : ready.binding b ≠ .empty) : b = 0 := by
  have k : ∀ b : BindingId, b = 0 ∨ ready.binding b = .empty := by decide +kernel
  exact (k b).resolve_right h

theorem ready_feeds (b : BindingId) (d : DestField) (h : (ready.binding b).feeds d = true) : b = 0 :=
  ready_bindings b fun e => by rw [e] at h; simp [BindingState.feeds, BindingState.fields] at h

theorem ready_bindingsKept : ready.bindingsKept := by
  refine ⟨fun b c d hb hc => (ready_feeds b d hb).trans (ready_feeds c d hc).symm, fun b f h => ?_⟩
  have hb : b = 0 := ready_bindings b fun e => by rw [e] at h; simp [BindingState.fields] at h
  subst hb
  have hf : f = outletBinding 5 := by
    have k : ready.binding 0 = .active (outletBinding 5) := by decide +kernel
    rw [k] at h
    exact (Option.some.inj h).symm
  subst hf
  decide +kernel

theorem witness_TablesAndQueuesStayConsistent :
    ready.queueKept ∧ ready.entriesKept ∧ ready.bindingsKept ∧ ready.masksKept ∧ ∃ t, step ready = .next t :=
  ⟨by unfold State.queueKept; decide +kernel, by unfold State.entriesKept; decide +kernel, ready_bindingsKept,
    by unfold State.masksKept; decide +kernel, ready_steps⟩

theorem ready_fansHeld : ready.fansHeld := by
  have k : ∀ n : Slot,
      (ready.fan n).gen.enabled = decide ((ready.sec n).slot ≠ .vacant) ∧
        (ready.fan n).ownStaged = min (ready.fan n).ramp (fanCeiling (ready.sec n)) ∧
        (ready.fan n).gen.stagedDuty = (ready.fan n).ownStaged ∧ ready.partner n = none := by decide +kernel
  intro _ n
  obtain ⟨h1, h2, h3, h4⟩ := k n
  refine ⟨h1, h2, ?_⟩
  rw [h4, h3]
  rfl

theorem witness_DrivesStayWithinTheirCeilings :
    ready.fansHeld ∧ ready.pumpsDecided ∧ ∃ t, step ready = .next t :=
  ⟨ready_fansHeld, by unfold State.pumpsDecided; decide +kernel, ready_steps⟩

theorem witness_ClearLinesNeverHoldUnsafely : ready.linesHeld ∧ ∃ t, step ready = .next t :=
  ⟨by unfold State.linesHeld; decide +kernel, ready_steps⟩

theorem witness_MarksBelongToTheSearch : ready.marksKept ∧ ∃ t, step ready = .next t :=
  ⟨by unfold State.marksKept; decide +kernel, ready_steps⟩

theorem ready_destinations : ready.destinationsKept := by
  have sections : ∀ n : Slot,
      (ready.dest (.outlet n)).kept ∧ (ready.dest (.air n)).kept ∧ (ready.dest (.valve n)).kept := by
    unfold Destination.kept; decide +kernel
  have loops : ∀ l : LoopId,
      (ready.dest (.loopFlow l)).kept ∧ (ready.dest (.loopPressure l)).kept ∧
        (ready.dest (.loopConcentration l)).kept ∧ (ready.dest (.loopAir l)).kept := by
    unfold Destination.kept; decide +kernel
  intro d
  match d with
  | .outlet n => exact (sections n).1
  | .air n => exact (sections n).2.1
  | .valve n => exact (sections n).2.2
  | .loopFlow l => exact (loops l).1
  | .loopPressure l => exact (loops l).2.1
  | .loopConcentration l => exact (loops l).2.2.1
  | .loopAir l => exact (loops l).2.2.2

theorem witness_DestinationsKeepTheirTimers : ready.destinationsKept ∧ ∃ t, step ready = .next t :=
  ⟨ready_destinations, ready_steps⟩

end Sys2Proof.Tests
end

section
/-! PROOF. The deficit integrator (R46): its update as arithmetic, and what the take of an evaluation leaves in the
section it evaluates. -/

namespace Sys2Proof.Machine

open Sys2Proof

/-! ### The update of R46 -/

theorem cast_clampNat (lo hi v : Nat) : (clampNat lo hi v : Int) = max lo (min hi v) := by
  simp [clampNat]

/-- The rule's first floor, for a margin below the guard. -/
theorem integrate_of_below (i : Nat) (m : Int) (g t : Nat) (h : m < g) :
    (integrate i m g t : Int) = max 0 (min 4000000 (i + (g - m) * t / 10)) := by
  have step : 0 ≤ (g - m) * (t : Int) / 10 :=
    Int.ediv_nonneg (Int.mul_nonneg (by omega) (by omega)) (by omega)
  rw [integrate, if_pos h, cast_clampNat]
  omega

/-- The rule's second floor, for a margin at the guard or above it. The natural subtraction stops at 0, where
the clamp does too. -/
theorem integrate_of_atOrAbove (i : Nat) (m : Int) (g t : Nat) (h : (g : Int) ≤ m) :
    (integrate i m g t : Int) = max 0 (min 4000000 (i - (m - g) * t / 40)) := by
  have step : 0 ≤ (m - g) * (t : Int) / 40 :=
    Int.ediv_nonneg (Int.mul_nonneg (by omega) (by omega)) (by omega)
  rw [integrate, if_neg (by omega), cast_clampNat]
  omega

theorem integrate_le (i : Nat) (m : Int) (g t : Nat) : integrate i m g t ≤ 4000000 := by
  unfold integrate
  split <;> exact (clampNat_bounds 0 4000000 _ (by decide)).2

/-- The first evaluation of an enrolment, taken with 0 s elapsed, moves no integrator. -/
theorem integrate_zero_elapsed (i : Nat) (m : Int) (g : Nat) (hi : i ≤ 4000000) : integrate i m g 0 = i := by
  rcases lt_or_ge m g with h | h
  · have := integrate_of_below i m g 0 h
    simp at this
    omega
  · have := integrate_of_atOrAbove i m g 0 h
    simp at this
    omega

/-- A difference within a bound, over at most 300 tenths. -/
theorem mul_elapsed_le {d bound : Int} {t : Nat} (hd : d ≤ bound) (hb : 0 ≤ bound) (ht : t ≤ 300) :
    d * t ≤ bound * 300 :=
  Int.mul_le_mul hd (by omega) (by omega) hb

/-- The largest increase and the largest decrease that R46 states, within the ranges of guard, margin and time. -/
theorem integrate_moves_within (i : Nat) (m : Int) (g t : Nat) (hi : i ≤ 4000000) (hg : g ≤ 2000)
    (hlo : -5000 ≤ m) (hhi : m ≤ 14000) (ht : t ≤ 300) :
    integrate i m g t ≤ i + 210000 ∧ i ≤ integrate i m g t + 105000 := by
  rcases lt_or_ge m g with h | h
  · have update := integrate_of_below i m g t h
    have largest : (g - m) * (t : Int) ≤ 7000 * 300 := mul_elapsed_le (by omega) (by omega) ht
    have sign : 0 ≤ (g - m) * (t : Int) := Int.mul_nonneg (by omega) (by omega)
    omega
  · have update := integrate_of_atOrAbove i m g t h
    have largest : (m - g) * (t : Int) ≤ 14000 * 300 := mul_elapsed_le (by omega) (by omega) ht
    have sign : 0 ≤ (m - g) * (t : Int) := Int.mul_nonneg (by omega) (by omega)
    omega

/-! ### What a decision writes into the sections

A change of protection state writes the state itself; what it hands on to the search writes marks and refresh
timers alone. A change of regime writes ACTIVE alone. -/

theorem State.preempt_keeps {β : Type} (g : SectionRecord → β) (hg : MarkBlind g) (s : State) (k : Slot) :
    g (s.preempt.sec k) = g (s.sec k) := by
  unfold State.preempt
  split
  · rw [State.modSearch_sec, State.release_keeps g hg]
  · rw [State.endSearch_keeps g hg]

theorem State.tellSearch_keeps {β : Type} (g : SectionRecord → β) (hg : MarkBlind g) (s : State) (n : Slot)
    (p : Protection) (k : Slot) : g ((s.tellSearch n p).sec k) = g (s.sec k) := by
  unfold State.tellSearch
  cases (s.sec n).mark with
  | probe =>
    dsimp only
    split
    · exact s.preempt_keeps g hg k
    · rfl
  | held =>
    dsimp only
    split
    · rw [State.post_sec]
    · rfl
  | none =>
    dsimp only
    split
    · exact s.judgeSuspended_keeps g hg k
    · rfl

theorem State.changeProtection_reads {β : Type} (g : SectionRecord → β) (hg : MarkBlind g) (s : State)
    (n : Slot) (p : Protection) :
    g ((s.changeProtection n p).sec n) = g { s.sec n with protection := p } := by
  unfold State.changeProtection
  dsimp only
  rw [State.tellSearch_keeps g hg, State.postEntry_sec, State.evalLines_sec, State.decidePump_sec,
    State.restage_sec, State.modSec_sec_self]

/-- The evaluated section after its decision (R51), whether the state changed or stayed. -/
theorem State.decideSection_reads {β : Type} (g : SectionRecord → β) (hg : MarkBlind g) (s : State) (n : Slot)
    (margin : Int) :
    g ((s.decideSection n margin).sec n) =
      g { s.sec n with
          protection := decideProtection (s.sec n).protection (s.sec n).config margin (s.sec n).integrator } := by
  unfold State.decideSection
  dsimp only
  split
  · next stays => rw [stays]
  · exact s.changeProtection_reads g hg n _

/-- A reading of a section that does not look at its ACTIVE limit set. -/
def ActiveBlind {β : Type} (g : SectionRecord → β) : Prop := ∀ r a, g { r with active := a } = g r

theorem State.copyActive_keeps {β : Type} (g : SectionRecord → β) (hg : ActiveBlind g) (s : State) (l : LoopId)
    (regime : Regime) (n k : Slot) : g ((s.copyActive l regime n).sec k) = g (s.sec k) := by
  unfold State.copyActive
  split
  · rw [State.restage_sec, State.modSec_sec]
    split
    · next same => rw [hg, same]
    · rfl
  · rfl

theorem State.changeRegime_keeps {β : Type} (g : SectionRecord → β) (hg : ActiveBlind g) (s : State) (l : LoopId)
    (regime : Regime) (k : Slot) : g ((s.changeRegime l regime).sec k) = g (s.sec k) := by
  unfold State.changeRegime
  dsimp only
  rw [State.decidePump_sec, State.post_sec,
    foldl_keeps (fun s : State => g (s.sec k)) _ fun s n => s.copyActive_keeps g hg l regime n k,
    State.modLoop_sec]

theorem State.decideLoopRegime_keeps {β : Type} (g : SectionRecord → β) (hg : ActiveBlind g) (s : State)
    (l : LoopId) (k : Slot) : g ((s.decideLoopRegime l).sec k) = g (s.sec k) := by
  unfold State.decideLoopRegime
  split
  · rfl
  · dsimp only
    split
    · rfl
    · exact s.changeRegime_keeps g hg l _ k

/-! ### The take of an evaluation -/

/-- The evaluated section, for every reading that looks at none of mark, refresh timer and ACTIVE: the record that
the take writes, with the protection state decided from the margin and the integrator in that record (R32). -/
theorem State.evaluate_reads {β : Type} (g : SectionRecord → β) (hm : MarkBlind g) (ha : ActiveBlind g)
    (s : State) (n : Slot) :
    g ((s.evaluate n).sec n) =
      g { (s.sec n).evaluated (s.evaluation n) s.tenths with
          protection :=
            decideProtection (s.sec n).protection (s.sec n).config (s.evaluation n).margin
              (integrate (s.sec n).integrator (s.evaluation n).margin (s.sec n).active.guard
                (s.evaluation n).elapsed) } := by
  have decided := (s.modSec n fun r => r.evaluated (s.evaluation n) s.tenths).decideSection_reads g hm n
    (s.evaluation n).margin
  rw [State.modSec_sec_self] at decided
  unfold State.evaluate
  dsimp only
  split
  · rw [State.decideLoopRegime_keeps g ha, State.formColdest_sec]
    exact decided
  · exact decided

theorem exec_evaluationTake (s : State) (dt : Nat) (n : Slot) (rest : List Slot) (awake : s.inReset = false)
    (front : s.evalQueue = n :: rest) :
    exec (.evaluationTake dt) s =
      .next (State.evaluate { s with time := s.time + dt, evalQueue := rest } n) := by
  show Host.Outcome.next (s.event dt State.takeEvaluation) = _
  simp [State.event, awake, State.takeEvaluation, front, State.advance]

/-- Settles O26: the take through what it leaves in the evaluated section, the update by its two floors. -/
theorem integratorUpdate : Obligations.IntegratorUpdate := by
  refine ⟨fun s dt n rest awake front => ?_, fun i m g t => ?_⟩
  · refine ⟨_, exec_evaluationTake s dt n rest awake front, ?_, ?_⟩
    · exact State.evaluate_reads (·.integrator) (fun _ _ _ => rfl) (fun _ _ => rfl) _ n
    · exact State.evaluate_reads (·.protection) (fun _ _ _ => rfl) (fun _ _ => rfl) _ n
  · exact ⟨integrate_of_below i m g t, integrate_of_atOrAbove i m g t, integrate_le i m g t,
      integrate_zero_elapsed i m g, integrate_moves_within i m g t, by decide, by decide⟩

end Sys2Proof.Machine
end

section
/-! PROOF. The decision table of R51: what each state's rows come to when the section does and does not trip. -/

namespace Sys2Proof.Machine

open Sys2Proof

/-! ### The rows of R51 -/

@[simp] theorem decideProtection_tripped (c : SectionConfig) (m : Int) (i : Nat) :
    decideProtection .tripped c m i = .tripped := rfl

/-- The first two rows are the same for every state that has rows. -/
theorem decideProtection_of_trips {c : SectionConfig} {m : Int} {i : Nat} (p : Protection)
    (trips : m < -(c.hardFloor : Int) ∨ c.iTrip ≤ i) : decideProtection p c m i = .tripped := by
  cases p with
  | tripped => rfl
  | normal | watch | defend =>
    rcases trips with floor | full
    · exact if_pos floor
    · simp [decideProtection, full]

section
variable {c : SectionConfig} {m : Int} {i : Nat} (stays : ¬ (m < -(c.hardFloor : Int) ∨ c.iTrip ≤ i))
include stays

theorem decideProtection_normal :
    decideProtection .normal c m i =
      if c.iDefend ≤ i then .defend else if c.iWatch ≤ i then .watch else .normal := by
  obtain ⟨floor, full⟩ := not_or.mp stays
  rw [decideProtection, if_neg floor, if_neg full]

theorem decideProtection_watch :
    decideProtection .watch c m i =
      if c.iDefend ≤ i then .defend else if i ≤ 3 * c.iWatch / 4 then .normal else .watch := by
  obtain ⟨floor, full⟩ := not_or.mp stays
  rw [decideProtection, if_neg floor, if_neg full, exitLevel]

theorem decideProtection_defend :
    decideProtection .defend c m i =
      if i ≤ 3 * c.iWatch / 4 then .normal else if i ≤ 3 * c.iDefend / 4 then .watch else .defend := by
  obtain ⟨floor, full⟩ := not_or.mp stays
  rw [decideProtection, if_neg floor, if_neg full, exitLevel, exitLevel]

end

/-! ### The table at the default thresholds -/

/-- The manual's table, row by row of the integrator: the state kept in the two bands of R50, 22,500 to 30,000
and 90,000 to 120,000. -/
def defaultDecision (i : Nat) (p : Protection) : Protection :=
  if p = .tripped ∨ 600000 ≤ i then .tripped
  else if i ≤ 22500 then .normal
  else if i < 30000 then (if p = .normal then .normal else .watch)
  else if i ≤ 90000 then .watch
  else if i < 120000 then (if p = .defend then .defend else .watch)
  else .defend

theorem decideProtection_default {c : SectionConfig} {m : Int} (i : Nat) (watch : c.iWatch = 30000)
    (defend : c.iDefend = 120000) (trip : c.iTrip = 600000) (floor : -(c.hardFloor : Int) ≤ m) (p : Protection) :
    decideProtection p c m i = defaultDecision i p := by
  rcases le_or_gt 600000 i with full | below
  · rw [decideProtection_of_trips p (.inr (trip ▸ full)), defaultDecision, if_pos (.inr full)]
  have stays : ¬ (m < -(c.hardFloor : Int) ∨ c.iTrip ≤ i) := by omega
  cases p with
  | tripped => rfl
  | normal =>
    rw [decideProtection_normal stays, watch, defend, defaultDecision]
    grind
  | watch =>
    rw [decideProtection_watch stays, watch, defend, defaultDecision]
    grind
  | defend =>
    rw [decideProtection_defend stays, watch, defend, defaultDecision]
    grind

/-- Settles O28: the rows by the state that they start from, the default table by the integrator's bands, and the
hand-on by the definition of the decision. -/
theorem protectionDecisionTable : Obligations.ProtectionDecisionTable := by
  intro c m i
  refine ⟨fun p _ => decideProtection_of_trips p, decideProtection_tripped c m i, fun stays => ?_,
    fun watch defend trip floor => funext (decideProtection_default i watch defend trip floor), fun _ _ => rfl⟩
  rw [decideProtection_normal stays, decideProtection_watch stays, decideProtection_defend stays]
  refine ⟨fun full => ⟨if_pos full, if_pos full⟩, fun below watch => ?_, fun below under => ?_,
    fun below exit => ?_, fun below above => ?_, fun exit => if_pos exit, fun above exit => ?_,
    fun above above' => ?_⟩
  · rw [if_neg below.not_ge, if_pos watch]
  · rw [if_neg below.not_ge, if_neg under.not_ge]
  · rw [if_neg below.not_ge, if_pos exit]
  · rw [if_neg below.not_ge, if_neg above.not_ge]
  · rw [if_neg above.not_ge, if_pos exit]
  · rw [if_neg above.not_ge, if_neg above'.not_ge]

end Sys2Proof.Machine
end

section
/-! PROOF. The seen map (R96, R97): what SEEN READ and SEEN CLEAR answer, and the one mark that a telegram sets. -/

namespace Sys2Proof.Machine

open Sys2Proof

/-! ### SEEN READ and SEEN CLEAR -/

/-- The bytes of a group are its nodes' entries, in ascending order. -/
theorem State.seenGroup_eq_map (s : State) {g : Nat} (h : g < 16) :
    s.seenGroup g = (List.range 16).map fun i => s.seen.toList.getD (16 * g + i) 0 := by
  have size : s.seen.toList.length = 256 := by simp
  unfold State.seenGroup
  apply List.ext_getElem
  · simp only [List.length_take, List.length_drop, List.length_map, List.length_range, size]
    omega
  · intro i _ inGroup
    have inMap : 16 * g + i < s.seen.toList.length := by
      simp only [List.length_map, List.length_range] at inGroup
      omega
    simp only [List.getElem_take, List.getElem_drop, List.getElem_map, List.getElem_range,
      List.getD_eq_getElem _ _ inMap]

theorem exec_seenRead_of_taking (s : State) (dt : Nat) (j : Byte) (h : s.taking) :
    exec (.seenRead dt j []) s =
      .next ((s.atTake dt).take 36 (seenReadRequest j [] (s.atTake dt))) :=
  congrArg Host.Outcome.next (s.request_of_taking dt 36 _ h)

theorem exec_seenRead_of_group (s : State) (dt : Nat) (j : Byte) (h : s.taking) (group : j.toNat < 16) :
    exec (.seenRead dt j []) s = .next (s.answered dt 36 .done (s.seenGroup j.toNat)) := by
  rw [exec_seenRead_of_taking s dt j h, seenReadRequest, if_neg group.not_ge, if_neg (by simp),
    State.take_answer_self]
  rfl

theorem exec_seenRead_beyond (s : State) (dt : Nat) (j : Byte) (h : s.taking) (beyond : 16 ≤ j.toNat) :
    exec (.seenRead dt j []) s = .next (s.answered dt 36 .badSubject []) := by
  rw [exec_seenRead_of_taking s dt j h, seenReadRequest, if_pos beyond, State.take_no]

theorem exec_seenClear_of_taking (s : State) (dt : Nat) (h : s.taking) :
    exec (.seenClear dt 0 []) s =
      .next { s.answered dt 37 .done [] with seen := Vector.replicate 256 0 } :=
  congrArg Host.Outcome.next (s.request_of_taking dt 37 _ h)

/-! ### The mark of a telegram -/

/-- Setting one bit of a byte sets that bit and no other. -/
theorem getLsbD_or_one_shiftLeft (b : Byte) (k : BitVec 3) (i : Fin 8) :
    (b ||| 1#8 <<< k.toNat).getLsbD i.val = true ↔ b.getLsbD i.val = true ∨ i.val = k.toNat := by
  have place : (1#8 <<< k.toNat).getLsbD i.val = decide (i.val = k.toNat) := by
    rw [← BitVec.twoPow, BitVec.getLsbD_twoPow, decide_eq_true k.isLt, Bool.true_and]
    exact decide_eq_decide.mpr eq_comm
  rw [BitVec.getLsbD_or, Bool.or_eq_true, place, decide_eq_true_iff]

theorem State.markSeen_getLsbD (s : State) (b : Byte) (k : BitVec 3) (node : Fin 256) (i : Fin 8) :
    (tabGet (s.markSeen b k).seen node).getLsbD i.val = true ↔
      (tabGet s.seen node).getLsbD i.val = true ∨ node.val = b.toNat ∧ i.val = k.toNat := by
  rw [State.markSeen, tabGet_tabSet]
  split
  · next same =>
    subst same
    rw [getLsbD_or_one_shiftLeft]
    simp
  · next other =>
    have differs : node.val ≠ b.toNat := fun e => other (Fin.ext e.symm)
    simp [differs]

/-- A delivery leaves the marks as they are, so a reading leaves the one mark that it set (R96). -/
theorem State.arrive_seen (s : State) (x : Telegram) (reading : x.command = false) :
    (s.arrive x).seen = (s.markSeen x.node x.kind).seen := by
  rw [State.arrive, reading]
  cases readingOf x with
  | some r => exact State.deliver_seen _ r
  | none => rfl

/-- A fragment that is heard, with nothing of the part's own on the bus, and that holds a valid telegram (R93). -/
theorem exec_fragmentEnd_of_telegram (s : State) (dt : Nat) (chars : List BusChar) (x : Telegram)
    (awake : s.inReset = false) (silent : (s.advance dt).sending = false) (others : ∀ c ∈ chars, c.own = false)
    (hears : (s.advance dt).hears chars = true) (valid : decodeFragment chars = some (.ok x)) :
    exec (.fragmentEnd dt chars) s = .next ((s.advance dt).gap.arrive x) := by
  have noneOwn : chars.any (·.own) = false := by simpa using others
  show Host.Outcome.next (s.event dt fun s => s.endFragment chars) = _
  simp [State.event, awake, State.endFragment, silent, noneOwn, hears, valid]

/-- Settles O21: SEEN READ and SEEN CLEAR through their takes, a telegram's mark through its arrival. -/
theorem seenMarksAreReadAndCleared : Obligations.SeenMarksAreReadAndCleared := by
  intro s dt taking
  refine ⟨fun j => ?_, exec_seenClear_of_taking s dt taking, ?_⟩
  · split
    · next group => rw [exec_seenRead_of_group s dt j taking group, s.seenGroup_eq_map group]
    · next beyond => exact exec_seenRead_beyond s dt j taking (not_lt.mp beyond)
  · intro u dt' chars x awake silent others hears valid reading
    refine ⟨_, exec_fragmentEnd_of_telegram u dt' chars x awake silent others hears valid, fun node k => ?_⟩
    rw [State.arrive_seen _ x reading]
    exact (u.advance dt').gap.markSeen_getLsbD x.node x.kind node k

end Sys2Proof.Machine
end

section
/-! PROOF. The period of a channel (R121, R122): where each tick of its clock leaves the counter, and how many ticks
stand between one boundary and the next. -/

namespace Sys2Proof.Machine

open Sys2Proof

/-! ### A channel at a place in its period -/

/-- The channel at a place in its period: the counter and its direction there, and an output. -/
def Channel.placed (c : Channel) (counter : Nat) (d : Direction) (output : Level) : Channel :=
  { c with counter := counter, direction := d, output := output }

/-- The level that the values in force drive at a counter, within a period of 1 tick or more (R121, R122, R125). -/
def Channel.pulse (c : Channel) (activeLow : Bool) (counter : Nat) : Level :=
  if counter < c.compareInForce ∨ (c.periodInForce ≤ c.compareInForce ∧ c.compareInForce ≠ 0) then
    activeLevel activeLow
  else idleLevel activeLow

@[simp] theorem Channel.placed_direction (c : Channel) (k : Nat) (d : Direction) (o : Level) :
    (c.placed k d o).direction = d := rfl

theorem Channel.eq_placed {c : Channel} {k : Nat} {d : Direction} (counter : c.counter = k)
    (direction : c.direction = d) : c = c.placed k d c.output := by
  subst counter direction
  rfl

theorem Channel.placed_drive {c : Channel} (on : c.enabled = true) (runs : 0 < c.periodInForce) (activeLow : Bool)
    (k : Nat) (d : Direction) (o : Level) :
    (c.placed k d o).drive activeLow = c.placed k d (c.pulse activeLow k) := by
  have active : (c.placed k d o).isActive = true ↔
      k < c.compareInForce ∨ (c.periodInForce ≤ c.compareInForce ∧ c.compareInForce ≠ 0) := by
    simp only [isActive, placed, on, Bool.and_eq_true, Bool.or_eq_true, bne_iff_ne, decide_eq_true_eq, true_and]
    omega
  simp only [drive, level, active, pulse]
  rfl

/-- The compare taken alone decides the output after a boundary: a period of 0 gives a compare of 0 (R123, R125). -/
theorem Channel.boundary_drive {c : Channel} (on : c.enabled = true) (activeLow : Bool) :
    c.boundary.drive activeLow =
      { c with
        periodInForce := c.stagedPeriod
        dutyInForce := if c.stagedPeriod = 0 then 0 else c.stagedDuty
        compareInForce := (c.stagedDuty * c.stagedPeriod + 127) / 255
        counter := 0
        direction := .up
        output :=
          if (c.stagedDuty * c.stagedPeriod + 127) / 255 = 0 then idleLevel activeLow
          else activeLevel activeLow } := by
  have stops : c.stagedPeriod = 0 → (c.stagedDuty * c.stagedPeriod + 127) / 255 = 0 := fun zero => by simp [zero]
  have active : c.boundary.isActive = true ↔ ¬ (c.stagedDuty * c.stagedPeriod + 127) / 255 = 0 := by
    simp only [isActive, boundary, compareOf, on, Bool.and_eq_true, Bool.or_eq_true, bne_iff_ne, decide_eq_true_eq,
      true_and]
    omega
  simp only [drive, level, active, ite_not]
  rfl

/-! ### One tick of the channel clock -/

section Tick

variable {c : Channel}

theorem Channel.placed_boundaryNext_left (k : Nat) (d : Direction) (o : Level) :
    (c.placed k d o).boundaryNext .left = true ↔ c.periodInForce = 0 ∨ c.periodInForce ≤ k + 1 := by
  simp only [boundaryNext, Bool.or_eq_true, beq_iff_eq, decide_eq_true_eq]
  rfl

theorem Channel.placed_boundaryNext_centre_up (k : Nat) (o : Level) :
    (c.placed k .up o).boundaryNext .centre = true ↔
      c.periodInForce = 0 ∨ c.periodInForce ≤ k ∧ c.periodInForce ≤ 1 := by
  simp only [boundaryNext, placed_direction, Bool.or_eq_true, Bool.and_eq_true, beq_iff_eq, decide_eq_true_eq]
  rfl

theorem Channel.placed_boundaryNext_centre_down (k : Nat) (o : Level) :
    (c.placed k .down o).boundaryNext .centre = true ↔ c.periodInForce = 0 ∨ k ≤ 1 := by
  simp only [boundaryNext, placed_direction, Bool.or_eq_true, beq_iff_eq, decide_eq_true_eq]
  rfl

variable (on : c.enabled = true) (activeLow : Bool)

include on

theorem Channel.tick_of_boundaryNext {a : Alignment} (last : c.boundaryNext a = true) :
    c.tick a activeLow = c.boundary.drive activeLow := by
  rw [tick, if_pos on, if_pos last]

/-- The last tick of a period, at any place where it ends. -/
theorem Channel.placed_tick_of_boundaryNext {a : Alignment} {k : Nat} {d : Direction} {o : Level}
    (last : (c.placed k d o).boundaryNext a = true) :
    (c.placed k d o).tick a activeLow = c.boundary.drive activeLow :=
  (c.placed k d o).tick_of_boundaryNext on activeLow last

variable (runs : 0 < c.periodInForce)

include runs

/-- A tick inside a period drives the level of the place to which it counts, whatever the output was. -/
theorem Channel.placed_tick_of_count {a : Alignment} {k k' : Nat} {d d' : Direction} {o : Level}
    (inside : ¬ (c.placed k d o).boundaryNext a = true) (counts : (c.placed k d o).count a = c.placed k' d' o) :
    (c.placed k d o).tick a activeLow = c.placed k' d' (c.pulse activeLow k') := by
  have ticks : (c.placed k d o).enabled = true := on
  rw [tick, if_pos ticks, if_neg inside, counts, placed_drive on runs]

theorem Channel.placed_tick_left {k : Nat} (h : k + 1 < c.periodInForce) (o : Level) :
    (c.placed k .up o).tick .left activeLow = c.placed (k + 1) .up (c.pulse activeLow (k + 1)) :=
  placed_tick_of_count on activeLow runs (by rw [placed_boundaryNext_left]; omega) rfl

theorem Channel.placed_tick_centre_up {k : Nat} (h : k < c.periodInForce) (o : Level) :
    (c.placed k .up o).tick .centre activeLow = c.placed (k + 1) .up (c.pulse activeLow (k + 1)) :=
  placed_tick_of_count on activeLow runs (by rw [placed_boundaryNext_centre_up]; omega)
    (by simp [count, placed, h])

theorem Channel.placed_tick_centre_turn (h : 1 < c.periodInForce) (o : Level) :
    (c.placed c.periodInForce .up o).tick .centre activeLow =
      c.placed (c.periodInForce - 1) .down (c.pulse activeLow (c.periodInForce - 1)) :=
  placed_tick_of_count on activeLow runs (by rw [placed_boundaryNext_centre_up]; omega) (by simp [count, placed])

theorem Channel.placed_tick_centre_down {k : Nat} (h : 1 < k) (o : Level) :
    (c.placed k .down o).tick .centre activeLow = c.placed (k - 1) .down (c.pulse activeLow (k - 1)) :=
  placed_tick_of_count on activeLow runs (by rw [placed_boundaryNext_centre_down]; omega) rfl

end Tick

/-! ### The ticks of a whole period -/

section WholePeriod

variable {c : Channel} (activeLow : Bool) (start : c.counter = 0) (upward : c.direction = .up)

include start upward

/-- Ticks that each count up by one leave the counter at their number. At the start of the period the output is
still the one before the first tick. -/
theorem Channel.iterate_of_counts_up {f : Channel → Channel} {n : Nat}
    (counts : ∀ k < n, ∀ o, f (c.placed k .up o) = c.placed (k + 1) .up (c.pulse activeLow (k + 1))) {k : Nat}
    (h : k ≤ n) : ∃ o, f^[k] c = c.placed k .up o ∧ (0 < k → o = c.pulse activeLow k) := by
  induction k with
  | zero => exact ⟨_, eq_placed start upward, fun begun => absurd begun (lt_irrefl 0)⟩
  | succ k ih =>
    obtain ⟨o, place, _⟩ := ih (by omega)
    exact ⟨_, by rw [Function.iterate_succ_apply', place, counts k h], fun _ => rfl⟩

variable (on : c.enabled = true) (runs : 0 < c.periodInForce)

include on runs

theorem Channel.iterate_tick_left {k : Nat} (inside : k < c.periodInForce) :
    ∃ o, (fun x => x.tick .left activeLow)^[k] c = c.placed k .up o ∧ (0 < k → o = c.pulse activeLow k) :=
  iterate_of_counts_up activeLow start upward
    (fun _ (h : _ < c.periodInForce - 1) => placed_tick_left on activeLow runs (by omega)) (by omega)

theorem Channel.iterate_tick_centre_up {k : Nat} (rises : k ≤ c.periodInForce) :
    ∃ o, (fun x => x.tick .centre activeLow)^[k] c = c.placed k .up o ∧ (0 < k → o = c.pulse activeLow k) :=
  iterate_of_counts_up activeLow start upward (fun _ => placed_tick_centre_up on activeLow runs) rises

theorem Channel.iterate_tick_centre_down {k : Nat} (turned : c.periodInForce < k) (inside : k < 2 * c.periodInForce) :
    (fun x => x.tick .centre activeLow)^[k] c =
      c.placed (2 * c.periodInForce - k) .down (c.pulse activeLow (2 * c.periodInForce - k)) := by
  induction k, turned using Nat.le_induction with
  | base =>
    obtain ⟨o, top, _⟩ := iterate_tick_centre_up activeLow start upward on runs le_rfl
    have next : 2 * c.periodInForce - (c.periodInForce + 1) = c.periodInForce - 1 := by omega
    rw [Function.iterate_succ_apply', top, next]
    exact placed_tick_centre_turn on activeLow runs (by omega) o
  | succ k _ ih =>
    rw [Function.iterate_succ_apply', ih (by omega)]
    exact placed_tick_centre_down on activeLow runs (by omega) _

theorem Channel.iterate_tick_left_period :
    (fun x => x.tick .left activeLow)^[c.periodInForce] c = c.boundary.drive activeLow := by
  obtain ⟨o, place, _⟩ := iterate_tick_left activeLow start upward on runs (Nat.sub_one_lt_of_lt runs)
  rw [← Nat.sub_add_cancel runs, Function.iterate_succ_apply', place]
  exact placed_tick_of_boundaryNext on activeLow ((placed_boundaryNext_left ..).2 (by omega))

/-- A period of 1 ends where the counter turns; a longer one ends on the way down, at 1 (R122). -/
theorem Channel.iterate_tick_centre_period :
    (fun x => x.tick .centre activeLow)^[2 * c.periodInForce] c = c.boundary.drive activeLow := by
  obtain ⟨k, ticks⟩ : ∃ k, 2 * c.periodInForce = k + 1 := ⟨2 * c.periodInForce - 1, by omega⟩
  rw [ticks, Function.iterate_succ_apply']
  obtain one | longer : c.periodInForce = 1 ∨ 1 < c.periodInForce := by omega
  · obtain ⟨o, top, _⟩ := iterate_tick_centre_up activeLow start upward on runs (k := k) (by omega)
    rw [top]
    exact placed_tick_of_boundaryNext on activeLow ((placed_boundaryNext_centre_up ..).2 (by omega))
  · rw [iterate_tick_centre_down activeLow start upward on runs (by omega) (by omega)]
    exact placed_tick_of_boundaryNext on activeLow ((placed_boundaryNext_centre_down ..).2 (by omega))

end WholePeriod

/-- Settles O32: with no period every tick is a boundary; with one the ticks before the last count, and the last is
the boundary. -/
theorem periodsLastTheirTicks : Obligations.PeriodsLastTheirTicks := by
  intro c activeLow on start upward p taken counted
  have boundary : c.boundary.drive activeLow = taken := Channel.boundary_drive on activeLow
  refine ⟨fun noPeriod a => ?_, fun runs => ⟨fun k begun inside => ?_, ?_⟩,
    fun runs => ⟨fun k begun rises => ?_, fun k turned inside => ?_, ?_⟩⟩
  · have last : c.boundaryNext a = true := by simp [Channel.boundaryNext, show c.periodInForce = 0 from noPeriod]
    exact (c.tick_of_boundaryNext on activeLow last).trans boundary
  · obtain ⟨o, place, output⟩ := c.iterate_tick_left activeLow start upward on runs inside
    rw [place, output begun]
    rfl
  · exact (c.iterate_tick_left_period activeLow start upward on runs).trans boundary
  · obtain ⟨o, place, output⟩ := c.iterate_tick_centre_up activeLow start upward on runs rises
    rw [place, output begun]
    rfl
  · exact c.iterate_tick_centre_down activeLow start upward on runs turned inside
  · exact (c.iterate_tick_centre_period activeLow start upward on runs).trans boundary

end Sys2Proof.Machine
end

section
/-! PROOF. SEARCH STOP (R150): what a run of mark changes leaves of the sections, the fan channels, the transmit queue
and the clear lines, and what a release from HELD leaves besides. -/

namespace Sys2Proof.Machine

open Sys2Proof

/-! ### The sections, the queue and the lines under changes of marks (R136) -/

theorem State.setMarks_sec (m : Mark) (l : List Slot) (s : State) (k : Slot) :
    (s.setMarks m l).sec k =
      if k ∈ l then
        { s.sec k with
          mark := m
          refreshTimer :=
            if (s.sec k).config.valveNode = none then (s.sec k).refreshTimer else some (s.expiryIn 10) }
      else s.sec k := by
  induction l generalizing s with
  | nil => rfl
  | cons n l ih =>
    show ((s.setMark m n).setMarks m l).sec k = _
    rw [ih, State.setMark_sec]
    have sameTime : (s.setMark m n).expiryIn 10 = s.expiryIn 10 := by simp [State.expiryIn, State.tenths]
    rw [sameTime]
    by_cases h : k = n
    · subst h
      cases node : (s.sec k).config.valveNode <;> simp [node]
    · simp [h]

theorem filter_postEntry (n : Slot) (c : ValveCommand) (q : List QueueEntry) (p : QueueEntry → Bool)
    (drops : ∀ e, e.slot = n → p e = false) : (postEntry n c q).filter p = q.filter p := by
  induction q with
  | nil => simp [postEntry, drops]
  | cons e q ih =>
    unfold postEntry
    split
    · next same => simp [drops _ same, drops ⟨n, c⟩ rfl]
    · rw [List.filter_cons, List.filter_cons, ih]

/-- The entries of other sections keep their places. -/
theorem State.setMarks_filter_txQueue (m : Mark) (l : List Slot) (s : State) (p : QueueEntry → Bool)
    (drops : ∀ e, e.slot ∈ l → p e = false) : (s.setMarks m l).txQueue.filter p = s.txQueue.filter p := by
  induction l generalizing s with
  | nil => rfl
  | cons n l ih =>
    show ((s.setMark m n).setMarks m l).txQueue.filter p = _
    rw [ih _ fun e he => drops e (List.mem_cons_of_mem n he), State.setMark_txQueue]
    split
    · exact filter_postEntry n _ _ p fun e he => drops e (by simp [he])
    · rfl

theorem State.setMark_line_of_unmasked (s : State) (m : Mark) {n : Slot} {k : LineId}
    (unmasked : (s.line k).mask.getLsbD n.val = false) : (s.setMark m n).line k = s.line k := by
  have marked : ∀ u : State, u.line k = s.line k → (u.evalLines n).line k = s.line k := fun u same => by
    rw [State.evalLines_line, same, unmasked]
    rfl
  refine marked _ ?_
  split <;> simp

theorem State.setMarks_line_of_unmasked (m : Mark) (l : List Slot) (s : State) (k : LineId)
    (unmasked : ∀ n ∈ l, (s.line k).mask.getLsbD (Fin.val n) = false) : (s.setMarks m l).line k = s.line k := by
  induction l generalizing s with
  | nil => rfl
  | cons n l ih =>
    have first := s.setMark_line_of_unmasked m (unmasked n List.mem_cons_self)
    show ((s.setMark m n).setMarks m l).line k = _
    rw [ih _ fun j hj => by rw [first]; exact unmasked j (List.mem_cons_of_mem n hj), first]

/-- The pairing looks at no mark. -/
theorem State.setMarks_partner (s : State) (m : Mark) (l : List Slot) (k : Slot) :
    (s.setMarks m l).partner k = s.partner k := by
  have config n := State.setMarks_keeps (·.config) (fun _ _ _ => rfl) m l s n
  have slot n := State.setMarks_keeps (·.slot) (fun _ _ _ => rfl) m l s n
  simp [State.partner, State.gangFormed, config, slot]

theorem State.setMark_partner (s : State) (m : Mark) (n k : Slot) : (s.setMark m n).partner k = s.partner k :=
  s.setMarks_partner m [n] k

/-! ### One restaging (R129, R131, R132) -/

theorem State.handed_of_alone {s : State} {n : Slot} (h : s.partner n = none) (own : Slot → Nat) :
    s.handed n own = if s.stopLow then 0 else own n := by
  rw [State.handed, h]

theorem State.handed_of_paired {s : State} {n p : Slot} (h : s.partner n = some p) (own : Slot → Nat) :
    s.handed n own = if s.stopLow then 0 else min (own n) (own p) := by
  rw [State.handed, h]

/-- A channel's generator holds what the channel hands it from the own staged duties as they stand. -/
def State.handsOwn (t : State) (n : Slot) : Prop :=
  (t.fan n).gen.stagedDuty = t.handed n fun m => (t.fan m).ownStaged

section
variable {s t : State} {n : Slot} (restaged : Restaged s t n)
include restaged

theorem Restaged.ownStaged (k : Slot) :
    (t.fan k).ownStaged =
      if k = n then min (s.fan k).ramp (fanCeiling (t.sec k)) else (s.fan k).ownStaged := by
  rw [restaged k]
  split
  · next same => rw [same]
  · split <;> rfl

theorem Restaged.shape (k : Slot) :
    t.fan k =
      { s.fan k with
        ownStaged := (t.fan k).ownStaged
        gen := { (s.fan k).gen with stagedDuty := (t.fan k).gen.stagedDuty } } := by
  rw [restaged k]
  split
  · rfl
  · split <;> rfl

theorem Restaged.fan_other {k : Slot} (other : k ≠ n) (unpaired : t.partner n ≠ some k) : t.fan k = s.fan k := by
  rw [restaged k, if_neg other, if_neg unpaired]

theorem Restaged.handsOwn_self : t.handsOwn n := by
  unfold State.handsOwn
  cases pair : t.partner n with
  | none =>
    rw [State.handed_of_alone pair, restaged.ownStaged n, restaged n]
    simp [pair]
  | some p =>
    rw [State.handed_of_paired pair, restaged.ownStaged n, restaged.ownStaged p, restaged n]
    simp [pair, State.partner_ne pair]

theorem Restaged.handsOwn_partner {k : Slot} (pair : t.partner n = some k) : t.handsOwn k := by
  have other := State.partner_ne pair
  unfold State.handsOwn
  rw [State.handed_of_paired (State.partner_symm pair), restaged.ownStaged n, restaged.ownStaged k, restaged k]
  simp [pair, other, min_comm]

/-- A restaging of another pair changes nothing of what a channel hands. -/
theorem Restaged.handsOwn_other {k : Slot} (stop : t.stopLow = s.stopLow) (pairs : t.partner k = s.partner k)
    (other : k ≠ n) (unpaired : t.partner n ≠ some k) (before : s.handsOwn k) : t.handsOwn k := by
  have stays := restaged.fan_other other unpaired
  unfold State.handsOwn at before ⊢
  rw [stays, before]
  cases pair : t.partner k with
  | none => rw [State.handed_of_alone pair, State.handed_of_alone (pairs ▸ pair), stop, stays]
  | some p =>
    have back := State.partner_symm pair
    have staysToo : t.fan p = s.fan p :=
      restaged.fan_other (fun same => unpaired (same ▸ back))
        fun same => other (Option.some.inj (back.symm.trans (State.partner_symm same)))
    rw [State.handed_of_paired pair, State.handed_of_paired (pairs ▸ pair), stop, stays, staysToo]

end

/-! ### The fan channels under changes of marks -/

/-- A change of mark restages the section's channel, and in a formed gang its partner's with it. -/
theorem State.setMark_restaged (s : State) (m : Mark) (n : Slot) : Restaged s (s.setMark m n) n := by
  obtain ⟨u, fans, marked⟩ :
      ∃ u : State, (∀ k, u.fan k = s.fan k) ∧ s.setMark m n = (u.restage n).evalLines n :=
    ⟨_, fun k => by split <;> simp, rfl⟩
  rw [marked]
  exact Restaged.of_restage s _ u n fans (by simp) (by simp) (by simp)

theorem State.setMarks_fan_shape (m : Mark) (l : List Slot) (s : State) (k : Slot) :
    (s.setMarks m l).fan k =
      { s.fan k with
        ownStaged := ((s.setMarks m l).fan k).ownStaged
        gen := { (s.fan k).gen with stagedDuty := ((s.setMarks m l).fan k).gen.stagedDuty } } := by
  induction l generalizing s with
  | nil => rfl
  | cons n l ih =>
    refine (ih (s.setMark m n)).trans ?_
    rw [(s.setMark_restaged m n).shape k]
    rfl

/-- A section named twice is restaged twice, the second time under the mark it has already. -/
theorem State.setMarks_ownStaged (m : Mark) (l : List Slot) (s : State) (k : Slot) :
    ((s.setMarks m l).fan k).ownStaged =
      if k ∈ l then min (s.fan k).ramp (fanCeiling ((s.setMarks m l).sec k)) else (s.fan k).ownStaged := by
  induction l generalizing s with
  | nil => rfl
  | cons n l ih =>
    have restaged := s.setMark_restaged m n
    have ramp : ((s.setMark m n).fan k).ramp = (s.fan k).ramp := by rw [restaged.shape k]
    show (((s.setMark m n).setMarks m l).fan k).ownStaged =
      if k ∈ n :: l then min (s.fan k).ramp (fanCeiling (((s.setMark m n).setMarks m l).sec k)) else _
    rw [ih, ramp, restaged.ownStaged k]
    by_cases later : k ∈ l
    · simp [later]
    · simp [later, State.setMarks_sec_other m l _ k later]

theorem State.setMarks_fan_other (m : Mark) (l : List Slot) (s : State) (k : Slot)
    (other : ¬ (k ∈ l ∨ ∃ n ∈ l, s.partner n = some k)) : (s.setMarks m l).fan k = s.fan k := by
  induction l generalizing s with
  | nil => rfl
  | cons n l ih =>
    simp only [List.mem_cons, exists_eq_or_imp, not_or] at other
    obtain ⟨⟨ne, notLater⟩, unpaired, unpairedLater⟩ := other
    refine (ih (s.setMark m n) ?_).trans ((s.setMark_restaged m n).fan_other ne ?_)
    · simp only [State.setMark_partner]
      exact not_or.2 ⟨notLater, unpairedLater⟩
    · rwa [State.setMark_partner]

/-- What a run of mark changes has restaged stands at its end as if it had been handed then, whatever the order of
the run. -/
theorem State.setMarks_handsOwn (m : Mark) (l : List Slot) (s : State) (k : Slot)
    (reached : (k ∈ l ∨ ∃ n ∈ l, s.partner n = some k) ∨ s.handsOwn k) : (s.setMarks m l).handsOwn k := by
  induction l generalizing s with
  | nil => exact reached.resolve_left (by simp)
  | cons n l ih =>
    have restaged := s.setMark_restaged m n
    refine ih (s.setMark m n) ?_
    simp only [State.setMark_partner]
    by_cases self : k = n
    · exact .inr (self ▸ restaged.handsOwn_self)
    by_cases pair : s.partner n = some k
    · exact .inr (restaged.handsOwn_partner (by rwa [State.setMark_partner]))
    refine reached.imp (fun now => ?_) fun before => ?_
    · simpa [self, pair] using now
    · exact restaged.handsOwn_other (by simp) (s.setMark_partner m n k) self (by rwa [State.setMark_partner]) before

/-- The fan channels after a run of mark changes, in terms of the own staged duties that it leaves. -/
theorem State.setMarks_fan (m : Mark) (l : List Slot) (s : State) (k : Slot) (own : Slot → Nat)
    (own_eq : ∀ n, own n =
      if n ∈ l then min (s.fan n).ramp (fanCeiling ((s.setMarks m l).sec n)) else (s.fan n).ownStaged) :
    (s.setMarks m l).fan k =
      if k ∈ l ∨ ∃ n ∈ l, s.partner n = some k then
        { s.fan k with ownStaged := own k, gen := { (s.fan k).gen with stagedDuty := s.handed k own } }
      else s.fan k := by
  have staged : (fun n => ((s.setMarks m l).fan n).ownStaged) = own :=
    funext fun n => (s.setMarks_ownStaged m l n).trans (own_eq n).symm
  split
  · next reached =>
    have handed := s.setMarks_handsOwn m l k (.inl reached)
    rw [s.setMarks_fan_shape m l k, handed, staged, congrFun staged k]
    simp [State.handed, State.setMarks_partner]
  · next other => exact s.setMarks_fan_other m l k other

/-! ### A release (R136) -/

theorem State.release_sec (s : State) (k : Slot) :
    s.release.sec k =
      if k ∈ s.search.isolated then
        { s.sec k with
          mark := .none
          refreshTimer :=
            if (s.sec k).config.valveNode = none then (s.sec k).refreshTimer else some (s.expiryIn 10) }
      else s.sec k := by
  rw [State.release, State.modSearch_sec, State.setMarks_sec]

theorem State.release_filter_txQueue (s : State) :
    s.release.txQueue.filter (fun e => e.slot ∉ s.search.isolated) =
      s.txQueue.filter fun e => e.slot ∉ s.search.isolated := by
  rw [State.release, State.modSearch_txQueue, State.setMarks_filter_txQueue]
  simp

theorem State.release_line_of_unmasked (s : State) (k : LineId)
    (unmasked : ∀ n ∈ s.search.isolated, (s.line k).mask.getLsbD (Fin.val n) = false) :
    s.release.line k = s.line k := by
  rw [State.release, State.modSearch_line, State.setMarks_line_of_unmasked .none _ s k unmasked]

theorem State.release_fan (s : State) (k : Slot) (own : Slot → Nat)
    (own_eq : ∀ n, own n =
      if n ∈ s.search.isolated then min (s.fan n).ramp (fanCeiling (s.release.sec n)) else (s.fan n).ownStaged) :
    s.release.fan k =
      if k ∈ s.search.isolated ∨ ∃ n ∈ s.search.isolated, s.partner n = some k then
        { s.fan k with ownStaged := own k, gen := { (s.fan k).gen with stagedDuty := s.handed k own } }
      else s.fan k := by
  rw [State.release, State.modSearch_fan]
  exact s.setMarks_fan .none s.search.isolated k own fun n => by
    rw [own_eq, State.release, State.modSearch_sec]

theorem State.release_frame (s : State) :
    s.release =
      { s with
        sections := s.release.sections, fans := s.release.fans, txQueue := s.release.txQueue
        lines := s.release.lines, search := s.release.search } := by
  apply State.eq_of_fields <;> simp
  rfl

/-! ### The request -/

theorem exec_searchStop_of_taking (s : State) (dt : Nat) (j : Byte) (p : List Byte) (h : s.taking) :
    exec (.searchStop dt j p) s = .next ((s.atTake dt).take 65 (searchStopRequest j p (s.atTake dt))) :=
  congrArg Host.Outcome.next (s.request_of_taking dt 65 _ h)

theorem exec_searchStop_accepted (s : State) (dt : Nat) (h : s.taking) :
    exec (.searchStop dt 0 []) s =
      .next ((s.atTake dt).stopSearch.putReply { status := .done, kind := 65, payload := [] }) :=
  exec_searchStop_of_taking s dt 0 [] h

theorem State.stopSearch_of_idle {s : State} (h : s.search.state = .idle) : s.stopSearch = s := by
  rw [State.stopSearch, h]

theorem State.stopSearch_of_held {s : State} (h : s.search.state = .held) :
    s.stopSearch = s.release.modSearch SearchContext.toIdle := by
  rw [State.stopSearch, h]

theorem State.stopSearch_of_probing {s : State} (notIdle : s.search.state ≠ .idle)
    (notHeld : s.search.state ≠ .held) : s.stopSearch = s.endSearch .stopped := by
  cases h : s.search.state with
  | idle => exact absurd h notIdle
  | held => exact absurd h notHeld
  | settling | observing | resting | suspended => rw [State.stopSearch, h]

/-- Of the loops, an ending changes the record of the search's own loop alone, whose monitor begins a window (R84). -/
theorem State.endSearch_loops (s : State) (r : SearchResult) {l : LoopId} (h : s.search.loopOf = some l) :
    (s.endSearch r).loops =
      tabSet s.loops l
        { s.loopRec l with
          leakTimer := some (s.expiryIn (s.loopRec l).config.leakWindow)
          leakLength := (s.loopRec l).config.leakWindow
          leakWindow := .empty } := by
  have loop : ((s.release.modSearch fun c => { c.toIdle with result := r }).post .searchEnd 0).search.loopOf =
      some l := by
    simp [State.release_search, SearchContext.toIdle, h]
  unfold State.endSearch State.resumeMonitor
  rw [loop]
  simp [State.beginWindow, State.modLoop, State.loopRec, State.expiryIn, State.tenths]

/-- Settles O43: the refusals through the take, HELD through the release's mark changes, and a probing search through
its ending. -/
theorem searchStopReleases : Obligations.SearchStopReleases := by
  intro s dt j p taking isolated own
  refine ⟨fun subject => ?_, fun payload => ?_, fun idle => ?_, fun held => ?_, fun notIdle notHeld => ?_⟩
  · have nonzero : j.toNat ≠ 0 := fun zero => subject (BitVec.eq_of_toNat_eq zero)
    rw [exec_searchStop_of_taking s dt j p taking, searchStopRequest, if_pos nonzero, State.take_no]
  · have nonempty : p.length ≠ 0 := by simpa using payload
    rw [exec_searchStop_of_taking s dt 0 p taking, searchStopRequest, if_neg (by simp), if_pos nonempty, State.take_no]
  · rw [exec_searchStop_accepted s dt taking, State.stopSearch_of_idle (s := s.atTake dt) idle]
    rfl
  · rw [exec_searchStop_accepted s dt taking, State.stopSearch_of_held (s := s.atTake dt) held]
    refine ⟨_, rfl, ?_, fun n => ?_, fun n mem valve => ?_, ?_, fun n => ?_, fun k unmasked => ?_, ?_⟩
    · rw [State.putReply_search, State.modSearch_search, State.release_search]
      rfl
    · rw [State.putReply_sec, State.modSearch_sec, State.release_sec]
      rfl
    · rw [State.putReply_txQueue, State.modSearch_txQueue]
      exact openPosted_release (s.atTake dt) n mem valve
    · rw [State.putReply_txQueue, State.modSearch_txQueue]
      exact (s.atTake dt).release_filter_txQueue
    · rw [State.putReply_fan, State.modSearch_fan]
      refine (s.atTake dt).release_fan n (own _) fun m => ?_
      simp only [own, State.putReply_sec, State.modSearch_sec]
      rfl
    · rw [State.putReply_line, State.modSearch_line]
      exact (s.atTake dt).release_line_of_unmasked k unmasked
    · have frame := (s.atTake dt).release_frame
      generalize (s.atTake dt).release = u at frame ⊢
      conv_lhs => rw [frame]
      rfl
  · rw [exec_searchStop_accepted s dt taking, State.stopSearch_of_probing (s := s.atTake dt) notIdle notHeld]
    have ended := searchEnded_endSearch (s.atTake dt) .stopped
    have ⟨_, _, _, opened, _⟩ := ended
    exact ⟨_, rfl, ended, rfl, opened, fun l loop => (s.atTake dt).endSearch_loops .stopped loop⟩

end Sys2Proof.Machine
end

section
/-! PROOF. A posting (R163), and ATTENTION LEVELS (R167): the bytes of the twelve levels, the payload that carries them,
and what the request answers. -/

namespace Sys2Proof.Machine

open Sys2Proof

/-! ### Postings and removals (R163, R164) -/

theorem State.mem_dropCauses (s : State) (removed : Cause → Bool) (c : Cause) :
    c ∈ (s.dropCauses removed).attention ↔ c ∈ s.attention ∧ removed c = false := by
  simp [State.dropCauses]

theorem State.post_of_mem {s : State} {kind : CauseKind} {subject : Nat} (kept : s.attentionKept)
    (present : { kind, subject } ∈ s.attention) : s.post kind subject = s := by
  rw [State.post, insertCause_of_mem _ _ kept.1 present]

theorem State.mem_post_comm (s : State) (kind other : CauseKind) (subject place : Nat) (c : Cause) :
    c ∈ ((s.post kind subject).post other place).attention ↔
      c ∈ ((s.post other place).post kind subject).attention := by
  simp only [State.mem_post, or_right_comm]

/-- Settles O45, from what a posting and a removal leave in the set. -/
theorem postingOnlyAddsItsCause : Obligations.PostingOnlyAddsItsCause := by
  intro s kind subject kept cause
  refine ⟨s.mem_post kind subject, State.post_of_mem kept, rfl, fun levels => rfl,
    fun other place => s.mem_post_comm kind other subject place, fun removed removes => ⟨fun left => ?_, ?_⟩⟩
  · obtain ⟨_, stays⟩ := (State.mem_dropCauses ..).mp left
    exact Bool.noConfusion (removes.symm.trans stays)
  · exact (State.mem_post ..).mpr (.inr rfl)

/-! ### The bytes of the levels (R167) -/

theorem CauseKind.index_val (k : CauseKind) : k.index.val = k.code - 1 := by
  cases k <;> rfl

theorem levelOf_reset (k : CauseKind) : State.reset.levelOf k = if k.code ≤ 6 then .high else .low := by
  cases k <;> rfl

theorem put8_levelCode (x : CauseLevel) : put8 x.code = [if x = .high then 0 else 1] := by
  cases x <;> rfl

theorem State.levelsView_eq_map (s : State) :
    s.levelsView = s.levels.toList.map fun x => if x = .high then 0 else 1 := by
  simp only [State.levelsView, put8_levelCode, List.map_eq_flatMap]

theorem levelOfCode_eq_ite (b : Byte) : levelOfCode b = if b = 0 then .high else .low := by
  have zero : b.toNat = 0 ↔ b = 0 := by bv_omega
  simp only [levelOfCode, zero]

/-- A defined level code, read and written again. -/
theorem levelByte_levelOfCode {b : Byte} (defined : b.toNat < 2) :
    (if levelOfCode b = .high then (0 : Byte) else 1) = b := by
  have code : b = 0 ∨ b = 1 := by bv_omega
  obtain rfl | rfl := code <;> rfl

/-- Twelve defined codes, read and written again: the reply that carries the new levels repeats the payload. -/
theorem levelBytes_fieldLevels {p : List Byte} (twelve : p.length = 12) (defined : ∀ b ∈ p, b.toNat < 2) :
    ((fieldLevels p).toList.map fun x => if x = .high then (0 : Byte) else 1) = p := by
  apply List.ext_getElem
  · simp [twelve]
  · intro i _ inPayload
    simp only [fieldLevels, tabMk, Vector.toList_ofFn, List.getElem_map, List.getElem_ofFn,
      List.getD_eq_getElem _ _ inPayload]
    exact levelByte_levelOfCode (defined _ (List.getElem_mem inPayload))

/-! ### The request -/

theorem exec_attentionLevels_of_taking (s : State) (dt : Nat) (j : Byte) (p : List Byte) (h : s.taking) :
    exec (.attentionLevels dt j p) s =
      .next ((s.atTake dt).take 81 (attentionLevelsRequest j p (s.atTake dt))) :=
  congrArg Host.Outcome.next (s.request_of_taking dt 81 _ h)

theorem attentionLevelsRequest_accepted (s : State) {p : List Byte} (twelve : p.length = 12)
    (defined : ∀ b ∈ p, b.toNat < 2) :
    attentionLevelsRequest 0 p s = .answer { s with levels := fieldLevels p } p := by
  have known : ¬ (p.any fun b => 2 ≤ b.toNat) = true := by simpa using defined
  rw [attentionLevelsRequest, if_neg (by simp), if_neg (by omega), if_neg (by omega), if_neg known]
  simp only [State.levelsView_eq_map, levelBytes_fieldLevels twelve defined]

/-- Settles O47, case by case in the order in which the request is judged. -/
theorem attentionLevelsReorder : Obligations.AttentionLevelsReorder := by
  refine ⟨levelOf_reset, ?_⟩
  intro s dt j p taking bytes
  have view : (s.atTake dt).levelsView = bytes s.levels := (s.atTake dt).levelsView_eq_map
  rw [exec_attentionLevels_of_taking s dt j p taking]
  refine ⟨fun subject => ?_, ?_, ?_, ?_, ?_⟩
  · have other : j.toNat ≠ 0 := by bv_omega
    rw [attentionLevelsRequest, if_pos other, view, State.take_refuse]
  all_goals rintro rfl
  · rintro rfl
    rw [attentionLevelsRequest, if_neg (by simp), if_pos List.length_nil, view, State.take_answer_self]
  · intro nonempty length
    rw [attentionLevelsRequest, if_neg (by simp), if_neg (by simpa using nonempty), if_pos length, view,
      State.take_refuse]
  · intro twelve undefined
    rw [attentionLevelsRequest, if_neg (by simp), if_neg (by omega), if_neg (by omega),
      if_pos (by simpa using undefined), view, State.take_refuse]
  · intro twelve defined
    rw [attentionLevelsRequest_accepted _ twelve defined]
    refine ⟨_, rfl, fun k => ?_, rfl⟩
    rw [← CauseKind.index_val, ← levelOfCode_eq_ite]
    exact tabGet_tabMk _ k.index

end Sys2Proof.Machine
end

section
/-! PROOF. NULL (R178): the bytes of the reply frame it collects, what its transaction shifts out, and what its take
leaves behind. -/

namespace Sys2Proof

/-! ### The frame (section 9.2) -/

@[simp] theorem byteSum_singleton (b : Byte) : byteSum [b] = b := by simp [byteSum]

/-- Padding does not move the sum. -/
@[simp] theorem byteSum_replicate_zero (n : Nat) : byteSum (List.replicate n 0) = 0 := by
  induction n with
  | zero => rfl
  | succ n ih => rw [List.replicate_succ, byteSum, List.foldr_cons, ← byteSum, ih, add_zero]

/-- The check byte is the head's sum negated, so that the whole frame sums to 0. -/
theorem byteSum_encodeFrame (first second : Byte) (payload : List Byte) :
    byteSum (encodeFrame first second payload) = 0 := by
  simp only [encodeFrame, byteSum_append, byteSum_singleton, byteSum_replicate_zero, add_zero, add_neg_cancel]

namespace Machine

/-! ### A transaction that the part answers (R168, R176) -/

theorem State.beginTransaction_of_ready {s : State} (idle : s.link = .idle) (awake : s.inReset = false)
    (ready : s.readyAt ≤ s.time) : s.beginTransaction = { s with link := .answering s.reply false } := by
  simp [State.beginTransaction, State.replyIsReady, idle, awake, ready]

theorem State.shiftedOut_of_answering {s : State} {f : Reply} {notReady : Bool} (link : s.link = .answering f notReady)
    (awake : s.inReset = false) (i : Nat) : s.shiftedOut i = some (f.bytes.getD i 0) := by
  simp [State.shiftedOut, link, awake]

theorem exec_transactionBegin_of_ready (s : State) (dt : Nat) (idle : s.link = .idle) (awake : s.inReset = false)
    (ready : s.readyAt ≤ s.time + dt) :
    exec (.transactionBegin dt) s = .next { s with time := s.time + dt, link := .answering s.reply false } :=
  congrArg Host.Outcome.next (State.beginTransaction_of_ready (s := s.advance dt) idle awake ready)

/-- An answer keeps nothing of the phase of the link, and the time before the transaction joins the time within it. -/
theorem State.answered_within (s : State) (dt dt' kind : Nat) (link : LinkPhase) (status : Status)
    (payload : List Byte) :
    State.answered { s with time := s.time + dt, link } dt' kind status payload =
      s.answered (dt + dt') kind status payload := by
  simp only [State.answered, State.atTake, State.advance, Nat.add_assoc]

/-! ### The request -/

theorem exec_null_of_taking (s : State) (dt : Nat) (j : Byte) (p : List Byte) (h : s.taking) :
    exec (.null dt j p) s = .next (s.answered dt 0 .done []) :=
  congrArg Host.Outcome.next ((s.request_of_taking dt 0 nullRequest h).trans (s.take_ok_self dt 0))

/-- Settles O50: the bytes from the layout of a frame, and the transaction from its beginning and the take that ends
it. -/
theorem nullCollectsTheReply : Obligations.NullCollectsTheReply := by
  refine ⟨rfl, fun r fits => ⟨_, rfl, encodeFrame_length _ _ _ fits, byteSum_encodeFrame _ _ _⟩, fun s j p =>
    ⟨fun dt => exec_null_of_taking s dt j p, fun dt dt' t idle awake ready begun => ?_⟩⟩
  rw [exec_transactionBegin_of_ready s dt idle awake ready] at begun
  have begins := (Host.Outcome.next.inj begun).symm
  have link : t.link = .answering s.reply false := congrArg State.link begins
  have awakeWithin : t.inReset = false := (congrArg State.inReset begins).trans awake
  refine ⟨State.shiftedOut_of_answering link awakeWithin, ?_⟩
  rw [exec_null_of_taking t dt' j p ⟨awakeWithin, .inr ⟨s.reply, link⟩⟩, begins, State.answered_within]

end Machine
end Sys2Proof
end

section
/-! PROOF. What a step can do, said once: every command is a chain of the moves listed here, each a change of the state
that keeps the invariants of O54 to O59. Each invariant is then proved move by move. -/

namespace Sys2Proof.Machine

open Sys2Proof

/-! ### The moves -/

/-- Two states that differ at most in time, in the receiver and the transmitter and in the link: in nothing that an
invariant looks at. -/
def SameRecords (s t : State) : Prop :=
  t =
    { s with
      time := t.time, seen := t.seen, transmission := t.transmission, busIdleFrom := t.busIdleFrom
      receiverSynced := t.receiverSynced, levels := t.levels, link := t.link, reply := t.reply
      readyAt := t.readyAt, freeCount := t.freeCount, pending := t.pending }

/-- What RETIRE does before it reaches the search and the drain conditions (R24, R25, R161). -/
def State.retireRecords (s : State) (n : Slot) : State :=
  let l := (s.sec n).config.loopOf
  let s := s.modSec n fun r => { r with slot := .retiring, evalTimer := none, fanDrained := false }
  let s := s.modSec (leadOf n) fun r => { r with config := { r.config with gangFlag := false } }
  let s := ((s.unbindSection n).dropSectionCauses n).leaveQueue n
  let s := (s.restagePair n).retireValve n
  ((s.leaveMasks n).decidePump l).formColdest l

/-- A change of protection state up to what it posts and tells the search (R57 to R59). -/
def State.setProtection (s : State) (n : Slot) (p : Protection) : State :=
  let s := s.modSec n fun r => { r with protection := p }
  ((s.restage n).decidePump (s.sec n).config.loopOf).evalLines n

/-- The capture of a value into an OUTLET destination, with its hand-off (R10, R28, R102). -/
def State.captureOutlet (s : State) (n : Slot) (v : Destination) : State :=
  let s := (s.setDest (.outlet n) v).becomeLive n
  (if (s.sec n).slot = .live then s.joinQueue n else s).evalLines n

/-- What may become of a slot when a drain condition is judged: nothing, or of a RETIRING one a condition met, or both
and the slot VACANT (R26). -/
inductive Drain (s : State) (n : Slot) : State → Prop
  | unmet : Drain s n s
  | met (fan valve : Bool) (retiring : (s.sec n).slot = .retiring) :
      Drain s n (s.modSec n fun r => { r with fanDrained := fan, valveDrained := valve })
  | cleared (retiring : (s.sec n).slot = .retiring) :
      Drain s n ((s.disableFan n).modSec n fun _ => SectionRecord.cleared)

/-- The moves of the search, each from the state of the search in which it is made. -/
inductive SearchMove (s : State) : State → Prop
  | context (f : SearchContext → SearchContext) (state : (f s.search).state = s.search.state)
      (isolated : (f s.search).isolated = s.search.isolated) : SearchMove s (s.modSearch f)
  | ends (r : SearchResult) : SearchMove s (s.endSearch r)
  | settles (state : s.search.state = .settling) : SearchMove s s.judgeSettling
  | rests (state : s.search.state = .resting) : SearchMove s s.judgeResting
  | resumes (state : s.search.state = .suspended) : SearchMove s s.judgeSuspended
  | entersRest : SearchMove s s.enterResting
  | holds : SearchMove s s.holdUnit
  | preempts : SearchMove s s.preempt
  | starts (l : LoopId) (state : s.search.state = .idle) : SearchMove s (s.startSearch l)
  | releasesHeld : SearchMove s (s.release.modSearch SearchContext.toIdle)

/-- The moves of a step. -/
inductive Move (s : State) : State → Prop
  | same {t : State} (records : SameRecords s t) : Move s t
  | post (k : CauseKind) (i : Nat) (subject : i < k.subjects) : Move s (s.post k i)
  | drop (p : Cause → Bool) : Move s (s.dropCauses p)
  | search {t : State} (move : SearchMove s t) : Move s t
  -- section records
  | enrol (n : Slot) (c : SectionConfig) (vacant : (s.sec n).slot = .vacant) (ordered : c.ordered = true) :
      Move s (s.enrol n c)
  | record (n : Slot) (f : SectionRecord → SectionRecord)
      (others : f (s.sec n) =
        { s.sec n with
          config := (f (s.sec n)).config, hostDemand := (f (s.sec n)).hostDemand
          refreshTimer := (f (s.sec n)).refreshTimer })
      (loop : (f (s.sec n)).config.loopOf = (s.sec n).config.loopOf)
      (gang : (f (s.sec n)).config.gangFlag = (s.sec n).config.gangFlag)
      (ordered : (s.sec n).config.ordered = true → (f (s.sec n)).config.ordered = true) : Move s (s.modSec n f)
  | gang (n : Slot) (on : Bool) :
      Move s ((s.modSec n fun r => { r with config := { r.config with gangFlag := on } }).restagePair n)
  | active (n : Slot) (m : LimitSet) (ordered : (s.sec n).config.ordered = true → m.ordered = true) :
      Move s ((s.modSec n fun r => { r with active := m }).restage n)
  | protect (n : Slot) (p : Protection) : Move s (s.setProtection n p)
  | retire (n : Slot) (inService : (s.sec n).slot.inService = true) (unprobed : (s.sec n).mark ≠ .probe) :
      Move s (s.retireRecords n)
  | drain (n : Slot) {t : State} (drains : Drain s n t) : Move s t
  | join (n : Slot) (timer : (s.sec n).evalTimer ≠ none) :
      Move s ((s.modSec n fun r => { r with evalTimer := none }).joinQueue n)
  | evaluated (n : Slot) (rest : List Slot) (e : EvalRecord) (now : Nat) (front : s.evalQueue = n :: rest) :
      Move s ({ s with evalQueue := rest }.modSec n fun r => r.evaluated e now)
  -- destinations and bindings
  | dest (d : DestField) (v : Destination) (kept : (s.dest d).kept → v.kept) :
      Move s ((s.setDest d v).evalLinesOf d)
  | window (d : DestField) : Move s (s.setDest d { s.dest d with combineTimer := none })
  | outlet (n : Slot) (v : Destination) (kept : v.kept) : Move s (s.captureOutlet n v)
  | binding (b : BindingId) (v : BindingState)
      (fits : ∀ f, v.fields = some f →
        (s.binding b).fields = some f ∨
          s.outOfService f.dest = false ∧ fieldKind f.dest = f.kind ∧
            ∀ c, c ≠ b → (s.binding c).feeds f.dest = false) :
      Move s (s.setBinding b v)
  -- the transmit queue
  | entries (q : List QueueEntry) (kept : s.entriesKept → (q.map (·.slot)).Nodup) : Move s { s with txQueue := q }
  -- loops and pumps
  | loop (l : LoopId) (f : LoopRecord → LoopRecord)
      (others : f (s.loopRec l) =
        { s.loopRec l with
          config := (f (s.loopRec l)).config, coldest := (f (s.loopRec l)).coldest
          hostDemand := (f (s.loopRec l)).hostDemand, leakTimer := (f (s.loopRec l)).leakTimer
          leakLength := (f (s.loopRec l)).leakLength, leakWindow := (f (s.loopRec l)).leakWindow
          lastResult := (f (s.loopRec l)).lastResult, autoOutcome := (f (s.loopRec l)).autoOutcome })
      (floors : (f (s.loopRec l)).config.frostFloor = (s.loopRec l).config.frostFloor ∧
        (f (s.loopRec l)).config.defendFloor = (s.loopRec l).config.defendFloor ∧
        (f (s.loopRec l)).config.stopDuty = (s.loopRec l).config.stopDuty) : Move s (s.modLoop l f)
  | decided (l : LoopId) (f : LoopRecord → LoopRecord)
      (others : f (s.loopRec l) =
        { s.loopRec l with
          config := (f (s.loopRec l)).config, ramp := (f (s.loopRec l)).ramp
          rampTimer := (f (s.loopRec l)).rampTimer }) : Move s ((s.modLoop l f).decidePump l)
  | becomeSet (l : LoopId) (c : LoopConfig) : Move s (s.becomeSet l c)
  | unsetLoop (l : LoopId) : Move s (s.unsetLoop l)
  | regime (l : LoopId) (g : Regime) : Move s (s.changeRegime l g)
  | pump (l : LoopId) (f : Channel → Channel) (staged : (f (s.pump l)).stagedDuty = (s.pump l).stagedDuty) :
      Move s (s.modPump l f)
  | curves (a b : Vector Int 9) (ordered : s.curvesKept → curveOrdered a = true ∧ curveOrdered b = true) :
      Move s { s with curveA := a, curveB := b }
  -- fans
  | fan (n : Slot) (g : Channel → Channel) (staged : ∀ c, (g c).stagedDuty = c.stagedDuty)
      (enabled : ∀ c, (g c).enabled = c.enabled) : Move s (s.modFan n fun f => { f with gen := g f.gen })
  | fanRamp (n : Slot) (f : FanChannel → FanChannel)
      (others : f (s.fan n) =
        { s.fan n with ramp := (f (s.fan n)).ramp, rampTimer := (f (s.fan n)).rampTimer }) :
      Move s ((s.modFan n f).restage n)
  | configure (c : DriveConfig) (vacant : ∀ n, (s.sec n).slot = .vacant) : Move s (s.configure c)
  -- lines
  | line (k : LineId) (mask : BitVec 24) (code : Fin 8)
      (inService : ∀ n : Slot, mask.getLsbD n.val = true → (s.sec n).slot.inService = true) :
      Move s (s.setLine k mask code)
  | delay (k : LineId) (running : (s.line k).timer ≠ none) :
      Move s (s.modLine k fun c => { c with timer := none, state := .asserted })
  -- the stop input and the resets
  | assertStop (awake : s.inReset = false) (high : s.stopLow = false) :
      Move s ((allSlots.foldl State.stopFan { s with stopLow := true }).decidePumps)
  | releaseStop (awake : s.inReset = false) (low : s.stopLow = true) : Move s s.releaseStop
  | stopInReset (low : Bool) (asleep : s.inReset = true) : Move s { s with stopLow := low }
  | assertReset : Move s s.assertReset
  | reset {t : State}
      (fresh : t =
        { State.reset with
          resetPin := t.resetPin, stopLow := t.stopLow, resetCause := t.resetCause, link := t.link
          freeCount := t.freeCount, pending := t.pending }) : Move s t

/-- A chain of moves. -/
abbrev Reaches : State → State → Prop := Relation.ReflTransGen Move

theorem Move.reaches {s t : State} (move : Move s t) : Reaches s t := .single move

/-- What every move keeps, every chain of moves keeps. -/
theorem Reaches.keeps {I : State → Prop} (kept : ∀ s t, Move s t → I s → I t) {s t : State} (chain : Reaches s t)
    (before : I s) : I t := by
  induction chain with
  | refl => exact before
  | tail _ move ih => exact kept _ _ move ih

/-! ### The drain conditions -/

theorem State.checkFanDrain_drains (s : State) (n : Slot) : Drain s n (s.checkFanDrain n) := by
  rw [State.checkFanDrain_eq]
  split
  · next met =>
    split
    · exact .cleared met.1
    · exact .met true (s.sec n).valveDrained met.1
  · exact .unmet

theorem State.meetValveDrain_eq (s : State) (n : Slot) :
    s.meetValveDrain n =
      if (s.sec n).slot = .retiring then
        if (s.sec n).fanDrained then (s.disableFan n).modSec n fun _ => .cleared
        else s.modSec n fun r => { r with valveDrained := true }
      else s := by
  unfold State.meetValveDrain State.drain
  split
  · next retiring =>
    simp only [State.modSec_sec_self, retiring, true_and, and_true]
    split
    · simp [State.disableFan, State.modFan, State.modSec, tabSet, State.fanActiveLow]
    · rfl
  · rfl

theorem State.meetValveDrain_drains (s : State) (n : Slot) : Drain s n (s.meetValveDrain n) := by
  rw [State.meetValveDrain_eq]
  split
  · next retiring =>
    split
    · exact .cleared retiring
    · exact .met (s.sec n).fanDrained true retiring
  · exact .unmet

theorem Move.fanDrain {s : State} (n : Slot) : Move s (s.checkFanDrain n) := .drain n (s.checkFanDrain_drains n)

theorem Move.valveDrain {s : State} (n : Slot) : Move s (s.meetValveDrain n) := .drain n (s.meetValveDrain_drains n)

/-! ### Chains of the operations that several commands share -/

theorem SameRecords.reaches {s t : State} (records : SameRecords s t) : Reaches s t := (Move.same records).reaches

theorem SearchMove.reaches {s t : State} (move : SearchMove s t) : Reaches s t := (Move.search move).reaches

theorem reaches_postAll (k : CauseKind) (subjects : k.subjects = 24) (l : List Slot) (s : State) :
    Reaches s (s.postAll k l) := by
  induction l generalizing s with
  | nil => exact .refl
  | cons n l ih => exact .head (.post k n.val (by rw [subjects]; exact n.isLt)) (ih _)

theorem reaches_dest (s : State) (d : DestField) (v : Destination) (kept : (s.dest d).kept → v.kept) :
    Reaches s ((s.setDest d v).evalLinesOf d) := (Move.dest d v kept).reaches

theorem reaches_valveFault (s : State) (l : List Slot) : Reaches s (s.valveFault l) :=
  (SearchMove.ends .valveFault).reaches.trans (reaches_postAll .valveFault rfl l _)

theorem reaches_makeAwaiting (s : State) (d : DestField) : Reaches s (s.makeAwaiting d) :=
  (Move.dest d .awaiting fun _ => by simp [Destination.kept, Destination.awaiting]).reaches

/-- A command's own valve entry is posted in the place of the section's old one, so no section gets a second. -/
theorem postEntry_slots_nodup (n : Slot) (c : ValveCommand) (q : List QueueEntry)
    (h : (q.map (·.slot)).Nodup) : ((postEntry n c q).map (·.slot)).Nodup := by
  induction q with
  | nil => simp [postEntry]
  | cons e q ih =>
    simp only [List.map_cons, List.nodup_cons] at h
    unfold postEntry
    split
    · next same => simpa [← same] using h
    · next other =>
      simp only [List.map_cons, List.nodup_cons, List.mem_map, not_exists, not_and]
      refine ⟨fun d hd same => ?_, ih h.2⟩
      rcases slot_of_mem_postEntry n c q d hd with new | old
      · exact other (same.symm.trans new)
      · exact h.1 (List.mem_map.mpr ⟨d, old, same⟩)

theorem reaches_postValve (s : State) (n : Slot) (c : ValveCommand) : Reaches s (s.postValve n c) :=
  (Move.entries _ (postEntry_slots_nodup n c s.txQueue)).reaches

end Sys2Proof.Machine
end

section
/-! PROOF. Each command is a chain of the moves: the requests by their owners' verdicts, the events one by one, and so
the step. -/

namespace Sys2Proof.Machine

open Sys2Proof

/-! ### Verdicts -/

/-- A verdict leaves nothing but what moves lead to. -/
def Verdict.Allowed (u : State) : Verdict → Prop
  | .refuse _ _ => True
  | .accept after _ _ => Reaches u after
  | .restart after => Reaches u after

theorem Verdict.allowed_no (u : State) (status : Status) : (Verdict.no status).Allowed u := trivial

theorem Verdict.allowed_ok {u after : State} (chain : Reaches u after) : (Verdict.ok after).Allowed u := chain

theorem Verdict.allowed_okClamped {u after : State} (clamped : Bool) (chain : Reaches u after) :
    (Verdict.okClamped after clamped).Allowed u := chain

theorem Verdict.allowed_answer {u after : State} (p : List Byte) (chain : Reaches u after) :
    (Verdict.answer after p).Allowed u := chain

/-- A check that refuses, and what follows it. -/
theorem Verdict.allowed_unless {P : Prop} [Decidable P] {u : State} {status : Status} {v : Verdict}
    (passed : ¬ P → v.Allowed u) : (if P then .no status else v).Allowed u := by
  split
  · trivial
  · next fails => exact passed fails

theorem State.reaches_take (u : State) (kind : Nat) {v : Verdict} (allowed : v.Allowed u) :
    Reaches u (u.take kind v) := by
  cases v with
  | refuse status payload => exact SameRecords.reaches rfl
  | accept after status payload => exact allowed.tail (.same rfl)
  | restart after => exact allowed

theorem State.reaches_request (s : State) (dt kind : Nat) {owner : State → Verdict}
    (allowed : ∀ u, (owner u).Allowed u) : Reaches s (s.request dt kind owner) := by
  unfold State.request State.endTransaction
  split
  · exact SameRecords.reaches rfl
  · exact SameRecords.reaches rfl
  all_goals
    split
    · exact SameRecords.reaches rfl
    · exact (SameRecords.reaches (by rfl)).trans (State.reaches_take _ kind (allowed _))

theorem onSlot_allowed {u : State} (j : Byte) {owner : Slot → Verdict} (h : ∀ n, (owner n).Allowed u) :
    (onSlot j owner).Allowed u := by
  unfold onSlot
  split
  · exact h _
  · trivial

theorem onLoop_allowed {u : State} (j : Byte) {owner : LoopId → Verdict} (h : ∀ l, (owner l).Allowed u) :
    (onLoop j owner).Allowed u := by
  unfold onLoop
  split
  · exact h _
  · trivial

theorem onBinding_allowed {u : State} (j : Byte) {owner : BindingId → Verdict} (h : ∀ b, (owner b).Allowed u) :
    (onBinding j owner).Allowed u := by
  unfold onBinding
  split
  · exact h _
  · trivial

theorem onLine_allowed {u : State} (j : Byte) {owner : LineId → Verdict} (h : ∀ k, (owner k).Allowed u) :
    (onLine j owner).Allowed u := by
  unfold onLine
  split
  · exact h _
  · trivial

theorem ifInService_allowed {u : State} (r : SectionRecord) {owner : Verdict}
    (h : r.slot.inService = true → owner.Allowed u) : (ifInService r owner).Allowed u := by
  cases slot : r.slot with
  | vacant => rw [ifInService_of_vacant r owner slot]; trivial
  | retiring => rw [ifInService_of_retiring r owner slot]; trivial
  | starting | live =>
    have inService : r.slot.inService = true := by rw [slot]; rfl
    rw [ifInService_of_inService r owner inService]
    exact h inService

/-! ### The section requests -/

theorem SectionConfig.ordered_iff (c : SectionConfig) :
    c.ordered = true ↔ c.thresholdsOrdered = true ∧ c.mild.ordered = true ∧ c.frost.ordered = true := by
  simp [SectionConfig.ordered, and_assoc]

theorem enrolRequest_allowed (j : Byte) (p : List Byte) (u : State) : (enrolRequest j p u).Allowed u := by
  unfold enrolRequest
  refine onSlot_allowed j fun n => ?_
  dsimp only
  split_ifs with _ vacant _ _ _ _ ordered <;> try trivial
  split
  · trivial
  · exact (Move.enrol n _ (not_not.mp vacant) (by simpa using ordered)).reaches

theorem amendFlow_allowed (n : Slot) (p : List Byte) (u : State) : (amendFlow n p u).Allowed u := by
  unfold amendFlow
  dsimp only
  split_ifs
  · trivial
  · exact Verdict.allowed_okClamped _ (Move.record n _ rfl rfl rfl id).reaches

theorem amendThresholds_allowed (n : Slot) (p : List Byte) (u : State) : (amendThresholds n p u).Allowed u := by
  unfold amendThresholds
  dsimp only
  split_ifs with _ ordered
  · trivial
  · trivial
  · refine Verdict.allowed_okClamped _ (Move.record n _ rfl rfl rfl fun before => ?_).reaches
    rw [SectionConfig.ordered_iff] at before ⊢
    exact ⟨by simpa using ordered, before.2⟩

theorem amendStaleness_allowed (n : Slot) (p : List Byte) (u : State) : (amendStaleness n p u).Allowed u := by
  unfold amendStaleness
  dsimp only
  split_ifs
  · trivial
  · exact Verdict.allowed_okClamped _ (Move.record n _ rfl rfl rfl id).reaches

theorem amendRamp_allowed (n : Slot) (p : List Byte) (u : State) : (amendRamp n p u).Allowed u := by
  unfold amendRamp
  refine Verdict.allowed_unless fun _ => Verdict.allowed_unless fun _ => ?_
  exact Verdict.allowed_okClamped _ (Move.record n _ rfl rfl rfl id).reaches

theorem reaches_removeEntry (s : State) (n : Slot) : Reaches s (s.removeEntry n) :=
  .head (.entries (s.txQueue.filter (·.slot != n)) fun kept =>
    List.Nodup.sublist (List.filter_sublist.map _) kept) (SameRecords.reaches rfl)

theorem reaches_setValveNode (s : State) (n : Slot) (node : Option Byte) : Reaches s (s.setValveNode n node) := by
  unfold State.setValveNode
  dsimp only
  have posted : Reaches s (if node.isSome = true then (s.removeEntry n).postValve n .toOpen else s.removeEntry n) := by
    split
    · exact (reaches_removeEntry s n).trans (reaches_postValve _ n _)
    · exact reaches_removeEntry s n
  generalize (if node.isSome = true then (s.removeEntry n).postValve n .toOpen else s.removeEntry n) = u at posted
  exact posted.tail (.record n _ rfl rfl rfl id)

theorem amendValve_allowed (n : Slot) (p : List Byte) (u : State) : (amendValve n p u).Allowed u := by
  unfold amendValve
  split_ifs
  · trivial
  · trivial
  · trivial
  · exact reaches_setValveNode u n _

theorem amendGang_allowed (n : Slot) (p : List Byte) (u : State) : (amendGang n p u).Allowed u := by
  unfold amendGang
  refine Verdict.allowed_unless fun _ => Verdict.allowed_unless fun _ => ?_
  dsimp only
  split
  · trivial
  · split
    · exact Relation.ReflTransGen.refl
    · exact (Move.gang n _).reaches

theorem reaches_amendLimitSet (s : State) (n : Slot) (selector : Nat) (apply : Bool) {m : LimitSet}
    (ordered : m.ordered = true) : Reaches s (s.amendLimitSet n selector apply m) := by
  have stored (c : SectionConfig) (loop : c.loopOf = (s.sec n).config.loopOf)
      (gang : c.gangFlag = (s.sec n).config.gangFlag)
      (keeps : (s.sec n).config.ordered = true → c.ordered = true) :
      Reaches s (s.modSec n fun r => { r with config := c }) :=
    (Move.record n _ rfl loop gang keeps).reaches
  have mild := stored { (s.sec n).config with mild := m } rfl rfl fun before => by
    rw [SectionConfig.ordered_iff] at before ⊢
    exact ⟨before.1, ordered, before.2.2⟩
  have frost := stored { (s.sec n).config with frost := m } rfl rfl fun before => by
    rw [SectionConfig.ordered_iff] at before ⊢
    exact ⟨before.1, before.2.1, ordered⟩
  unfold State.amendLimitSet
  dsimp only
  split
  · split_ifs
    · exact mild.tail (.active n m fun _ => ordered)
    · exact mild
  · split_ifs
    · exact frost.tail (.active n m fun _ => ordered)
    · exact frost
  · exact (Move.active n m fun _ => ordered).reaches

theorem amendLimits_allowed (n : Slot) (p : List Byte) (u : State) : (amendLimits n p u).Allowed u := by
  unfold amendLimits
  dsimp only
  split_ifs with _ _ ordered
  · trivial
  · trivial
  · trivial
  · exact reaches_amendLimitSet u n _ _ (by simpa using ordered)

theorem amendRequest_allowed (j : Byte) (p : List Byte) (u : State) : (amendRequest j p u).Allowed u := by
  unfold amendRequest
  refine onSlot_allowed j fun n => ifInService_allowed _ fun _ => ?_
  split
  · trivial
  · exact amendFlow_allowed n p u
  · exact amendThresholds_allowed n p u
  · exact amendStaleness_allowed n p u
  · exact amendRamp_allowed n p u
  · exact amendValve_allowed n p u
  · exact amendGang_allowed n p u
  · exact amendLimits_allowed n p u
  · trivial

theorem lookupRequest_allowed (j : Byte) (p : List Byte) (u : State) : (lookupRequest j p u).Allowed u := by
  unfold lookupRequest
  refine onSlot_allowed j fun n => ?_
  split_ifs
  · trivial
  · trivial
  all_goals exact Relation.ReflTransGen.refl

theorem fanDemandRequest_allowed (j : Byte) (p : List Byte) (u : State) : (fanDemandRequest j p u).Allowed u := by
  unfold fanDemandRequest
  refine onSlot_allowed j fun n => ?_
  split_ifs
  · trivial
  · refine ifInService_allowed _ fun _ => ?_
    exact Verdict.allowed_ok (Move.record n _ rfl rfl rfl id).reaches

/-! ### A change of protection state (section 3.4) -/

theorem reaches_preempt (s : State) : Reaches s s.preempt := (SearchMove.preempts).reaches

theorem reaches_postEntry (s : State) (n : Slot) (p : Protection) : Reaches s (s.postEntry n p) := by
  cases p with
  | normal => exact .refl
  | watch => exact (Move.post .watch n.val n.isLt).reaches
  | defend => exact (Move.post .defend n.val n.isLt).reaches
  | tripped => exact (Move.post .trip n.val n.isLt).reaches

theorem reaches_tellSearch (s : State) (n : Slot) (p : Protection) : Reaches s (s.tellSearch n p) := by
  unfold State.tellSearch
  dsimp only
  split
  · split_ifs
    · exact reaches_preempt s
    · exact .refl
  · split_ifs
    · exact (Move.post .frozenHold n.val n.isLt).reaches
    · exact .refl
  · split_ifs with suspended
    · exact (SearchMove.resumes suspended.1).reaches
    · exact .refl

theorem reaches_changeProtection (s : State) (n : Slot) (p : Protection) : Reaches s (s.changeProtection n p) :=
  .head (.protect n p) ((reaches_postEntry _ n p).trans (reaches_tellSearch _ n p))

theorem acknowledgeRequest_allowed (j : Byte) (p : List Byte) (u : State) :
    (acknowledgeRequest j p u).Allowed u := by
  unfold acknowledgeRequest
  refine onSlot_allowed j fun n => ?_
  refine Verdict.allowed_unless fun _ => ifInService_allowed _ fun _ => ?_
  split
  · split
    · exact reaches_changeProtection u n .normal
    · trivial
  all_goals exact Relation.ReflTransGen.refl

/-! ### RETIRE -/

theorem reaches_judgeWait (s : State) : Reaches s s.judgeWait := by
  unfold State.judgeWait
  split
  · next state => exact (SearchMove.rests state).reaches
  · next state => exact (SearchMove.resumes state).reaches
  all_goals exact .refl

theorem SearchContext.without_state (c : SearchContext) (n : Slot) : (c.without n).state = c.state := by
  unfold SearchContext.without
  split
  · rfl
  · dsimp only
    split <;> rfl

theorem SearchContext.without_isolated (c : SearchContext) (n : Slot) : (c.without n).isolated = c.isolated := by
  unfold SearchContext.without
  split
  · rfl
  · dsimp only
    split <;> rfl

theorem reaches_retireFromSearch (s : State) (n : Slot) : Reaches s (s.retireFromSearch n) := by
  unfold State.retireFromSearch
  dsimp only
  split
  · exact .refl
  · have leaves := Move.search (SearchMove.context (s := s)
      (fun c => { c.without n with wait := c.wait.filter (· != n) }) (s.search.without_state n)
      (s.search.without_isolated n))
    refine leaves.reaches.trans ?_
    split_ifs
    · exact (SearchMove.ends _).reaches
    · exact reaches_judgeWait _
    · exact .refl

theorem reaches_retire (s : State) (n : Slot) (inService : (s.sec n).slot.inService = true)
    (unprobed : (s.sec n).mark ≠ .probe) : Reaches s (s.retire n) :=
  .head (.retire n inService unprobed) ((reaches_retireFromSearch _ n).tail (.fanDrain n))

theorem retireRequest_allowed (j : Byte) (p : List Byte) (u : State) : (retireRequest j p u).Allowed u := by
  unfold retireRequest
  refine onSlot_allowed j fun n => ?_
  split_ifs with _ probed
  · trivial
  · exact ifInService_allowed _ fun _ => trivial
  · exact ifInService_allowed _ fun inService => reaches_retire u n inService probed

/-! ### The loop requests -/

theorem loopSetGlycol_allowed (l : LoopId) (p : List Byte) (u : State) : (loopSetGlycol l p u).Allowed u := by
  unfold loopSetGlycol
  refine Verdict.allowed_unless fun _ => Verdict.allowed_unless fun _ => Verdict.allowed_okClamped _ ?_
  split
  · exact (Move.loop l _ rfl ⟨rfl, rfl, rfl⟩).reaches
  · exact (Move.becomeSet l _).reaches

theorem loopSetRegime_allowed (l : LoopId) (p : List Byte) (u : State) : (loopSetRegime l p u).Allowed u := by
  unfold loopSetRegime
  dsimp only
  split_ifs
  · trivial
  · trivial
  · trivial
  · exact Verdict.allowed_okClamped _ (Move.loop l _ rfl ⟨rfl, rfl, rfl⟩).reaches

theorem loopSetPump_allowed (l : LoopId) (p : List Byte) (u : State) : (loopSetPump l p u).Allowed u := by
  unfold loopSetPump
  refine Verdict.allowed_unless fun _ => Verdict.allowed_unless fun _ => Verdict.allowed_okClamped _ ?_
  have period := Move.pump (s := u) l (fun c => { c with stagedPeriod := field8 p 6 }) rfl
  have decided (g : LoopConfig → LoopConfig) :=
    Move.decided (s := u.modPump l fun c => { c with stagedPeriod := field8 p 6 }) l
      (fun r => { r with config := g r.config }) rfl
  exact period.reaches.tail (decided fun c =>
    { c with
      frostFloor := field8 p 1, defendFloor := field8 p 2, stopDuty := field8 p 3
      riseStep := (clampField 1 64 (field8 p 4)).value, fallStep := (clampField 1 64 (field8 p 5)).value
      period := field8 p 6 })

theorem loopSetLeak_allowed (l : LoopId) (p : List Byte) (u : State) : (loopSetLeak l p u).Allowed u := by
  unfold loopSetLeak
  dsimp only
  split_ifs
  · trivial
  · trivial
  · trivial
  · trivial
  · exact Verdict.allowed_okClamped _ (Move.loop l _ rfl ⟨rfl, rfl, rfl⟩).reaches

theorem loopSetSearch_allowed (l : LoopId) (p : List Byte) (u : State) : (loopSetSearch l p u).Allowed u := by
  unfold loopSetSearch
  dsimp only
  split_ifs
  · trivial
  · trivial
  · trivial
  · exact Verdict.allowed_okClamped _ (Move.loop l _ rfl ⟨rfl, rfl, rfl⟩).reaches

theorem loopSetUnset_allowed (l : LoopId) (p : List Byte) (u : State) : (loopSetUnset l p u).Allowed u := by
  unfold loopSetUnset
  split_ifs
  · trivial
  · exact Relation.ReflTransGen.refl
  · trivial
  · exact (Move.unsetLoop l).reaches

theorem loopSetRequest_allowed (j : Byte) (p : List Byte) (u : State) : (loopSetRequest j p u).Allowed u := by
  unfold loopSetRequest
  refine onLoop_allowed j fun l => ?_
  split
  · trivial
  · exact loopSetGlycol_allowed l p u
  · exact loopSetRegime_allowed l p u
  · exact loopSetPump_allowed l p u
  · exact loopSetLeak_allowed l p u
  · exact loopSetSearch_allowed l p u
  · exact loopSetUnset_allowed l p u
  · trivial

theorem loopLookupRequest_allowed (j : Byte) (p : List Byte) (u : State) :
    (loopLookupRequest j p u).Allowed u := by
  unfold loopLookupRequest
  refine onLoop_allowed j fun l => ?_
  split_ifs
  · trivial
  · trivial
  all_goals exact Relation.ReflTransGen.refl

theorem pumpDemandRequest_allowed (j : Byte) (p : List Byte) (u : State) :
    (pumpDemandRequest j p u).Allowed u := by
  unfold pumpDemandRequest
  refine onLoop_allowed j fun l => ?_
  split_ifs
  · trivial
  · trivial
  · exact Verdict.allowed_ok (Move.loop l _ rfl ⟨rfl, rfl, rfl⟩).reaches

theorem curveLoadRequest_allowed (j : Byte) (p : List Byte) (u : State) : (curveLoadRequest j p u).Allowed u := by
  unfold curveLoadRequest
  split_ifs with _ _ unordered
  · trivial
  · trivial
  · trivial
  · exact (Move.curves (fieldCurve p) u.curveB fun kept => ⟨by simpa using unordered, kept.2⟩).reaches
  · exact (Move.curves u.curveA (fieldCurve p) fun kept => ⟨kept.1, by simpa using unordered⟩).reaches

theorem curveLookupRequest_allowed (j : Byte) (p : List Byte) (u : State) :
    (curveLookupRequest j p u).Allowed u := by
  unfold curveLookupRequest
  split_ifs
  · trivial
  · trivial
  · exact Relation.ReflTransGen.refl
  · exact Relation.ReflTransGen.refl

/-! ### The binding requests -/

theorem State.fedByOther_eq_false (s : State) (b : BindingId) (d : DestField) :
    s.fedByOther b d = false ↔ ∀ c, c ≠ b → (s.binding c).feeds d = false := by
  simp [State.fedByOther, mem_allBindings]

theorem reaches_dropStale (s : State) (b : BindingId) : Reaches s (s.dropStale b) :=
  (Move.drop fun c => c.kind == .stale && c.subject == b.val).reaches

theorem reaches_bindTo (s : State) (b : BindingId) (f : Binding) (inService : s.outOfService f.dest = false)
    (kind : fieldKind f.dest = f.kind) (free : s.fedByOther b f.dest = false) : Reaches s (s.bindTo b f) := by
  have bound : Reaches s (s.setBinding b (.active f)) :=
    (Move.binding b (.active f) fun g made => by
      obtain rfl : f = g := by simpa [BindingState.fields] using made
      exact .inr ⟨inService, kind, (s.fedByOther_eq_false b f.dest).mp free⟩).reaches
  unfold State.bindTo
  dsimp only
  refine (bound.trans ?_).trans (reaches_makeAwaiting _ f.dest)
  split
  · exact (reaches_dropStale _ b).trans (reaches_makeAwaiting _ _)
  · exact .refl

theorem bindFields_dest (p : List Byte) (d : DestField) : (bindFields p d).value.dest = d := rfl

theorem bindRequest_allowed (j : Byte) (p : List Byte) (u : State) : (bindRequest j p u).Allowed u := by
  unfold bindRequest
  refine onBinding_allowed j fun b => ?_
  refine Verdict.allowed_unless fun _ => Verdict.allowed_unless fun _ => ?_
  split
  · trivial
  · refine Verdict.allowed_unless fun _ => Verdict.allowed_unless fun inService => Verdict.allowed_unless fun free => ?_
    exact reaches_bindTo u b _ (by simpa [bindFields_dest] using inService) rfl
      (by simpa [bindFields_dest] using free)

theorem reaches_unbind (s : State) (b : BindingId) : Reaches s (s.unbind b) := by
  unfold State.unbind
  split
  · exact .head (.binding b .empty fun f made => by simp [BindingState.fields] at made)
      ((reaches_dropStale _ b).trans (reaches_makeAwaiting _ _))
  · exact .refl

theorem unbindRequest_allowed (j : Byte) (p : List Byte) (u : State) : (unbindRequest j p u).Allowed u := by
  unfold unbindRequest
  refine onBinding_allowed j fun b => ?_
  split_ifs
  · trivial
  · exact reaches_unbind u b

theorem Destination.kept_hold {d : Destination} (kept : d.kept) (expiry : Nat) : (d.hold expiry).kept := by
  obtain ⟨stored, stale, fresh, held⟩ := kept
  cases status : d.status <;> simp_all [Destination.hold, Destination.kept]

theorem reaches_holdBinding (s : State) {b : BindingId} {f : Binding} (active : s.binding b = .active f) :
    Reaches s (s.holdBinding b f) :=
  .head (.binding b (.held f) fun g made => .inl (by rw [active]; exact made))
    (reaches_dest _ f.dest _ fun kept => Destination.kept_hold kept _)

theorem reaches_releaseBinding (s : State) {b : BindingId} {f : Binding} (held : s.binding b = .held f) :
    Reaches s (s.releaseBinding b f) :=
  .head (.binding b (.active f) fun g made => .inl (by rw [held]; exact made)) (reaches_makeAwaiting _ f.dest)

theorem holdRequest_allowed (j : Byte) (p : List Byte) (u : State) : (holdRequest j p u).Allowed u := by
  unfold holdRequest
  refine onBinding_allowed j fun b => ?_
  split_ifs
  · trivial
  · trivial
  · split
    · trivial
    · next active _ => exact reaches_holdBinding u active
    · next held _ => exact reaches_releaseBinding u held
    all_goals exact Relation.ReflTransGen.refl

theorem bindingLookupRequest_allowed (j : Byte) (p : List Byte) (u : State) :
    (bindingLookupRequest j p u).Allowed u := by
  unfold bindingLookupRequest
  refine onBinding_allowed j fun b => ?_
  split_ifs
  · trivial
  · exact Relation.ReflTransGen.refl

theorem seenReadRequest_allowed (j : Byte) (p : List Byte) (u : State) : (seenReadRequest j p u).Allowed u := by
  unfold seenReadRequest
  split_ifs
  · trivial
  · trivial
  · exact Relation.ReflTransGen.refl

theorem seenClearRequest_allowed (j : Byte) (p : List Byte) (u : State) : (seenClearRequest j p u).Allowed u := by
  unfold seenClearRequest
  split_ifs
  · trivial
  · trivial
  · exact SameRecords.reaches rfl

/-! ### The requests of the lines, the search, the attention set and the part -/

theorem maskSlots_all (mask : BitVec 24) (p : Slot → Bool) :
    (maskSlots mask).all p = true ↔ ∀ n : Slot, mask.getLsbD n.val = true → p n = true := by
  simp only [maskSlots, List.all_eq_true, List.mem_filter, mem_allSlots, true_and]

theorem maskSlots_any_not (mask : BitVec 24) (p : Slot → Bool) :
    (maskSlots mask).any (fun n => !p n) = false ↔ ∀ n : Slot, mask.getLsbD n.val = true → p n = true := by
  rw [← maskSlots_all, ← Bool.not_eq_true', List.not_any_eq_all_not]
  simp only [Bool.not_not]

theorem clearLineSetRequest_allowed (j : Byte) (p : List Byte) (u : State) :
    (clearLineSetRequest j p u).Allowed u := by
  unfold clearLineSetRequest
  refine onLine_allowed j fun k => ?_
  split_ifs with _ _ outside
  · trivial
  · trivial
  · trivial
  · refine (Move.line k _ _ ?_).reaches
    exact (maskSlots_any_not _ fun n => (u.sec n).slot.inService).mp (Bool.not_eq_true _ ▸ outside)

theorem clearLineLookupRequest_allowed (j : Byte) (p : List Byte) (u : State) :
    (clearLineLookupRequest j p u).Allowed u := by
  unfold clearLineLookupRequest
  refine onLine_allowed j fun k => ?_
  split_ifs
  · trivial
  · exact Relation.ReflTransGen.refl

theorem searchStartRequest_allowed (j : Byte) (p : List Byte) (u : State) :
    (searchStartRequest j p u).Allowed u := by
  unfold searchStartRequest
  dsimp only
  split_ifs with _ _ _ busy _
  · trivial
  · trivial
  · trivial
  · trivial
  · exact (SearchMove.starts _ (not_not.mp busy)).reaches
  · trivial

theorem reaches_stopSearch (s : State) : Reaches s s.stopSearch := by
  unfold State.stopSearch
  split
  · exact .refl
  · exact (SearchMove.releasesHeld).reaches
  all_goals exact (SearchMove.ends _).reaches

theorem searchStopRequest_allowed (j : Byte) (p : List Byte) (u : State) : (searchStopRequest j p u).Allowed u := by
  unfold searchStopRequest
  split_ifs
  · trivial
  · trivial
  · exact reaches_stopSearch u

theorem searchLookupRequest_allowed (j : Byte) (p : List Byte) (u : State) :
    (searchLookupRequest j p u).Allowed u := by
  unfold searchLookupRequest
  split_ifs
  · trivial
  · trivial
  · exact SameRecords.reaches rfl

theorem nextAttentionRequest_allowed (j : Byte) (p : List Byte) (u : State) :
    (nextAttentionRequest j p u).Allowed u := by
  unfold nextAttentionRequest
  split_ifs
  · trivial
  · trivial
  · split
    · next c _ => exact (Move.drop (· == c)).reaches
    · exact SameRecords.reaches rfl

theorem attentionLevelsRequest_allowed (j : Byte) (p : List Byte) (u : State) :
    (attentionLevelsRequest j p u).Allowed u := by
  unfold attentionLevelsRequest
  dsimp only
  split_ifs
  · trivial
  · exact Relation.ReflTransGen.refl
  · trivial
  · trivial
  · exact SameRecords.reaches rfl

theorem partStatusRequest_allowed (j : Byte) (p : List Byte) (u : State) : (partStatusRequest j p u).Allowed u := by
  unfold partStatusRequest
  split_ifs
  · trivial
  · trivial
  · exact Relation.ReflTransGen.refl

theorem State.enrolledSlots_isEmpty (s : State) :
    s.enrolledSlots.isEmpty = true ↔ ∀ n, (s.sec n).slot = .vacant := by
  have vacant_iff (x : SlotState) : x.enrolled = false ↔ x = .vacant := by cases x <;> decide
  simp [State.enrolledSlots, mem_allSlots, vacant_iff]

theorem partConfigureRequest_allowed (j : Byte) (p : List Byte) (u : State) :
    (partConfigureRequest j p u).Allowed u := by
  unfold partConfigureRequest
  split_ifs with _ _ _ enrolled
  · trivial
  · trivial
  · trivial
  · trivial
  · exact (Move.configure _ (u.enrolledSlots_isEmpty.mp (by simpa using enrolled))).reaches

theorem reaches_restarted (s : State) (cause : ResetCause) (low : Bool) : Reaches s (s.restarted cause low) := by
  unfold State.restarted
  dsimp only
  split_ifs
  · exact .head (.reset rfl) (Move.post .stop 0 (by decide)).reaches
  · exact (Move.reset rfl).reaches

theorem fullResetRequest_allowed (j : Byte) (p : List Byte) (u : State) : (fullResetRequest j p u).Allowed u := by
  unfold fullResetRequest
  split_ifs
  · trivial
  · trivial
  · exact reaches_restarted u _ _

end Sys2Proof.Machine
end

section
/-! PROOF. The events as chains of the moves, and the step: what a step can do. -/

namespace Sys2Proof.Machine

open Sys2Proof

/-! ### The link, the resets and the stop input -/

theorem State.reaches_event (s : State) (dt : Nat) {act : State → State}
    (chain : ∀ u, u.inReset = false → Reaches u (act u)) : Reaches s (s.event dt act) := by
  unfold State.event
  split
  · exact .refl
  · next awake => exact (SameRecords.reaches (t := s.advance dt) rfl).trans (chain _ (Bool.eq_false_of_not_eq_true awake))

theorem State.reaches_occur (s : State) {act : State → State} (chain : Reaches s (act s)) :
    Reaches s (s.occur act) := by
  unfold State.occur
  split
  · exact .refl
  · exact chain

theorem State.reaches_endTransaction (s : State) {judge : State → State} (chain : ∀ u, Reaches u (judge u)) :
    Reaches s (s.endTransaction judge) := by
  unfold State.endTransaction
  split
  · exact SameRecords.reaches rfl
  · exact SameRecords.reaches rfl
  all_goals
    split
    · exact .refl
    · exact (SameRecords.reaches (t := { s with link := .idle }) rfl).trans (chain _)

theorem reaches_putReply (s : State) (r : Reply) : Reaches s (s.putReply r) := SameRecords.reaches rfl

theorem reaches_advance (s : State) (dt : Nat) : Reaches s (s.advance dt) := SameRecords.reaches rfl

theorem reaches_endBroken (s : State) (bytes : List Byte) : Reaches s (s.endBroken bytes) :=
  s.reaches_endTransaction fun u => reaches_putReply u _

theorem reaches_endRefused (s : State) (frame : List Byte) : Reaches s (s.endRefused frame) := by
  unfold State.endRefused
  split
  · exact s.reaches_endTransaction fun u => reaches_putReply u _
  · exact .refl

theorem reaches_beginTransaction (s : State) : Reaches s s.beginTransaction := by
  unfold State.beginTransaction
  split
  · split
    · exact SameRecords.reaches rfl
    · split
      · exact SameRecords.reaches rfl
      · exact SameRecords.reaches rfl
  all_goals exact .refl

theorem reaches_endUnjudged (s : State) (dt : Nat) : Reaches s (s.endUnjudged dt) := by
  unfold State.endUnjudged
  split
  · exact SameRecords.reaches rfl
  · exact SameRecords.reaches rfl
  all_goals exact .refl

theorem reaches_withLink (s : State) (link : LinkPhase) : Reaches s { s with link := link } := SameRecords.reaches rfl

theorem reaches_poweredOn (s : State) (stopLow selLow resetLow : Bool) :
    Reaches s (s.poweredOn stopLow selLow resetLow) := by
  unfold State.poweredOn
  dsimp only
  refine Relation.ReflTransGen.trans ?_ (reaches_withLink _ _)
  split
  · exact (Move.reset rfl).reaches
  · exact reaches_restarted s _ _

theorem reaches_assertStop (s : State) (awake : s.inReset = false) (high : s.stopLow = false) :
    Reaches s s.assertStop := by
  unfold State.assertStop
  dsimp only
  have forced := (Move.assertStop awake high).reaches.tail (.post .stop 0 (by decide))
  split
  · exact forced.trans (SearchMove.ends .halted).reaches
  · exact forced

theorem reaches_stopAssertion (s : State) (dt : Nat) :
    Reaches s
      (if s.inReset then { s with stopLow := true }
       else if s.stopLow then s
       else (s.advance dt).assertStop) := by
  split
  · next asleep => exact (Move.stopInReset true asleep).reaches
  · next awake =>
    split
    · exact .refl
    · next high =>
      exact (reaches_advance s dt).trans
        (reaches_assertStop _ (Bool.eq_false_of_not_eq_true awake) (Bool.eq_false_of_not_eq_true high))

theorem reaches_stopRelease (s : State) (dt : Nat) :
    Reaches s
      (if s.inReset then { s with stopLow := false }
       else if s.stopLow then (s.advance dt).releaseStop
       else s) := by
  split
  · next asleep => exact (Move.stopInReset false asleep).reaches
  · next awake =>
    split
    · next low =>
      exact (reaches_advance s dt).tail
        (.releaseStop (Bool.eq_false_of_not_eq_true awake) low)
    · exact .refl

/-! ### Readings that arrive -/

theorem reaches_judgeSettling (s : State) (state : s.search.state = .settling) : Reaches s s.judgeSettling :=
  (SearchMove.settles state).reaches

theorem reaches_searchValveCapture (s : State) (n : Slot) (value : Int) :
    Reaches s (s.searchValveCapture n value) := by
  unfold State.searchValveCapture
  split
  · next state =>
    split_ifs
    · exact reaches_valveFault s _
    · exact (SearchMove.settles state).reaches
    · exact .refl
  · split_ifs
    · exact reaches_valveFault s _
    · exact .refl
  · next state =>
    split_ifs
    · exact reaches_valveFault s _
    · exact (SearchMove.rests state).reaches
    · exact .refl
  · next state =>
    split_ifs
    · exact reaches_valveFault s _
    · exact (SearchMove.resumes state).reaches
    · exact .refl
  all_goals exact .refl

theorem reaches_pressureCapture (s : State) (l : LoopId) (value : Int) : Reaches s (s.pressureCapture l value) := by
  unfold State.pressureCapture
  dsimp only
  split_ifs
  · exact (Move.loop l _ rfl ⟨rfl, rfl, rfl⟩).reaches
  · exact (SearchMove.context (fun c => { c with window := c.window.enter _ }) rfl rfl).reaches
  · exact .refl

/-- A capture leaves a field FRESH, with all that FRESH asks of it. -/
theorem Destination.kept_capture (d : Destination) (b : Binding) (value : Int) (q : Quality) (taken : PartTime)
    (expiry : Nat) : (d.capture b value q taken expiry).kept := by
  cases combine : b.combine <;> simp [Destination.capture, Destination.kept, combine]

theorem State.captureOutlet_eq (s : State) (n : Slot) (v : Destination) (value : Int) :
    (s.setDest (.outlet n) v).handOff (.outlet n) value = s.captureOutlet n v := rfl

theorem reaches_capture (s : State) (b : Binding) (value : Int) (q : Quality) :
    Reaches s (s.capture b value q) := by
  have kept := (s.dest b.dest).kept_capture b value q s.partTime (s.expiryIn b.freshLimit)
  unfold State.capture
  generalize (s.dest b.dest).capture b value q s.partTime (s.expiryIn b.freshLimit) = v at kept ⊢
  have stored := reaches_dest s b.dest v fun _ => kept
  cases field : b.dest with
  | outlet n => exact (Move.outlet n v kept).reaches
  | valve n =>
    rw [field] at stored
    exact stored.trans (reaches_searchValveCapture _ n value)
  | loopPressure l =>
    rw [field] at stored
    refine stored.trans ?_
    dsimp only [State.handOff]
    split
    · exact reaches_pressureCapture _ _ _
    · exact .refl
  | air n | loopFlow l | loopConcentration l | loopAir l =>
    rw [field] at stored
    exact stored

theorem reaches_deliver (s : State) (r : Reading) : Reaches s (s.deliver r) := by
  unfold State.deliver
  split
  · split
    · unfold State.deliverTo
      split
      · exact reaches_capture s _ _ _
      · exact reaches_capture s _ _ _
      · exact .refl
    · exact .refl
  · exact .refl

theorem reaches_arrive (s : State) (t : Telegram) : Reaches s (s.arrive t) := by
  unfold State.arrive
  have marked : Reaches s (s.markSeen t.node t.kind) := SameRecords.reaches rfl
  split
  · exact .refl
  · dsimp only
    split
    · exact marked.trans (reaches_deliver _ _)
    · exact marked

theorem reaches_endFragment (s : State) (chars : List BusChar) : Reaches s (s.endFragment chars) := by
  unfold State.endFragment
  have gap : Reaches s s.gap := SameRecords.reaches rfl
  split
  · exact gap
  · split
    · exact gap.trans (reaches_arrive _ _)
    all_goals exact gap

/-! ### The transmitter -/

theorem reaches_beginTransmission (s : State) : Reaches s s.beginTransmission := by
  unfold State.beginTransmission
  split
  · split
    · split
      · exact .refl
      · exact SameRecords.reaches rfl
    · exact .refl
  · exact .refl

theorem reaches_settleEntry (s : State) (x : Transmission) : Reaches s (s.settleEntry x) := by
  unfold State.settleEntry
  split
  · exact .refl
  · next e rest queue =>
    have popped : Reaches s { s with txQueue := rest } :=
      (Move.entries rest fun kept => by
        unfold State.entriesKept at kept
        rw [queue, List.map_cons, List.nodup_cons] at kept
        exact kept.2).reaches
    split
    · dsimp only
      split
      · exact popped.tail (.valveDrain x.slot)
      · exact popped
    · exact .refl

theorem reaches_endTransmission (s : State) (x : Transmission) (readBack : List BusChar) :
    Reaches s (s.endTransmission x readBack) := by
  unfold State.endTransmission
  split
  · exact SameRecords.reaches rfl
  · have ended : Reaches s
        { s.runTo (x.endsAt readBack) with
          transmission := none, busIdleFrom := (s.runTo (x.endsAt readBack)).time } := SameRecords.reaches rfl
    dsimp only
    split
    · exact ended.trans (reaches_settleEntry _ x)
    · exact ended.trans (reaches_settleEntry _ x)

/-! ### Evaluations -/

theorem reaches_decideSection (s : State) (n : Slot) (margin : Int) : Reaches s (s.decideSection n margin) := by
  unfold State.decideSection
  dsimp only
  split
  · exact .refl
  · exact reaches_changeProtection s n _

theorem reaches_formColdest (s : State) (l : LoopId) : Reaches s (s.formColdest l) :=
  (Move.loop l (fun r => { r with coldest := lowest (s.memberAir l) }) rfl ⟨rfl, rfl, rfl⟩).reaches

theorem reaches_decideLoopRegime (s : State) (l : LoopId) : Reaches s (s.decideLoopRegime l) := by
  unfold State.decideLoopRegime
  split
  · exact .refl
  · dsimp only
    split
    · exact .refl
    · exact (Move.regime l _).reaches

theorem reaches_takeEvaluation (s : State) : Reaches s s.takeEvaluation := by
  unfold State.takeEvaluation
  split
  · exact .refl
  · next n rest front =>
    unfold State.evaluate
    dsimp only
    have decided (e : EvalRecord) (now : Nat) :=
      (Move.evaluated n rest e now front).reaches.trans (reaches_decideSection _ n e.margin)
    split
    · exact ((decided _ _).trans (reaches_formColdest _ _)).trans (reaches_decideLoopRegime _ _)
    · exact decided _ _

/-! ### Expiries -/

theorem reaches_runTo (s : State) (moment : Nat) : Reaches s (s.runTo moment) := SameRecords.reaches rfl

theorem reaches_atExpiry (s : State) (timer : Option Nat) {act : State → State}
    (chain : ∀ t, timer = some t → Reaches (s.runToTenth t) (act (s.runToTenth t))) :
    Reaches s (s.atExpiry timer act) := by
  cases timer with
  | none => exact .refl
  | some t => exact (reaches_runTo s (t * unitsPerTenth)).trans (chain t rfl)

theorem reaches_expireEvaluation (s : State) (n : Slot) : Reaches s (s.expireEvaluation n) :=
  reaches_atExpiry s _ fun t running => (Move.join n (by simp [running])).reaches

theorem reaches_expireRefresh (s : State) (n : Slot) : Reaches s (s.expireRefresh n) :=
  reaches_atExpiry s _ fun t _ =>
    ((Move.record n (fun r => { r with refreshTimer := some ((s.runToTenth t).expiryIn 10) }) rfl rfl rfl
      id).reaches).trans (reaches_postValve _ n _)

theorem State.evalLinesOf_post (s : State) (d : DestField) (k : CauseKind) (i : Nat) :
    (s.post k i).evalLinesOf d = (s.evalLinesOf d).post k i := by
  unfold State.evalLinesOf
  split
  · next n _ =>
    unfold State.evalLines
    generalize allLines = lines
    induction lines generalizing s with
    | nil => rfl
    | cons k lines ih =>
      rw [List.foldl_cons, List.foldl_cons, ← ih]
      congr 1
      rw [State.post_line]
      split <;> rfl
  · rfl

theorem Destination.kept_toStale {d : Destination} (kept : d.kept) (now : Nat) (stored : d.status ≠ .awaiting) :
    (d.toStale now).kept := by
  obtain ⟨value, _, _, _⟩ := kept
  simp_all [Destination.toStale, Destination.kept]

/-- A field whose freshness timer or hold timer runs goes STALE: it is FRESH or HELD, and holds a value. -/
theorem reaches_goStale (s : State) (d : DestField)
    (running : (s.dest d).freshTimer ≠ none ∨ (s.dest d).holdTimer ≠ none) : Reaches s (s.goStale d) := by
  have stale : Reaches s ((s.setDest d ((s.dest d).toStale s.tenths)).evalLinesOf d) :=
    reaches_dest s d _ fun kept => Destination.kept_toStale kept _ fun awaiting => by
      obtain ⟨_, _, fresh, held⟩ := kept
      rcases running with timer | timer
      · exact absurd (fresh.mp timer) (by rw [awaiting]; decide)
      · exact absurd (held.mp timer) (by rw [awaiting]; decide)
  unfold State.goStale
  dsimp only
  split
  · next b _ =>
    rw [State.evalLinesOf_post]
    exact stale.tail (.post .stale b.val b.isLt)
  · exact stale

theorem State.runToTenth_dest (s : State) (t : Nat) (d : DestField) : (s.runToTenth t).dest d = s.dest d := by
  cases d <;> rfl

theorem reaches_freshnessExpiry (s : State) (d : DestField) :
    Reaches s (s.atExpiry (s.dest d).freshTimer fun s => s.goStale d) :=
  reaches_atExpiry s _ fun t running => reaches_goStale _ d (.inl (by simp [State.runToTenth_dest, running]))

theorem reaches_holdExpiry (s : State) (d : DestField) :
    Reaches s (s.atExpiry (s.dest d).holdTimer fun s => s.goStale d) :=
  reaches_atExpiry s _ fun t running => reaches_goStale _ d (.inr (by simp [State.runToTenth_dest, running]))

theorem reaches_expireWindow (s : State) (d : DestField) : Reaches s (s.expireWindow d) :=
  reaches_atExpiry s _ fun _ _ => (Move.window d).reaches

theorem reaches_expireFanRamp (s : State) (n : Slot) : Reaches s (s.expireFanRamp n) := by
  unfold State.expireFanRamp
  split
  · exact (reaches_runTo s _).tail (.fanRamp n _ rfl)
  · exact .refl

theorem reaches_expirePumpRamp (s : State) (l : LoopId) : Reaches s (s.expirePumpRamp l) := by
  unfold State.expirePumpRamp
  split
  · exact (reaches_runTo s _).tail (.decided l _ rfl)
  · exact .refl

theorem reaches_fanBoundary (s : State) (n : Slot) : Reaches s (s.fanBoundary n) := by
  unfold State.fanBoundary
  split
  · have taken := Move.fan (s := s) n (fun c => c.boundary.drive (s.fanActiveLow n)) (fun _ => rfl) fun _ => rfl
    exact taken.reaches.tail (.fanDrain n)
  · exact .refl

theorem reaches_pumpBoundary (s : State) (l : LoopId) : Reaches s (s.pumpBoundary l) := by
  unfold State.pumpBoundary
  split
  · exact (Move.pump l (fun c => c.boundary.drive (s.pumpActiveLow l)) rfl).reaches
  · exact .refl

theorem Channel.count_staged (c : Channel) (align : Alignment) :
    (c.count align).stagedDuty = c.stagedDuty ∧ (c.count align).enabled = c.enabled := by
  unfold Channel.count
  repeat' split
  all_goals exact ⟨rfl, rfl⟩

theorem Channel.tick_staged (c : Channel) (align : Alignment) (activeLow : Bool) :
    (c.tick align activeLow).stagedDuty = c.stagedDuty ∧ (c.tick align activeLow).enabled = c.enabled := by
  unfold Channel.tick
  split
  · split
    · exact ⟨rfl, rfl⟩
    · exact c.count_staged align
  · exact ⟨rfl, rfl⟩

theorem reaches_tickFan (s : State) (n : Slot) : Reaches s (s.tickFan n) := by
  have ticked := Move.fan (s := s) n (fun c => c.tick s.drive.fanAlign (s.fanActiveLow n))
    (fun c => (c.tick_staged _ _).1) fun c => (c.tick_staged _ _).2
  unfold State.tickFan
  dsimp only
  split
  · exact ticked.reaches.tail (.fanDrain n)
  · exact ticked.reaches

theorem reaches_tickPump (s : State) (l : LoopId) : Reaches s (s.tickPump l) :=
  (Move.pump l (fun c => c.tick s.drive.pumpAlign (s.pumpActiveLow l)) (Channel.tick_staged _ _ _).1).reaches

theorem reaches_foldl {α : Type} {f : State → α → State} (chain : ∀ s a, Reaches s (f s a)) (l : List α)
    (s : State) : Reaches s (l.foldl f s) := by
  induction l generalizing s with
  | nil => exact .refl
  | cons a l ih => exact (chain s a).trans (ih _)

theorem reaches_tickGroup (s : State) (g : ClockGroup) : Reaches s (s.tickGroup g) := by
  cases g with
  | fans => exact reaches_foldl reaches_tickFan _ s
  | pumps => exact reaches_foldl reaches_tickPump _ s

/-! ### The leak window, the lines and the search -/

theorem reaches_beginWindow (s : State) (l : LoopId) : Reaches s (s.beginWindow l) :=
  (Move.loop l
    (fun r =>
      { r with
        leakTimer := some (s.expiryIn r.config.leakWindow), leakLength := r.config.leakWindow
        leakWindow := .empty }) rfl ⟨rfl, rfl, rfl⟩).reaches

theorem reaches_outcome (s : State) (l : LoopId) (outcome : AutoOutcome) :
    Reaches s (s.modLoop l fun r => { r with autoOutcome := outcome }) :=
  (Move.loop l (fun r => { r with autoOutcome := outcome }) rfl ⟨rfl, rfl, rfl⟩).reaches

theorem reaches_lastResult (s : State) (l : LoopId) (result : LoopRecord → WindowResult) :
    Reaches s (s.modLoop l fun r => { r with lastResult := result r }) :=
  (Move.loop l (fun r => { r with lastResult := result r }) rfl ⟨rfl, rfl, rfl⟩).reaches

theorem reaches_autoStart (s : State) (l : LoopId) : Reaches s (s.autoStart l) := by
  unfold State.autoStart
  split
  · exact reaches_outcome s l _
  · next idle =>
    split
    · exact reaches_outcome s l _
    · exact ((SearchMove.starts l (not_not.mp idle)).reaches).trans (reaches_outcome _ l _)

theorem reaches_suspectLeak (s : State) (l : LoopId) : Reaches s (s.suspectLeak l) := by
  have posted := (Move.post (s := s) .leakSuspect l.val l.isLt).reaches
  unfold State.suspectLeak
  dsimp only
  split
  · exact posted.trans (reaches_autoStart _ l)
  · exact posted

theorem reaches_judgeWindow (s : State) (l : LoopId) : Reaches s (s.judgeWindow l) := by
  unfold State.judgeWindow
  dsimp only
  have rated := reaches_lastResult s l fun r => .rate r.leakWindow.rate
  split
  · split
    · exact rated.trans (reaches_suspectLeak _ l)
    · exact rated
  · exact reaches_lastResult s l fun _ => .invalid

theorem reaches_expireLeakWindow (s : State) (l : LoopId) : Reaches s (s.expireLeakWindow l) :=
  reaches_atExpiry s _ fun t _ => by
    dsimp only
    split
    · exact (reaches_judgeWindow _ l).trans (reaches_beginWindow _ l)
    · exact reaches_judgeWindow _ l

theorem reaches_expireDelay (s : State) (k : LineId) : Reaches s (s.expireDelay k) :=
  reaches_atExpiry s _ fun t running => (Move.delay k (by simp [running])).reaches

theorem reaches_stopPhaseTimer (s : State) : Reaches s s.stopPhaseTimer :=
  (SearchMove.context (fun c => { c with phaseTimer := none }) rfl rfl).reaches

theorem reaches_stopDeadline (s : State) : Reaches s s.stopDeadline :=
  (SearchMove.context (fun c => { c with deadline := none }) rfl rfl).reaches

theorem reaches_expireSettle (s : State) : Reaches s s.expireSettle := by
  unfold State.expireSettle
  split
  · next state =>
    exact reaches_atExpiry s _ fun t _ => (reaches_stopPhaseTimer _).trans (reaches_judgeSettling _ (by exact state))
  · exact .refl

theorem reaches_expireSettleDeadline (s : State) : Reaches s s.expireSettleDeadline := by
  unfold State.expireSettleDeadline
  split
  · next state =>
    refine reaches_atExpiry s _ fun t _ => (reaches_stopDeadline _).trans ?_
    dsimp only
    split
    · exact reaches_judgeSettling _ (by exact state)
    · exact reaches_valveFault _ _
  · exact .refl

theorem reaches_decideProbe (s : State) (quiet : Bool) : Reaches s (s.decideProbe quiet) := by
  unfold State.decideProbe
  dsimp only
  have moved := (SearchMove.context (s := s)
    (fun c =>
      if quiet then { c with rangeHi := c.rangeLo + c.probed } else { c with rangeLo := c.rangeLo + c.probed })
    (by split <;> rfl) (by split <;> rfl)).reaches
  generalize s.modSearch _ = u at moved ⊢
  refine moved.trans ?_
  split
  · exact (SearchMove.ends _).reaches
  · exact (SearchMove.entersRest).reaches

theorem reaches_decideConfirm (s : State) (quiet : Bool) : Reaches s (s.decideConfirm quiet) := by
  unfold State.decideConfirm
  split
  · exact (SearchMove.holds).reaches
  · split
    · have restarts := (SearchMove.context (s := s)
        (fun c => { c with restartsUsed := c.restartsUsed + 1, rangeLo := 0, rangeHi := c.candidates.length })
        rfl rfl).reaches
      exact restarts.trans (SearchMove.entersRest).reaches
    · exact (SearchMove.ends _).reaches

theorem reaches_judgeObservation (s : State) : Reaches s s.judgeObservation := by
  unfold State.judgeObservation
  dsimp only
  split
  · have rated := (SearchMove.context (s := s)
      (fun c => { c with lastRate := some s.search.window.rate, phaseTimer := none }) rfl rfl).reaches
    split
    · exact rated.trans (reaches_decideConfirm _ _)
    · exact rated.trans (reaches_decideProbe _ _)
  · split
    · exact (SearchMove.context
        (fun c =>
          { c with
            repeats := c.repeats + 1, window := .empty
            phaseTimer := some (s.expiryIn (c.param (·.observe))) }) rfl rfl).reaches
    · exact (SearchMove.ends _).reaches

theorem reaches_expireObserve (s : State) : Reaches s s.expireObserve := by
  unfold State.expireObserve
  split
  · exact reaches_atExpiry s _ fun t _ => (reaches_stopPhaseTimer _).trans (reaches_judgeObservation _)
  · exact .refl

theorem reaches_expireRest (s : State) : Reaches s s.expireRest := by
  unfold State.expireRest
  split
  · exact reaches_atExpiry s _ fun t _ => (reaches_stopPhaseTimer _).trans (reaches_judgeWait _)
  · exact .refl

theorem reaches_expireRestDeadline (s : State) : Reaches s s.expireRestDeadline := by
  unfold State.expireRestDeadline
  split
  · next state =>
    refine reaches_atExpiry s _ fun t _ => (reaches_stopDeadline _).trans ?_
    dsimp only
    split
    · exact (SearchMove.rests (by exact state)).reaches
    · exact reaches_valveFault _ _
  · exact .refl

/-! ### The step -/

theorem reaches_of_exec {c : Instr} {s t : State} (h : exec c s = .next t) : Reaches s t := by
  cases c with
  | null => cases h; exact s.reaches_request _ _ fun _ => Relation.ReflTransGen.refl
  | enrol => cases h; exact s.reaches_request _ _ (enrolRequest_allowed _ _)
  | amendFlow | amendThresholds | amendStaleness | amendValve | amendGang | amendRamp | amendLimits =>
    cases h; exact s.reaches_request _ _ (amendRequest_allowed _ _)
  | lookup => cases h; exact s.reaches_request _ _ (lookupRequest_allowed _ _)
  | fanDemand => cases h; exact s.reaches_request _ _ (fanDemandRequest_allowed _ _)
  | acknowledgeTrip => cases h; exact s.reaches_request _ _ (acknowledgeRequest_allowed _ _)
  | retire => cases h; exact s.reaches_request _ _ (retireRequest_allowed _ _)
  | loopSetGlycol | loopSetRegime | loopSetPump | loopSetLeak | loopSetSearch | loopSetUnset =>
    cases h; exact s.reaches_request _ _ (loopSetRequest_allowed _ _)
  | loopLookup => cases h; exact s.reaches_request _ _ (loopLookupRequest_allowed _ _)
  | pumpDemand => cases h; exact s.reaches_request _ _ (pumpDemandRequest_allowed _ _)
  | curveLoad => cases h; exact s.reaches_request _ _ (curveLoadRequest_allowed _ _)
  | curveLookup => cases h; exact s.reaches_request _ _ (curveLookupRequest_allowed _ _)
  | bind => cases h; exact s.reaches_request _ _ (bindRequest_allowed _ _)
  | unbind => cases h; exact s.reaches_request _ _ (unbindRequest_allowed _ _)
  | holdOn | holdOff => cases h; exact s.reaches_request _ _ (holdRequest_allowed _ _)
  | bindingLookup => cases h; exact s.reaches_request _ _ (bindingLookupRequest_allowed _ _)
  | seenRead => cases h; exact s.reaches_request _ _ (seenReadRequest_allowed _ _)
  | seenClear => cases h; exact s.reaches_request _ _ (seenClearRequest_allowed _ _)
  | clearLineSet => cases h; exact s.reaches_request _ _ (clearLineSetRequest_allowed _ _)
  | clearLineLookup => cases h; exact s.reaches_request _ _ (clearLineLookupRequest_allowed _ _)
  | searchStart => cases h; exact s.reaches_request _ _ (searchStartRequest_allowed _ _)
  | searchStop => cases h; exact s.reaches_request _ _ (searchStopRequest_allowed _ _)
  | searchLookup => cases h; exact s.reaches_request _ _ (searchLookupRequest_allowed _ _)
  | nextAttention => cases h; exact s.reaches_request _ _ (nextAttentionRequest_allowed _ _)
  | attentionLevels => cases h; exact s.reaches_request _ _ (attentionLevelsRequest_allowed _ _)
  | partStatus => cases h; exact s.reaches_request _ _ (partStatusRequest_allowed _ _)
  | partConfigure => cases h; exact s.reaches_request _ _ (partConfigureRequest_allowed _ _)
  | fullReset => cases h; exact s.reaches_request _ _ (fullResetRequest_allowed _ _)
  | transactionBegin dt => cases h; exact (reaches_advance s dt).trans (reaches_beginTransaction _)
  | brokenTransaction dt =>
    cases h
    split
    · exact .refl
    · exact (reaches_advance s dt).trans (reaches_endBroken _ _)
  | frameRefused dt =>
    cases h
    split
    · exact (reaches_advance s dt).trans (reaches_endRefused _ _)
    · exact .refl
  | notReadyTransactionEnd dt => cases h; exact reaches_endUnjudged s dt
  | replyReady => cases h; exact s.reaches_occur (reaches_runTo s _)
  | powerOn => cases h; exact reaches_poweredOn s _ _ _
  | pinReset => cases h; exact (reaches_restarted s _ _).trans (reaches_withLink _ _)
  | stopAssertion dt => cases h; exact reaches_stopAssertion s dt
  | stopRelease dt => cases h; exact reaches_stopRelease s dt
  | fragmentEnd dt chars => cases h; exact s.reaches_event dt fun u _ => reaches_endFragment u chars
  | transmissionBegin dt => cases h; exact s.reaches_event dt fun u _ => reaches_beginTransmission u
  | transmissionEnd dt readBack =>
    cases h
    split
    · exact s.reaches_event dt fun u _ => reaches_endTransmission u _ readBack
    · exact .refl
  | evaluationTake dt => cases h; exact s.reaches_event dt fun u _ => reaches_takeEvaluation u
  | evaluationTimerExpiry n => cases h; exact s.reaches_occur (reaches_expireEvaluation s n)
  | refreshTimerExpiry n => cases h; exact s.reaches_occur (reaches_expireRefresh s n)
  | freshnessExpiry d => cases h; exact s.reaches_occur (reaches_freshnessExpiry s d)
  | combiningWindowExpiry d => cases h; exact s.reaches_occur (reaches_expireWindow s d)
  | holdExpiry d => cases h; exact s.reaches_occur (reaches_holdExpiry s d)
  | fanRampExpiry n => cases h; exact s.reaches_occur (reaches_expireFanRamp s n)
  | pumpRampExpiry l => cases h; exact s.reaches_occur (reaches_expirePumpRamp s l)
  | periodBoundary dt c =>
    cases h
    refine s.reaches_event dt fun u _ => ?_
    cases c with
    | fan n => exact reaches_fanBoundary u n
    | pump l => exact reaches_pumpBoundary u l
  | leakWindowExpiry l => cases h; exact s.reaches_occur (reaches_expireLeakWindow s l)
  | delayTimerExpiry k => cases h; exact s.reaches_occur (reaches_expireDelay s k)
  | settleTimerExpiry => cases h; exact s.reaches_occur (reaches_expireSettle s)
  | settleDeadlineExpiry => cases h; exact s.reaches_occur (reaches_expireSettleDeadline s)
  | observeTimerExpiry => cases h; exact s.reaches_occur (reaches_expireObserve s)
  | restTimerExpiry => cases h; exact s.reaches_occur (reaches_expireRest s)
  | restDeadlineExpiry => cases h; exact s.reaches_occur (reaches_expireRestDeadline s)
  | channelClockTick dt g =>
    cases h
    exact s.reaches_event dt fun u _ => (reaches_runTo u _).trans (reaches_tickGroup _ g)
  | resetInputAssertion => cases h; exact (Move.assertReset).reaches

/-- A step is a chain of moves. -/
theorem reaches_of_step {s t : State} (h : step s = .next t) : Reaches s t := by
  unfold step at h
  split at h
  · cases h; exact .refl
  · next rest _ => exact (SameRecords.reaches (t := { s with pending := rest }) rfl).trans (reaches_of_exec h)

/-- What every move keeps, every step keeps. -/
theorem step_keeps {I : State → Prop} (kept : ∀ s t, Move s t → I s → I t) {s t : State} (h : step s = .next t)
    (before : I s) : I t :=
  (reaches_of_step h).keeps kept before

end Sys2Proof.Machine
end

section
/-! PROOF. What the search's moves keep, from what one change of mark keeps; and what the moves that change several
fields of a section leave of the sections. -/

namespace Sys2Proof.Machine

open Sys2Proof

/-! ### What the operations of the search keep -/

/-- A property that one change of mark keeps, and that looks neither at the context of the search nor at the leak
windows, and at no more of the attention set than a posting keeps. -/
structure SearchStable (I : State → Prop) : Prop where
  mark : ∀ s m n, I s → I (s.setMark m n)
  context : ∀ s f, I s → I (s.modSearch f)
  post : ∀ s k i, i < k.subjects → I s → I (s.post k i)
  window : ∀ s l (timer : LoopRecord → Option Nat) (length : LoopRecord → Nat) window, I s →
    I (s.modLoop l fun r =>
      { r with leakTimer := timer r, leakLength := length r, leakWindow := window })

namespace SearchStable

variable {I : State → Prop} (stable : SearchStable I)
include stable

theorem setMarks (m : Mark) (l : List Slot) (s : State) (h : I s) : I (s.setMarks m l) := by
  induction l generalizing s with
  | nil => exact h
  | cons n l ih => exact ih _ (stable.mark s m n h)

theorem release (s : State) (h : I s) : I s.release := stable.context _ _ (stable.setMarks .none _ s h)

theorem beginWindow (s : State) (l : LoopId) (h : I s) : I (s.beginWindow l) := stable.window s l _ _ _ h

theorem abandonWindow (s : State) (l : LoopId) (h : I s) : I (s.abandonWindow l) := stable.window s l _ _ _ h

theorem resumeMonitor (s : State) (h : I s) : I s.resumeMonitor := by
  unfold State.resumeMonitor
  split
  · exact stable.beginWindow _ _ h
  · exact h

theorem endSearch (s : State) (r : SearchResult) (h : I s) : I (s.endSearch r) :=
  stable.resumeMonitor _ (stable.post _ _ _ (by decide) (stable.context _ _ (stable.release s h)))

theorem postAll (k : CauseKind) (subjects : k.subjects = 24) (l : List Slot) (s : State) (h : I s) :
    I (s.postAll k l) := by
  induction l generalizing s with
  | nil => exact h
  | cons n l ih => exact ih _ (stable.post s k n.val (by rw [subjects]; exact n.isLt) h)

theorem valveFault (s : State) (l : List Slot) (h : I s) : I (s.valveFault l) :=
  stable.postAll .valveFault rfl l _ (stable.endSearch s _ h)

theorem isolate (s : State) (h : I s) : I s.isolate := by
  have begun := stable.context s
    (fun c =>
      { c with
        phase := some (if s.search.range.length = 1 then .confirm else .probe)
        probed := (s.search.range.length + 1) / 2 }) h
  unfold State.isolate
  dsimp only
  generalize s.modSearch _ = u at begun ⊢
  split
  · exact stable.context _ _ begun
  · split
    · exact stable.valveFault _ _ begun
    · exact stable.context _ _ (stable.setMarks .probe _ _ begun)

theorem newStep (s : State) (h : I s) : I s.newStep := stable.isolate _ (stable.context _ _ h)

theorem startSearch (s : State) (l : LoopId) (h : I s) : I (s.startSearch l) :=
  stable.newStep _ (stable.abandonWindow _ l (stable.context _ _ h))

theorem judgeSettling (s : State) (h : I s) : I s.judgeSettling := by
  unfold State.judgeSettling
  split
  · exact stable.context _ _ h
  · exact h

theorem judgeResting (s : State) (h : I s) : I s.judgeResting := by
  unfold State.judgeResting
  split
  · exact stable.newStep _ (stable.context _ _ h)
  · exact h

theorem judgeSuspended (s : State) (h : I s) : I s.judgeSuspended := by
  unfold State.judgeSuspended
  split
  · exact stable.isolate _ (stable.context _ _ h)
  · exact h

theorem enterResting (s : State) (h : I s) : I s.enterResting := by
  unfold State.enterResting
  dsimp only
  split
  · exact stable.judgeResting _ (stable.context _ _ (stable.release s h))
  · exact stable.context _ _ (stable.release s h)

theorem holdUnit (s : State) (h : I s) : I s.holdUnit :=
  stable.resumeMonitor _ (stable.post _ _ _ (by decide)
    (stable.postAll .leakHeld rfl _ _ (stable.context _ _ (stable.setMarks .held _ s h))))

theorem preempt (s : State) (h : I s) : I s.preempt := by
  unfold State.preempt
  split
  · exact stable.context _ _ (stable.release s h)
  · exact stable.endSearch s _ h

/-- So every move of the search keeps it. -/
theorem move {s t : State} (move : SearchMove s t) (h : I s) : I t := by
  cases move with
  | context f => exact stable.context s f h
  | ends r => exact stable.endSearch s r h
  | settles => exact stable.judgeSettling s h
  | rests => exact stable.judgeResting s h
  | resumes => exact stable.judgeSuspended s h
  | entersRest => exact stable.enterResting s h
  | holds => exact stable.holdUnit s h
  | preempts => exact stable.preempt s h
  | starts l => exact stable.startSearch s l h
  | releasesHeld => exact stable.context _ _ (stable.release s h)

end SearchStable

/-! ### Sections -/

theorem State.becomeLive_sec (s : State) (n m : Slot) :
    (s.becomeLive n).sec m =
      if m = n ∧ (s.sec n).slot = .starting then { s.sec n with slot := .live } else s.sec m := by
  unfold State.becomeLive
  split
  · next starting =>
    rw [State.restage_sec, State.modSec_sec]
    simp [starting, eq_comm]
  · next other => simp [other]

/-- The section whose OUTLET takes a capture: STARTING becomes LIVE (R10). -/
def SectionRecord.captured (r : SectionRecord) (v : Destination) : SectionRecord :=
  { r with outlet := v, slot := if r.slot = .starting then .live else r.slot }

theorem State.captureOutlet_sec (s : State) (n : Slot) (v : Destination) (m : Slot) :
    (s.captureOutlet n v).sec m = if m = n then (s.sec n).captured v else s.sec m := by
  have live : ((s.setDest (.outlet n) v).becomeLive n).sec m =
      if m = n then (s.sec n).captured v else s.sec m := by
    rw [State.becomeLive_sec]
    simp only [State.setDest, State.modSec_sec_self, SectionRecord.captured]
    by_cases same : m = n
    · subst same
      by_cases starting : (s.sec m).slot = .starting <;> simp [starting]
    · simp [same, State.modSec_sec_ne]
  unfold State.captureOutlet
  dsimp only
  rw [State.evalLines_sec]
  split
  · rw [State.joinQueue_sec, live]
  · exact live

theorem State.enrol_sec (s : State) (n : Slot) (c : SectionConfig) (m : Slot) :
    (s.enrol n c).sec m =
      if m = n then .enrolled c (s.loopRec c.loopOf).regime (s.expiryIn 10) else s.sec m := by
  have record : ((s.modSec n fun _ => .enrolled c (s.loopRec c.loopOf).regime (s.expiryIn 10)).enableFan n).sec m =
      if m = n then .enrolled c (s.loopRec c.loopOf).regime (s.expiryIn 10) else s.sec m := by
    rw [State.enableFan_sec, State.modSec_sec]
    simp only [eq_comm]
  unfold State.enrol
  dsimp only
  rw [State.restage_sec]
  split
  · rw [State.postValve_sec, record]
  · exact record

theorem State.setProtection_sec (s : State) (n : Slot) (p : Protection) (m : Slot) :
    (s.setProtection n p).sec m = if m = n then { s.sec n with protection := p } else s.sec m := by
  unfold State.setProtection
  dsimp only
  rw [State.evalLines_sec, State.decidePump_sec, State.restage_sec, State.modSec_sec]
  simp only [eq_comm]

theorem Drain.sec {s : State} {n : Slot} {t : State} (drains : Drain s n t) (m : Slot) :
    t.sec m = s.sec m ∨
      m = n ∧ (s.sec n).slot = .retiring ∧
        (t.sec m = .cleared ∨
          ∃ fan valve, t.sec m = { s.sec n with fanDrained := fan, valveDrained := valve }) := by
  by_cases same : m = n
  · subst same
    cases drains with
    | unmet => exact .inl rfl
    | met fan valve retiring => exact .inr ⟨rfl, retiring, .inr ⟨fan, valve, by simp⟩⟩
    | cleared retiring => exact .inr ⟨rfl, retiring, .inl (by simp)⟩
  · refine .inl ?_
    cases drains with
    | unmet => rfl
    | met => simp [State.modSec_sec_ne _ _ same]
    | cleared => simp [State.modSec_sec_ne _ _ same]

/-! ### A section that retires -/

/-- What RETIRE of a section leaves of a section's record, but for marks, refresh timers and the valve condition. -/
def State.retiredSec (s : State) (n m : Slot) : SectionRecord :=
  let r := s.sec m
  let r := if m = leadOf n then { r with config := { r.config with gangFlag := false } } else r
  if m = n then
    { r with
      slot := .retiring, evalTimer := none, fanDrained := false, outlet := .awaiting, air := .awaiting
      valve := .awaiting }
  else r

/-- A reading of a section that does not look at its mark, its refresh timer and its valve condition. -/
structure ValveBlind {β : Type} (g : SectionRecord → β) : Prop where
  mark : MarkBlind g
  drained : ∀ r b, g { r with valveDrained := b } = g r

theorem State.retireValve_keeps {β : Type} (g : SectionRecord → β) (blind : ValveBlind g) (s : State) (n m : Slot) :
    g ((s.retireValve n).sec m) = g (s.sec m) := by
  have write (r : SectionRecord) (mark : Mark) (timer : Option Nat) (drained : Bool) :
      g { r with mark := mark, refreshTimer := timer, valveDrained := drained } = g r := by
    rw [blind.drained { r with mark := mark, refreshTimer := timer } drained, blind.mark]
  have one (u : State) (f : SectionRecord → SectionRecord) (hf : ∀ r, g (f r) = g r) :
      g ((u.modSec n f).sec m) = g (u.sec m) := by
    rw [State.modSec_sec]
    split
    · next same => rw [hf, same]
    · rfl
  unfold State.retireValve
  dsimp only
  split
  · rw [State.modSearch_sec, State.setMarks_keeps g blind.mark, one _ _ fun r => write r _ _ _,
      State.removeEntry_sec]
  all_goals
    split
    · rw [one _ _ fun r => write r r.mark _ _, State.postValve_sec]
    · exact one _ _ fun r => write r r.mark _ _

theorem foldl_emptyFor_sec (n m : Slot) (l : List BindingId) (s : State) :
    (l.foldl (State.emptyFor n) s).sec m = s.sec m :=
  foldl_keeps (fun s : State => s.sec m) _ (fun s b => by
    rw [State.emptyFor_eq]
    split <;> rfl) l s

theorem State.unbindSection_sec (s : State) (n m : Slot) :
    (s.unbindSection n).sec m =
      if m = n then { s.sec n with outlet := .awaiting, air := .awaiting, valve := .awaiting } else s.sec m := by
  rw [State.unbindSection_eq_foldl, State.modSec_sec]
  simp only [foldl_emptyFor_sec, eq_comm]

/-- The part of RETIRE before the valve. -/
def State.retireLinks (s : State) (n : Slot) : State :=
  let s := s.modSec n fun r => { r with slot := .retiring, evalTimer := none, fanDrained := false }
  let s := s.modSec (leadOf n) fun r => { r with config := { r.config with gangFlag := false } }
  (((s.unbindSection n).dropSectionCauses n).leaveQueue n).restagePair n

theorem State.retireRecords_eq (s : State) (n : Slot) :
    s.retireRecords n =
      ((((s.retireLinks n).retireValve n).leaveMasks n).decidePump (s.sec n).config.loopOf).formColdest
        (s.sec n).config.loopOf := rfl

theorem State.retireLinks_sec (s : State) (n m : Slot) : (s.retireLinks n).sec m = s.retiredSec n m := by
  unfold State.retireLinks State.retiredSec
  simp only [State.restagePair_sec, State.leaveQueue_sec, State.dropSectionCauses_sec, State.unbindSection_sec,
    State.modSec_sec]
  by_cases self : m = n
  · subst self
    by_cases lead : leadOf m = m
    · simp [lead]
    · simp [lead, Ne.symm lead]
  · by_cases lead : m = leadOf n
    · subst lead
      simp [self, Ne.symm self]
    · simp [self, Ne.symm self, lead, Ne.symm lead]

theorem State.retireRecords_keeps {β : Type} (g : SectionRecord → β) (blind : ValveBlind g) (s : State)
    (n m : Slot) : g ((s.retireRecords n).sec m) = g (s.retiredSec n m) := by
  rw [State.retireRecords_eq, State.formColdest_sec, State.decidePump_sec, State.leaveMasks_sec,
    State.retireValve_keeps g blind, State.retireLinks_sec]

end Sys2Proof.Machine
end

section
/-! PROOF. The attention set, the integrators, the curves and the orderings (R5, R46, R74, R162), move by move. -/

namespace Sys2Proof.Machine

open Sys2Proof

/-! ### The attention set -/

/-- A list of causes in the order of their keys, each with a subject of its kind. -/
def CausesKept (l : List Cause) : Prop :=
  l.Pairwise (fun a b => a.key < b.key) ∧ ∀ c ∈ l, c.subject < c.kind.subjects

theorem CauseKind.subjects_le (k : CauseKind) : k.subjects ≤ 48 := by
  cases k <;> decide

theorem CauseKind.code_injective {j k : CauseKind} (h : j.code = k.code) : j = k := by
  revert j k
  rintro ⟨⟩ ⟨⟩ <;> simp [CauseKind.code]

/-- Among legal causes the keys tell apart. -/
theorem Cause.key_injective {c d : Cause} (hc : c.subject < c.kind.subjects) (hd : d.subject < d.kind.subjects)
    (h : c.key = d.key) : c = d := by
  have := c.kind.subjects_le
  have := d.kind.subjects_le
  unfold Cause.key at h
  have kind : c.kind = d.kind := CauseKind.code_injective (by omega)
  have subject : c.subject = d.subject := by rw [kind] at h; omega
  cases c
  cases d
  simp_all

theorem CausesKept.insert {l : List Cause} (kept : CausesKept l) {c : Cause} (hc : c.subject < c.kind.subjects) :
    CausesKept (insertCause c l) := by
  obtain ⟨ordered, subjects⟩ := kept
  refine ⟨?_, fun d hd => ?_⟩
  · induction l with
    | nil => simp [insertCause]
    | cons d l ih =>
      have rest := List.pairwise_cons.mp ordered
      have after : CausesKept l := ⟨rest.2, fun e he => subjects e (List.mem_cons_of_mem d he)⟩
      unfold insertCause
      split
      · exact ordered
      · next different =>
        split
        · next first =>
          refine List.pairwise_cons.mpr ⟨fun e he => ?_, ordered⟩
          rcases List.mem_cons.mp he with rfl | he
          · exact first
          · exact first.trans (rest.1 e he)
        · next later =>
          have differs : c.key ≠ d.key := fun same =>
            different (Cause.key_injective hc (subjects d List.mem_cons_self) same)
          refine List.pairwise_cons.mpr ⟨fun e he => ?_, ih after.1 after.2⟩
          rcases (mem_insertCause e c l).mp he with he | rfl
          · exact rest.1 e he
          · omega
  · rcases (mem_insertCause d c l).mp hd with hd | rfl
    · exact subjects d hd
    · exact hc

theorem CausesKept.sublist {l l' : List Cause} (kept : CausesKept l) (h : l'.Sublist l) : CausesKept l' :=
  ⟨kept.1.sublist h, fun c hc => kept.2 c (h.subset hc)⟩

/-- What a move other than the search's makes of the attention set: causes leave, or one is posted, or a reset leaves
RESTARTED alone. -/
inductive AttentionChange (l : List Cause) : List Cause → Prop
  | leave {l' : List Cause} (sub : l'.Sublist l) : AttentionChange l l'
  | post (c : Cause) (subject : c.subject < c.kind.subjects) : AttentionChange l (insertCause c l)
  | restart : AttentionChange l [{ kind := .restarted, subject := 0 }]

theorem AttentionChange.of_eq {l l' : List Cause} (h : l' = l) : AttentionChange l l' := .leave (h ▸ .refl _)

theorem AttentionChange.kept {l l' : List Cause} (change : AttentionChange l l') (kept : CausesKept l) :
    CausesKept l' := by
  cases change with
  | leave sub => exact kept.sublist sub
  | post c subject => exact kept.insert subject
  | restart => exact ⟨by simp, by simp [CauseKind.subjects]⟩

theorem foldl_emptyFor_attention (n : Slot) (l : List BindingId) (s : State) :
    ((l.foldl (State.emptyFor n) s).attention).Sublist s.attention := by
  induction l generalizing s with
  | nil => exact .refl _
  | cons b l ih =>
    refine (ih _).trans ?_
    rw [State.emptyFor_eq]
    split
    · exact List.filter_sublist
    · exact .refl _

theorem State.unbindSection_attention_sublist (s : State) (n : Slot) :
    ((s.unbindSection n).attention).Sublist s.attention := by
  rw [State.unbindSection_eq_foldl, State.modSec_attention]
  exact foldl_emptyFor_attention n allBindings s

theorem State.retireValve_attention (s : State) (n : Slot) : (s.retireValve n).attention = s.attention := by
  unfold State.retireValve
  dsimp only
  split
  · simp
  all_goals split <;> simp

theorem State.retireRecords_attention (s : State) (n : Slot) :
    ((s.retireRecords n).attention).Sublist s.attention := by
  rw [State.retireRecords_eq]
  simp only [State.formColdest_attention, State.decidePump_attention, State.leaveMasks_attention,
    State.retireValve_attention, State.retireLinks, State.restagePair_attention, State.leaveQueue_attention]
  have drops (u : State) : ((u.dropSectionCauses n).attention).Sublist u.attention := List.filter_sublist
  refine (drops _).trans ?_
  exact (State.unbindSection_attention_sublist _ n).trans (.refl _)

theorem State.evalLinesOf_attention_eq (s : State) (d : DestField) : (s.evalLinesOf d).attention = s.attention := by
  rw [State.evalLinesOf_frame]

theorem State.captureOutlet_attention (s : State) (n : Slot) (v : Destination) :
    (s.captureOutlet n v).attention = s.attention := by
  unfold State.captureOutlet
  dsimp only
  split <;> simp

theorem Drain.attention {s : State} {n : Slot} {t : State} (drains : Drain s n t) : t.attention = s.attention := by
  cases drains <;> simp

theorem foldl_stopFan_frame (l : List Slot) (s : State) :
    l.foldl State.stopFan s =
      { s with sections := (l.foldl State.stopFan s).sections, fans := (l.foldl State.stopFan s).fans } := by
  induction l generalizing s with
  | nil => rfl
  | cons n l ih =>
    rw [List.foldl_cons, ih, State.stopFan_frame]

theorem Move.attention {s t : State} (move : Move s t) (notSearch : ¬ SearchMove s t) :
    AttentionChange s.attention t.attention := by
  cases move with
  | same records => rw [records]; exact .of_eq rfl
  | post k i subject => exact .post { kind := k, subject := i } subject
  | drop p => exact .leave List.filter_sublist
  | search move => exact absurd move notSearch
  | retire n => exact .leave (s.retireRecords_attention n)
  | drain n drains => exact .of_eq drains.attention
  | dest d v => exact .of_eq ((State.evalLinesOf_attention_eq _ d).trans (State.setDest_attention s d v))
  | outlet n v => exact .of_eq (s.captureOutlet_attention n v)
  | unsetLoop l => exact .leave List.filter_sublist
  | regime l g =>
    have posted : (s.changeRegime l g).attention = insertCause { kind := .regime, subject := l.val } s.attention := by
      unfold State.changeRegime
      simp only [State.decidePump_attention, State.post]
      rw [foldl_keeps State.attention _ fun s n => s.copyActive_attention l g n]
      rfl
    rw [posted]
    exact .post _ l.isLt
  | assertStop =>
    refine .of_eq ?_
    rw [State.decidePumps_attention, foldl_stopFan_frame]
  | reset fresh => rw [fresh]; exact .restart
  | enrol | record | gang | active | protect | join | evaluated | window | binding | entries | loop | decided
  | becomeSet | pump | curves | fan | fanRamp | configure | line | delay | releaseStop | stopInReset
  | assertReset =>
    refine .of_eq ?_
    simp [State.setProtection, State.assertReset]

theorem searchStable_attentionKept : SearchStable State.attentionKept where
  mark s m n h := by rw [State.attentionKept, State.setMark_attention]; exact h
  context _ _ h := h
  post s k i subject h := CausesKept.insert h subject
  window _ _ _ _ _ h := h

theorem Move.attentionKept {s t : State} (move : Move s t) (h : s.attentionKept) : t.attentionKept := by
  by_cases ofSearch : SearchMove s t
  · exact searchStable_attentionKept.move ofSearch h
  · exact (move.attention ofSearch).kept h

/-! ### The curves -/

theorem State.curvesKept_of_rest {s t : State} (rest : t.rest = s.rest) (h : s.curvesKept) : t.curvesKept := by
  have same : t.rest.curveA = s.rest.curveA ∧ t.rest.curveB = s.rest.curveB := by simp only [rest, and_self]
  obtain ⟨a, b⟩ : t.curveA = s.curveA ∧ t.curveB = s.curveB := same
  rwa [State.curvesKept, a, b]

theorem Drain.rest {s : State} {n : Slot} {t : State} (drains : Drain s n t) : t.rest = s.rest := by
  cases drains <;> simp

theorem searchStable_curvesKept : SearchStable State.curvesKept where
  mark s m n := State.curvesKept_of_rest (s.setMark_rest m n)
  context _ _ h := h
  post _ _ _ _ h := h
  window _ _ _ _ _ h := h

theorem reset_curvesKept : State.reset.curvesKept := by
  unfold State.curvesKept
  decide +kernel

theorem Move.curvesKept {s t : State} (move : Move s t) (h : s.curvesKept) : t.curvesKept := by
  cases move with
  | same records => rw [records]; exact h
  | search move => exact searchStable_curvesKept.move move h
  | curves a b ordered => exact ordered h
  | reset fresh => rw [fresh]; exact reset_curvesKept
  | drain n drains => exact State.curvesKept_of_rest drains.rest h
  | outlet n v =>
    refine State.curvesKept_of_rest ?_ h
    unfold State.captureOutlet
    dsimp only
    split <;> simp
  | assertStop =>
    refine State.curvesKept_of_rest ?_ h
    rw [State.decidePumps_rest, foldl_stopFan_frame]
    rfl
  | entries | stopInReset | assertReset | evaluated => exact h
  | post | drop | pump | fan | window | binding | loop | delay | enrol | record | gang | active | protect | retire
  | join | dest | decided | becomeSet | unsetLoop | regime | fanRamp | configure | line | releaseStop =>
    refine State.curvesKept_of_rest ?_ h
    simp [State.setProtection, State.retireRecords]

/-! ### The integrators and the orderings -/

/-- A section's integrator is in range and, once enrolled, its thresholds and limit sets are ordered. -/
def SectionRecord.inRange (r : SectionRecord) : Prop :=
  r.integrator ≤ 4000000 ∧ (r.slot ≠ .vacant → r.config.ordered = true ∧ r.active.ordered = true)

theorem inRange_valveBlind : ValveBlind SectionRecord.inRange := ⟨fun _ _ _ => rfl, fun _ _ => rfl⟩

/-- Every section is in range. -/
def State.sectionsInRange (s : State) : Prop := ∀ n, (s.sec n).inRange

theorem State.sectionsInRange_iff (s : State) :
    s.sectionsInRange ↔ s.integratorsBounded ∧ s.orderingsKept := forall_and

theorem State.sectionsInRange_of_sec {s t : State} (sec : ∀ n, t.sec n = s.sec n) (h : s.sectionsInRange) :
    t.sectionsInRange := fun n => by rw [sec]; exact h n

/-- One section changes to one in range. -/
theorem State.sectionsInRange_of_one {s t : State} (n : Slot) {r : SectionRecord}
    (sec : ∀ m, t.sec m = if m = n then r else s.sec m) (changed : r.inRange) (h : s.sectionsInRange) :
    t.sectionsInRange := fun m => by
  rw [sec]
  split
  · exact changed
  · exact h m

theorem State.modSec_sec_eq (s : State) (n : Slot) (f : SectionRecord → SectionRecord) (m : Slot) :
    (s.modSec n f).sec m = if m = n then f (s.sec n) else s.sec m := by
  rw [State.modSec_sec]
  simp only [eq_comm]

theorem searchStable_sectionsInRange : SearchStable State.sectionsInRange where
  mark s m n h := State.sectionsInRange_of_one n (s.setMark_sec m n) (h n) h
  context _ _ h := h
  post _ _ _ _ h := h
  window _ _ _ _ _ h := h

theorem SectionConfig.stored_ordered {c : SectionConfig} (h : c.ordered = true) (g : Regime) :
    (c.stored g).ordered = true := by
  obtain ⟨_, mild, frost⟩ := c.ordered_iff.mp h
  cases g
  · exact mild
  · exact frost

theorem SectionRecord.inRange_cleared : SectionRecord.cleared.inRange := ⟨by decide, fun h => absurd rfl h⟩

/-- The dependence of a section's range on its slot state is on being VACANT or not. -/
theorem SectionRecord.inRange_of_slot {r : SectionRecord} (h : r.inRange) (x : SlotState) (enrolled : r.slot ≠ .vacant) :
    ({ r with slot := x } : SectionRecord).inRange := ⟨h.1, fun _ => h.2 enrolled⟩

theorem SectionRecord.inRange_captured {r : SectionRecord} (h : r.inRange) (v : Destination) :
    (r.captured v).inRange := by
  refine ⟨h.1, fun enrolled => h.2 fun vacant => enrolled ?_⟩
  simp [SectionRecord.captured, vacant]

theorem SlotState.not_vacant_of_inService {x : SlotState} (h : x.inService = true) : x ≠ .vacant := by
  rintro rfl
  cases h

theorem State.inRange_retiredSec {s : State} (n m : Slot) (inService : (s.sec n).slot.inService = true)
    (h : s.sectionsInRange) : (s.retiredSec n m).inRange := by
  have flag (r : SectionRecord) (before : r.inRange) (on : Bool) :
      ({ r with config := { r.config with gangFlag := on } } : SectionRecord).inRange := before
  unfold State.retiredSec
  dsimp only
  split
  · next same =>
    subst same
    have ranged := SectionRecord.inRange_of_slot (h m) .retiring (SlotState.not_vacant_of_inService inService)
    split
    · exact flag _ ranged false
    · exact ranged
  · split
    · exact flag _ (h m) false
    · exact h m

theorem Drain.sectionsInRange {s : State} {n : Slot} {t : State} (drains : Drain s n t) (h : s.sectionsInRange) :
    t.sectionsInRange := fun m => by
  rcases drains.sec m with same | ⟨rfl, _, cleared | ⟨fan, valve, met⟩⟩
  · rw [same]; exact h m
  · rw [cleared]; exact SectionRecord.inRange_cleared
  · rw [met]; exact h m

theorem State.stopFan_sec (s : State) (n : Slot) :
    ∃ u, (∀ m, u.sec m = s.sec m) ∧ Drain u n (s.stopFan n) := by
  unfold State.stopFan
  split
  · exact ⟨_, fun m => State.modFan_sec s n _ m, State.checkFanDrain_drains _ n⟩
  · exact ⟨s, fun _ => rfl, .unmet⟩

/-- What every drain keeps, and what looks at the sections alone, the assertion of the stop input keeps. -/
theorem foldl_stopFan_keeps {I : State → Prop} (sections : ∀ s t : State, (∀ n, t.sec n = s.sec n) → I s → I t)
    (drains : ∀ s n t, Drain s n t → I s → I t) (l : List Slot) (s : State) (h : I s) :
    I (l.foldl State.stopFan s) := by
  induction l generalizing s with
  | nil => exact h
  | cons n l ih =>
    obtain ⟨u, same, drained⟩ := s.stopFan_sec n
    exact ih _ (drains u n _ drained (sections s u same h))

theorem State.copyActive_sectionsInRange (s : State) (l : LoopId) (g : Regime) (n : Slot) (h : s.sectionsInRange) :
    (s.copyActive l g n).sectionsInRange := by
  unfold State.copyActive
  split
  · next member =>
    refine State.sectionsInRange_of_one n (r := { s.sec n with active := (s.sec n).config.stored g }) (fun m => ?_)
      ⟨(h n).1, fun enrolled => ?_⟩ h
    · rw [State.restage_sec, State.modSec_sec_eq]
    · have ordered := ((h n).2 enrolled).1
      exact ⟨ordered, SectionConfig.stored_ordered ordered g⟩
  · exact h

theorem State.changeRegime_sectionsInRange (s : State) (l : LoopId) (g : Regime) (h : s.sectionsInRange) :
    (s.changeRegime l g).sectionsInRange := by
  have copies (slots : List Slot) (u : State) (before : u.sectionsInRange) :
      (slots.foldl (fun s n => s.copyActive l g n) u).sectionsInRange := by
    induction slots generalizing u with
    | nil => exact before
    | cons n slots ih => exact ih _ (u.copyActive_sectionsInRange l g n before)
  have before : (s.modLoop l fun r => { r with regime := g, regimeEntry := s.partTime }).sectionsInRange := h
  refine State.sectionsInRange_of_sec (fun n => ?_) (copies allSlots _ before)
  unfold State.changeRegime
  dsimp only
  rw [State.decidePump_sec, State.post_sec]

theorem Move.sectionsInRange {s t : State} (move : Move s t) (h : s.sectionsInRange) : t.sectionsInRange := by
  cases move with
  | same records => rw [records]; exact h
  | search move => exact searchStable_sectionsInRange.move move h
  | enrol n c vacant ordered =>
    exact State.sectionsInRange_of_one n (s.enrol_sec n c)
      ⟨Nat.zero_le _, fun _ => ⟨ordered, SectionConfig.stored_ordered ordered _⟩⟩ h
  | record n f others loop gang ordered =>
    refine State.sectionsInRange_of_one n (s.modSec_sec_eq n f) ?_ h
    rw [others]
    exact ⟨(h n).1, fun enrolled => ⟨ordered ((h n).2 enrolled).1, ((h n).2 enrolled).2⟩⟩
  | gang n on =>
    refine State.sectionsInRange_of_one n
      (r := { s.sec n with config := { (s.sec n).config with gangFlag := on } }) (fun m => ?_) (h n) h
    rw [State.restagePair_sec, State.modSec_sec_eq]
  | active n m ordered =>
    refine State.sectionsInRange_of_one n (r := { s.sec n with active := m }) (fun k => ?_)
      ⟨(h n).1, fun enrolled => ⟨((h n).2 enrolled).1, ordered ((h n).2 enrolled).1⟩⟩ h
    rw [State.restage_sec, State.modSec_sec_eq]
  | protect n p => exact State.sectionsInRange_of_one n (s.setProtection_sec n p) (h n) h
  | retire n inService =>
    intro m
    rw [s.retireRecords_keeps SectionRecord.inRange inRange_valveBlind]
    exact State.inRange_retiredSec n m inService h
  | drain n drains => exact drains.sectionsInRange h
  | join n =>
    refine State.sectionsInRange_of_one n (r := { s.sec n with evalTimer := none }) (fun m => ?_) (h n) h
    rw [State.joinQueue_sec, State.modSec_sec_eq]
  | evaluated n rest e now =>
    exact State.sectionsInRange_of_one n (State.modSec_sec_eq _ n _) ⟨integrate_le _ _ _ _, (h n).2⟩ h
  | dest d v =>
    intro m
    rw [State.evalLinesOf_frame]
    show ((s.setDest d v).sec m).inRange
    rw [State.setDest_sec_shape]
    exact h m
  | window d =>
    intro m
    rw [State.setDest_sec_shape]
    exact h m
  | outlet n v =>
    exact State.sectionsInRange_of_one n (s.captureOutlet_sec n v) (SectionRecord.inRange_captured (h n) v) h
  | regime l g => exact s.changeRegime_sectionsInRange l g h
  | assertStop =>
    refine State.sectionsInRange_of_sec (State.decidePumps_sec _) ?_
    exact foldl_stopFan_keeps (fun _ _ => State.sectionsInRange_of_sec) (fun _ _ _ => Drain.sectionsInRange) _ _ h
  | reset fresh =>
    intro m
    rw [fresh]
    show (tabGet (Vector.replicate 24 SectionRecord.cleared) m).inRange
    rw [tabGet_replicate]
    exact SectionRecord.inRange_cleared
  | entries | curves | stopInReset | assertReset => exact h
  | post | drop | binding | loop | decided | becomeSet | unsetLoop | pump | fan | fanRamp | configure | line | delay
  | releaseStop =>
    refine State.sectionsInRange_of_sec (fun n => ?_) h
    simp

/-- Settles O54, move by move. -/
theorem recordsStayInRange : Obligations.RecordsStayInRange := by
  intro s t attention integrators curves orderings stepped
  have ranges := step_keeps (fun _ _ => Move.sectionsInRange) stepped
    (s.sectionsInRange_iff.mpr ⟨integrators, orderings⟩)
  obtain ⟨bounded, ordered⟩ := t.sectionsInRange_iff.mp ranges
  exact ⟨step_keeps (fun _ _ => Move.attentionKept) stepped attention, bounded,
    step_keeps (fun _ _ => Move.curvesKept) stepped curves, ordered⟩

end Sys2Proof.Machine
end

section
/-! PROOF. The destination fields (R101) and the isolation marks (R135, R136), move by move. -/

namespace Sys2Proof.Machine

open Sys2Proof

/-! ### The destination fields -/

/-- The three destination fields of a section hold what their status says. -/
def SectionRecord.destsKept (r : SectionRecord) : Prop := r.outlet.kept ∧ r.air.kept ∧ r.valve.kept

/-- The four destination fields of a loop hold what their status says. -/
def LoopRecord.destsKept (r : LoopRecord) : Prop :=
  r.flow.kept ∧ r.pressure.kept ∧ r.concentration.kept ∧ r.air.kept

theorem State.destinationsKept_iff (s : State) :
    s.destinationsKept ↔ (∀ n, (s.sec n).destsKept) ∧ ∀ l, (s.loopRec l).destsKept := by
  refine ⟨fun h => ⟨fun n => ⟨h (.outlet n), h (.air n), h (.valve n)⟩,
    fun l => ⟨h (.loopFlow l), h (.loopPressure l), h (.loopConcentration l), h (.loopAir l)⟩⟩, ?_⟩
  rintro ⟨sections, loops⟩ (n | n | n | l | l | l | l)
  · exact (sections n).1
  · exact (sections n).2.1
  · exact (sections n).2.2
  · exact (loops l).1
  · exact (loops l).2.1
  · exact (loops l).2.2.1
  · exact (loops l).2.2.2

theorem State.dest_congr {s t : State} (sections : t.sections = s.sections) (loops : t.loops = s.loops)
    (d : DestField) : t.dest d = s.dest d := by
  cases d <;> simp only [State.dest, State.sec, State.loopRec, sections, loops]

theorem Destination.kept_awaiting : Destination.awaiting.kept := by
  simp [Destination.kept, Destination.awaiting]

/-- The sections' fields are kept by a change of one record that keeps its own, the loops' untouched. -/
theorem State.destinationsKept_of_one {s t : State} (n : Slot) {r : SectionRecord}
    (sec : ∀ m, t.sec m = if m = n then r else s.sec m) (changed : (s.sec n).destsKept → r.destsKept)
    (loops : ∀ l, (t.loopRec l).destsKept ↔ (s.loopRec l).destsKept) (h : s.destinationsKept) :
    t.destinationsKept := by
  obtain ⟨sections, before⟩ := s.destinationsKept_iff.mp h
  refine t.destinationsKept_iff.mpr ⟨fun m => ?_, fun l => (loops l).mpr (before l)⟩
  rw [sec]
  split
  · exact changed (sections n)
  · exact sections m

theorem State.destinationsKept_of {s t : State} (sections : ∀ n, (s.sec n).destsKept → (t.sec n).destsKept)
    (loops : ∀ l, (s.loopRec l).destsKept → (t.loopRec l).destsKept) (h : s.destinationsKept) :
    t.destinationsKept := by
  obtain ⟨ofSections, ofLoops⟩ := s.destinationsKept_iff.mp h
  exact t.destinationsKept_iff.mpr ⟨fun n => sections n (ofSections n), fun l => loops l (ofLoops l)⟩

theorem State.destinationsKept_congr {s t : State} (sec : ∀ n, t.sec n = s.sec n)
    (loops : ∀ l, t.loopRec l = s.loopRec l) (h : s.destinationsKept) : t.destinationsKept :=
  State.destinationsKept_of (fun n before => by rw [sec]; exact before) (fun l before => by rw [loops]; exact before) h

theorem destsKept_valveBlind : ValveBlind SectionRecord.destsKept := ⟨fun _ _ _ => rfl, fun _ _ => rfl⟩

/-- The fields are kept by a write of a loop record that keeps that loop's own. -/
theorem State.modLoop_destinationsKept (s : State) (l : LoopId) (f : LoopRecord → LoopRecord)
    (changed : (s.loopRec l).destsKept → (f (s.loopRec l)).destsKept) (h : s.destinationsKept) :
    (s.modLoop l f).destinationsKept := by
  obtain ⟨sections, loops⟩ := s.destinationsKept_iff.mp h
  refine State.destinationsKept_iff _ |>.mpr ⟨sections, fun k => ?_⟩
  rw [State.modLoop_loopRec]
  split
  · next at_ => subst at_; exact changed (loops l)
  · exact loops k

theorem searchStable_destinationsKept : SearchStable State.destinationsKept where
  mark s m n h := State.destinationsKept_of_one n (s.setMark_sec m n) id (fun l => by rw [State.setMark_loopRec]) h
  context _ _ h := h
  post _ _ _ _ h := h
  window s l _ _ _ h := s.modLoop_destinationsKept l _ (fun before => before) h

theorem Drain.loopRec {s : State} {n : Slot} {t : State} (drains : Drain s n t) (l : LoopId) :
    t.loopRec l = s.loopRec l := by
  cases drains <;> simp

theorem SectionRecord.destsKept_cleared : SectionRecord.cleared.destsKept :=
  ⟨Destination.kept_awaiting, Destination.kept_awaiting, Destination.kept_awaiting⟩

theorem Drain.destsKept {s : State} {n : Slot} {t : State} (drains : Drain s n t) (m : Slot)
    (before : (s.sec m).destsKept) : (t.sec m).destsKept := by
  rcases drains.sec m with same | ⟨rfl, _, cleared | ⟨fan, valve, met⟩⟩
  · rw [same]; exact before
  · rw [cleared]; exact SectionRecord.destsKept_cleared
  · rw [met]; exact before

theorem State.retiredSec_destsKept (s : State) (n m : Slot) (h : (s.sec m).destsKept) :
    (s.retiredSec n m).destsKept := by
  have awaiting := Destination.kept_awaiting
  unfold State.retiredSec
  dsimp only
  split
  · exact ⟨awaiting, awaiting, awaiting⟩
  · split <;> exact h

theorem State.retireValve_loops (s : State) (n : Slot) : (s.retireValve n).loops = s.loops := by
  unfold State.retireValve
  dsimp only
  split
  · simp
  all_goals split <;> simp

theorem foldl_emptyFor_loops (n : Slot) (l : List BindingId) (s : State) :
    (l.foldl (State.emptyFor n) s).loops = s.loops :=
  foldl_keeps State.loops _ (fun s b => by
    rw [State.emptyFor_eq]
    split <;> rfl) l s

theorem State.retireLinks_loops (s : State) (n : Slot) : (s.retireLinks n).loops = s.loops := by
  unfold State.retireLinks
  simp only [State.restagePair_loops, State.leaveQueue_loops, State.dropSectionCauses_loops,
    State.unbindSection_eq_foldl, State.modSec_loops, foldl_emptyFor_loops]

theorem State.retireRecords_loopRec (s : State) (n : Slot) (l : LoopId) :
    (s.retireRecords n).loopRec l =
      if l = (s.sec n).config.loopOf then
        { s.loopRec l with coldest := ((s.retireRecords n).loopRec l).coldest }
      else s.loopRec l := by
  have before : ((((s.retireLinks n).retireValve n).leaveMasks n).decidePump (s.sec n).config.loopOf).loops =
      s.loops := by
    rw [State.decidePump_loops, State.leaveMasks_loops, State.retireValve_loops, State.retireLinks_loops]
  rw [State.retireRecords_eq]
  generalize (((s.retireLinks n).retireValve n).leaveMasks n).decidePump (s.sec n).config.loopOf = u at before
  have same (k : LoopId) : u.loopRec k = s.loopRec k := by simp only [State.loopRec, before]
  unfold State.formColdest
  rw [State.modLoop_loopRec]
  split
  · next at_ => subst at_; simp [same]
  · next other => rw [if_neg (Ne.symm other), same]

theorem State.changeRegime_loopRec_eq (s : State) (l : LoopId) (g : Regime) (k : LoopId) :
    (s.changeRegime l g).loopRec k =
      if l = k then { s.loopRec k with regime := g, regimeEntry := s.partTime } else s.loopRec k := by
  unfold State.changeRegime
  dsimp only
  rw [State.decidePump_loopRec, State.post_loopRec,
    foldl_keeps (fun s : State => s.loopRec k) _ (fun s n => s.copyActive_loopRec l g n k), State.modLoop_loopRec]
  split
  · next same => subst same; rfl
  · rfl

theorem Move.destinationsKept {s t : State} (move : Move s t) (h : s.destinationsKept) : t.destinationsKept := by
  cases move with
  | same records => rw [records]; exact h
  | search move => exact searchStable_destinationsKept.move move h
  | enrol n c vacant ordered =>
    refine State.destinationsKept_of_one n (s.enrol_sec n c) (fun _ => ?_) (fun l => by rw [State.enrol_loopRec]) h
    exact ⟨Destination.kept_awaiting, Destination.kept_awaiting, Destination.kept_awaiting⟩
  | record n f others =>
    refine State.destinationsKept_of_one n (s.modSec_sec_eq n f) (fun before => ?_) (fun l => .rfl) h
    rw [others]
    exact before
  | gang n on =>
    refine State.destinationsKept_of_one n
      (r := { s.sec n with config := { (s.sec n).config with gangFlag := on } }) (fun m => ?_) id (fun l => ?_) h
    · rw [State.restagePair_sec, State.modSec_sec_eq]
    · rw [State.restagePair_loopRec]; rfl
  | active n m ordered =>
    refine State.destinationsKept_of_one n (r := { s.sec n with active := m }) (fun k => ?_) id (fun l => ?_) h
    · rw [State.restage_sec, State.modSec_sec_eq]
    · rw [State.restage_loopRec]; rfl
  | protect n p =>
    refine State.destinationsKept_of_one n (s.setProtection_sec n p) id (fun l => ?_) h
    simp [State.setProtection]
  | retire n inService =>
    refine State.destinationsKept_of (fun m before => ?_) (fun l before => ?_) h
    · rw [s.retireRecords_keeps SectionRecord.destsKept destsKept_valveBlind]
      exact s.retiredSec_destsKept n m before
    · rw [State.retireRecords_loopRec]
      split <;> exact before
  | drain n drains =>
    exact State.destinationsKept_of drains.destsKept (fun l before => by rw [drains.loopRec]; exact before) h
  | join n =>
    refine State.destinationsKept_of_one n (r := { s.sec n with evalTimer := none }) (fun m => ?_) id (fun l => ?_) h
    · rw [State.joinQueue_sec, State.modSec_sec_eq]
    · rw [State.joinQueue_loopRec]; rfl
  | evaluated n rest e now =>
    exact State.destinationsKept_of_one n (State.modSec_sec_eq _ n _) id (fun l => .rfl) h
  | dest d v kept =>
    intro e
    rw [State.dest_congr (State.evalLinesOf_sections _ _) (State.evalLinesOf_loops _ _), State.setDest_dest]
    split
    · exact kept (h d)
    · exact h e
  | window d =>
    intro e
    rw [State.setDest_dest]
    split
    · exact h d
    · exact h e
  | outlet n v kept =>
    refine State.destinationsKept_of_one n (s.captureOutlet_sec n v) (fun before => ⟨kept, before.2⟩) (fun l => ?_) h
    have loops : (s.captureOutlet n v).loopRec l = s.loopRec l := by
      unfold State.captureOutlet
      dsimp only
      split <;> simp [State.setDest]
    rw [loops]
  | loop l f others =>
    refine s.modLoop_destinationsKept l f (fun before => ?_) h
    rw [others]
    exact before
  | decided l f others =>
    refine State.destinationsKept_congr (State.decidePump_sec _ l) (State.decidePump_loopRec _ l)
      (s.modLoop_destinationsKept l f (fun before => ?_) h)
    rw [others]
    exact before
  | becomeSet l c =>
    refine State.destinationsKept_of (fun n before => by rw [State.becomeSet_sec]; exact before) (fun k before => ?_) h
    simp only [State.becomeSet, State.beginWindow, State.modLoop_loopRec, State.modPump_loopRec]
    split
    · next same => subst same; simpa [LoopRecord.destsKept] using before
    · exact before
  | unsetLoop l =>
    refine State.destinationsKept_of (fun n before => by rw [State.unsetLoop_sec]; exact before) (fun k before => ?_) h
    simp only [State.unsetLoop, State.dropLoopCauses_loopRec, State.modPump_loopRec, State.modLoop_loopRec]
    split
    · next same => subst same; exact before
    · exact before
  | regime l g =>
    refine State.destinationsKept_of (fun n before => ?_) (fun k before => ?_) h
    · rw [s.changeRegime_keeps SectionRecord.destsKept (fun _ _ => rfl) l g n]
      exact before
    · rw [State.changeRegime_loopRec_eq]
      split <;> exact before
  | assertStop =>
    obtain ⟨sections, loops⟩ := s.destinationsKept_iff.mp h
    refine State.destinationsKept_iff _ |>.mpr ⟨?_, fun l => ?_⟩
    · simp only [State.decidePumps_sec]
      refine foldl_stopFan_keeps (I := fun u => ∀ n, (u.sec n).destsKept) (fun s t same before n => ?_)
        (fun _ _ _ drains before m => drains.destsKept m (before m)) _ _ sections
      rw [same]
      exact before n
    · rw [State.decidePumps_loopRec, foldl_stopFan_frame]
      exact loops l
  | reset fresh =>
    rw [fresh]
    refine State.destinationsKept_iff _ |>.mpr ⟨fun n => ?_, fun l => ?_⟩
    · show (tabGet (Vector.replicate 24 SectionRecord.cleared) n).destsKept
      rw [tabGet_replicate]
      exact SectionRecord.destsKept_cleared
    · show (tabGet (Vector.replicate 4 LoopRecord.afterReset) l).destsKept
      rw [tabGet_replicate]
      exact ⟨Destination.kept_awaiting, Destination.kept_awaiting, Destination.kept_awaiting,
        Destination.kept_awaiting⟩
  | entries | curves | stopInReset | assertReset => exact h
  | post | drop | binding | pump | fan | fanRamp | configure | line | delay | releaseStop =>
    refine State.destinationsKept_congr (fun n => ?_) (fun l => ?_) h <;> simp

/-- Settles O59, move by move. -/
theorem destinationsKeepTheirTimers : Obligations.DestinationsKeepTheirTimers := fun _ _ kept stepped =>
  step_keeps (fun _ _ => Move.destinationsKept) stepped kept

end Sys2Proof.Machine
end

section
/-! PROOF. The isolation marks (R135, R136), move by move. -/

namespace Sys2Proof.Machine

open Sys2Proof

/-- No section is marked and nothing is isolated. -/
def State.unmarked (s : State) : Prop := (∀ n, (s.sec n).mark = .none) ∧ s.search.isolated = []

theorem State.unmarked.marksKept {s : State} (h : s.unmarked) : s.marksKept :=
  ⟨fun n marked => absurd (h.1 n) marked, fun _ => h.2⟩

theorem State.marksKept.unmarked {s : State} (h : s.marksKept)
    (state : s.search.state = .idle ∨ s.search.state = .resting ∨ s.search.state = .suspended) : s.unmarked := by
  have empty := h.2 state
  refine ⟨fun n => Classical.byContradiction fun marked => ?_, empty⟩
  have isolated := h.1 n marked
  rw [empty] at isolated
  cases isolated

/-- The unmarked stay so under what changes neither sections nor the isolated set. -/
theorem State.unmarked.congr {s t : State} (h : s.unmarked) (sec : ∀ n, t.sec n = s.sec n)
    (isolated : t.search.isolated = s.search.isolated) : t.unmarked :=
  ⟨fun n => by rw [sec]; exact h.1 n, isolated.trans h.2⟩

theorem State.unmarked.modSearch {s : State} (h : s.unmarked) (f : SearchContext → SearchContext)
    (isolated : (f s.search).isolated = s.search.isolated) : (s.modSearch f).unmarked :=
  h.congr (fun _ => rfl) isolated

theorem State.marksKept.congr {s t : State} (h : s.marksKept)
    (mark : ∀ n, (t.sec n).mark = (s.sec n).mark ∨ (t.sec n).mark = .none) (search : t.search = s.search) :
    t.marksKept := by
  rw [State.marksKept, search]
  refine ⟨fun n marked => h.1 n ?_, h.2⟩
  rcases mark n with same | none
  · rwa [← same]
  · exact absurd none marked

theorem State.marksKept.release {s : State} (h : s.marksKept) : s.release.unmarked := by
  refine ⟨fun n => ?_, by rw [State.release_search]⟩
  rw [State.release_mark]
  split
  · rfl
  · next outside => exact Classical.byContradiction fun marked => outside (h.1 n marked)

theorem State.marksKept.endSearch {s : State} (h : s.marksKept) (r : SearchResult) : (s.endSearch r).unmarked :=
  ⟨fun n => by rw [State.endSearch_sec]; exact h.release.1 n, by rw [State.endSearch_search]; rfl⟩

theorem State.unmarked.isolate {s : State} (h : s.unmarked) : s.isolate.marksKept := by
  have begun := h.modSearch
    (fun c =>
      { c with
        phase := some (if s.search.range.length = 1 then .confirm else .probe)
        probed := (s.search.range.length + 1) / 2 }) rfl
  unfold State.isolate
  dsimp only
  generalize s.modSearch _ = u at begun ⊢
  split
  · exact (begun.modSearch _ rfl).marksKept
  · split
    · exact ((begun.marksKept.endSearch .valveFault).congr (fun n => by rw [State.valveFault_sec])
        (by simp [State.valveFault])).marksKept
    · refine ⟨fun n marked => ?_, fun state => ?_⟩
      · rw [State.modSearch_sec, State.setMarks_mark] at marked
        split at marked
        · next isolated => exact isolated
        · exact absurd (begun.1 n) marked
      · rcases state with state | state | state <;> cases state

theorem State.unmarked.newStep {s : State} (h : s.unmarked) : s.newStep.marksKept :=
  (h.modSearch _ rfl).isolate

theorem State.unmarked.judgeResting {s : State} (h : s.unmarked) : s.judgeResting.marksKept := by
  unfold State.judgeResting
  split
  · exact (h.modSearch _ rfl).newStep
  · exact h.marksKept

theorem State.unmarked.judgeSuspended {s : State} (h : s.unmarked) : s.judgeSuspended.marksKept := by
  unfold State.judgeSuspended
  split
  · exact (h.modSearch _ rfl).isolate
  · exact h.marksKept

theorem State.marksKept.judgeSettling {s : State} (h : s.marksKept) : s.judgeSettling.marksKept := by
  unfold State.judgeSettling
  split
  · exact ⟨h.1, fun state => by rcases state with state | state | state <;> cases state⟩
  · exact h

theorem State.marksKept.enterResting {s : State} (h : s.marksKept) : s.enterResting.marksKept := by
  unfold State.enterResting
  dsimp only
  split
  · exact (h.release.modSearch _ rfl).judgeResting
  · exact (h.release.modSearch _ rfl).marksKept

theorem State.marksKept.holdUnit {s : State} (h : s.marksKept) : s.holdUnit.marksKept := by
  have search : s.holdUnit.search =
      { s.search with
        state := .held, result := .found, heldUnit := s.search.range.head?, phaseTimer := none, deadline := none,
        window := .empty } := by
    simp [State.holdUnit]
  have mark (n : Slot) :
      (s.holdUnit.sec n).mark = if n ∈ s.search.isolated then .held else (s.sec n).mark := by
    simp [State.holdUnit, State.setMarks_mark]
  refine ⟨fun n marked => ?_, fun state => ?_⟩
  · rw [mark] at marked
    rw [search]
    split at marked
    · next isolated => exact isolated
    · exact h.1 n marked
  · rw [search] at state
    rcases state with state | state | state <;> cases state

theorem State.marksKept.preempt {s : State} (h : s.marksKept) : s.preempt.marksKept := by
  unfold State.preempt
  split
  · exact (h.release.modSearch _ rfl).marksKept
  · exact (h.endSearch _).marksKept

theorem State.unmarked.startSearch {s : State} (h : s.unmarked) (l : LoopId) : (s.startSearch l).marksKept := by
  refine State.unmarked.newStep ⟨fun n => ?_, ?_⟩
  · rw [State.abandonWindow_sec]
    exact h.1 n
  · rw [State.abandonWindow_search]
    rfl

theorem SearchMove.marksKept {s t : State} (move : SearchMove s t) (h : s.marksKept) : t.marksKept := by
  cases move with
  | context f state isolated =>
    rw [State.marksKept, State.modSearch_search, state, isolated]
    exact h
  | ends r => exact (h.endSearch r).marksKept
  | settles => exact h.judgeSettling
  | rests state => exact (h.unmarked (.inr (.inl state))).judgeResting
  | resumes state => exact (h.unmarked (.inr (.inr state))).judgeSuspended
  | entersRest => exact h.enterResting
  | holds => exact h.holdUnit
  | preempts => exact h.preempt
  | starts l state => exact (h.unmarked (.inl state)).startSearch l
  | releasesHeld => exact (h.release.modSearch _ rfl).marksKept

/-- A change of one record that leaves its mark keeps the marks. -/
theorem State.marksKept.one {s t : State} (h : s.marksKept) (n : Slot) {r : SectionRecord}
    (sec : ∀ m, t.sec m = if m = n then r else s.sec m) (mark : r.mark = (s.sec n).mark ∨ r.mark = .none)
    (search : t.search = s.search) : t.marksKept := by
  refine h.congr (fun m => ?_) search
  rw [sec]
  split
  · next same => subst same; exact mark
  · exact .inl rfl

theorem Drain.search {s : State} {n : Slot} {t : State} (drains : Drain s n t) : t.search = s.search := by
  cases drains <;> simp

theorem Drain.mark {s : State} {n : Slot} {t : State} (drains : Drain s n t) (m : Slot) :
    (t.sec m).mark = (s.sec m).mark ∨ (t.sec m).mark = .none := by
  rcases drains.sec m with same | ⟨rfl, _, cleared | ⟨fan, valve, met⟩⟩
  · exact .inl (by rw [same])
  · exact .inr (by rw [cleared]; rfl)
  · exact .inl (by rw [met])

theorem State.retiredSec_mark (s : State) (n m : Slot) : (s.retiredSec n m).mark = (s.sec m).mark := by
  unfold State.retiredSec
  dsimp only
  split
  · split <;> rfl
  · split <;> rfl

theorem foldl_emptyFor_search (n : Slot) (l : List BindingId) (s : State) :
    (l.foldl (State.emptyFor n) s).search = s.search :=
  foldl_keeps State.search _ (fun s b => by
    rw [State.emptyFor_eq]
    split <;> rfl) l s

theorem State.retireLinks_search (s : State) (n : Slot) : (s.retireLinks n).search = s.search := by
  unfold State.retireLinks
  simp only [State.restagePair_search, State.leaveQueue_search, State.dropSectionCauses_search,
    State.unbindSection_eq_foldl, State.modSec_search, foldl_emptyFor_search]

/-- A HELD section that retires takes the marks of its unit with it; another leaves all marks as they are (R25). -/
theorem State.marksKept.retireValve {s : State} (h : s.marksKept) (n : Slot) : (s.retireValve n).marksKept := by
  have one (u : State) (f : SectionRecord → SectionRecord) (same : ∀ r, (f r).mark = r.mark)
      (sec : ∀ m, u.sec m = s.sec m) (search : u.search = s.search) : (u.modSec n f).marksKept := by
    refine h.congr (fun m => .inl ?_) search
    rw [State.modSec_sec_eq]
    split
    · next at_ => subst at_; rw [same, sec]
    · rw [sec]
  unfold State.retireValve
  dsimp only
  split
  · refine State.unmarked.marksKept ⟨fun m => ?_, rfl⟩
    rw [State.modSearch_sec, State.setMarks_mark, State.modSec_sec_eq]
    split
    · rfl
    · next outside =>
      split
      · rfl
      · next other =>
        rw [State.removeEntry_sec]
        refine Classical.byContradiction fun marked => outside ?_
        simpa [other] using h.1 m marked
  all_goals
    split
    · exact one _ _ (fun _ => rfl) (State.postValve_sec s n _) rfl
    · exact one s _ (fun _ => rfl) (fun _ => rfl) rfl

theorem Move.marksKept {s t : State} (move : Move s t) (h : s.marksKept) : t.marksKept := by
  cases move with
  | same records => rw [records]; exact h
  | search move => exact move.marksKept h
  | enrol n c => exact h.one n (s.enrol_sec n c) (.inr rfl) (by simp)
  | record n f others => exact h.one n (s.modSec_sec_eq n f) (.inl (by rw [others])) rfl
  | gang n on =>
    refine h.congr (fun m => .inl ?_) (by simp)
    rw [State.restagePair_sec, State.modSec_sec_eq]
    split
    · next same => subst same; rfl
    · rfl
  | active n m =>
    refine h.congr (fun k => .inl ?_) (by simp)
    rw [State.restage_sec, State.modSec_sec_eq]
    split
    · next same => subst same; rfl
    · rfl
  | protect n p => exact h.one n (s.setProtection_sec n p) (.inl rfl) (by simp [State.setProtection])
  | retire n =>
    have linked : (s.retireLinks n).marksKept :=
      h.congr (fun m => .inl (by rw [State.retireLinks_sec, State.retiredSec_mark])) (s.retireLinks_search n)
    rw [State.retireRecords_eq]
    exact (linked.retireValve n).congr (fun m => .inl (by simp)) (by simp)
  | drain n drains => exact h.congr drains.mark drains.search
  | join n =>
    refine h.congr (fun k => .inl ?_) (by simp)
    rw [State.joinQueue_sec, State.modSec_sec_eq]
    split
    · next same => subst same; rfl
    · rfl
  | evaluated n rest e now => exact h.one n (State.modSec_sec_eq _ n _) (.inl rfl) rfl
  | dest d v =>
    refine h.congr (fun m => .inl ?_) (by simp)
    rw [State.evalLinesOf_sec, State.setDest_sec_shape]
  | window d =>
    refine h.congr (fun m => .inl ?_) (by simp)
    rw [State.setDest_sec_shape]
  | outlet n v =>
    refine h.one n (s.captureOutlet_sec n v) (.inl rfl) ?_
    unfold State.captureOutlet
    dsimp only
    split <;> simp
  | regime l g =>
    exact h.congr (fun m => .inl (s.changeRegime_keeps (·.mark) (fun _ _ => rfl) l g m)) (s.changeRegime_search l g)
  | assertStop =>
    refine h.congr (fun m => ?_) (by rw [State.decidePumps_search, foldl_stopFan_frame])
    rw [State.decidePumps_sec]
    refine foldl_stopFan_keeps (I := fun u => (u.sec m).mark = (s.sec m).mark ∨ (u.sec m).mark = .none)
      (fun u v same before => ?_) (fun u k v drains before => ?_) _ _ (.inl rfl)
    · rwa [same]
    · rcases drains.mark m with same | none
      · rwa [same]
      · exact .inr none
  | reset fresh =>
    rw [fresh]
    refine State.unmarked.marksKept ⟨fun n => ?_, rfl⟩
    show (tabGet (Vector.replicate 24 SectionRecord.cleared) n).mark = .none
    rw [tabGet_replicate]
    rfl
  | entries | curves | stopInReset | assertReset => exact h
  | post | drop | binding | loop | decided | becomeSet | unsetLoop | pump | fan | fanRamp | configure | line | delay
  | releaseStop =>
    refine h.congr (fun n => .inl ?_) ?_ <;> simp

/-- Settles O58, move by move. -/
theorem marksBelongToTheSearch : Obligations.MarksBelongToTheSearch := fun _ _ kept stepped =>
  step_keeps (fun _ _ => Move.marksKept) stepped kept

end Sys2Proof.Machine
end

section
/-! PROOF. The clear lines and their conditions (R157, R158), move by move. -/

namespace Sys2Proof.Machine

open Sys2Proof

/-- A line is ASSERTED or timing exactly while a condition holds. -/
def ClearLine.holds (c : ClearLine) (condition : Bool) : Prop :=
  (c.state = .asserted ∨ c.timer ≠ none) ↔ condition = true

/-- The lines whose masks are among some hold exactly while their conditions do. -/
def State.linesHeldFor (ok : BitVec 24 → Prop) (s : State) : Prop :=
  ∀ k, ok (s.line k).mask → (s.line k).holds (s.maskSafe (s.line k).mask)

theorem State.linesHeld_iff (s : State) : s.linesHeld ↔ s.linesHeldFor fun _ => True :=
  ⟨fun h k _ => h k, fun h k => h k trivial⟩

theorem ClearLine.act_holds (c : ClearLine) (condition : Bool) (expiry : Nat) :
    (c.act condition expiry).holds condition := by
  unfold ClearLine.act ClearLine.holds
  cases condition with
  | false => simp
  | true =>
    cases before : c.wasTrue with
    | true => simpa [ClearLine.wasTrue, Option.isSome_iff_ne_none] using before
    | false =>
      by_cases atOnce : c.delayCode = 0
      · simp [atOnce]
      · simp [atOnce]

/-- The condition of a mask depends on its members alone. -/
theorem State.maskSafe_of_members {s t : State} {mask : BitVec 24}
    (h : ∀ m : Slot, mask.getLsbD m.val = true → (t.sec m).safe = (s.sec m).safe) :
    t.maskSafe mask = s.maskSafe mask := by
  have members : (maskSlots mask).all (fun m => (t.sec m).safe) = (maskSlots mask).all fun m => (s.sec m).safe := by
    rw [Bool.eq_iff_iff, List.all_eq_true, List.all_eq_true]
    refine forall₂_congr fun m member => ?_
    rw [h m (by simpa [maskSlots, mem_allSlots] using member)]
  rw [State.maskSafe, State.maskSafe, members]

namespace State.linesHeldFor

variable {ok : BitVec 24 → Prop} {s t : State}

theorem congr (h : s.linesHeldFor ok) (lines : ∀ k, t.line k = s.line k)
    (safe : ∀ m, (t.sec m).safe = (s.sec m).safe) : t.linesHeldFor ok := by
  intro k among
  rw [lines] at among ⊢
  rw [State.maskSafe_congr safe]
  exact h k among

/-- After a change of one section its lines are evaluated. -/
theorem evaluated (h : s.linesHeldFor ok) (n : Slot) (lines : ∀ k, t.line k = s.line k)
    (safe : ∀ m, m ≠ n → (t.sec m).safe = (s.sec m).safe) : (t.evalLines n).linesHeldFor ok := by
  intro k among
  have condition (mask : BitVec 24) : (t.evalLines n).maskSafe mask = t.maskSafe mask :=
    State.maskSafe_congr (fun m => by rw [State.evalLines_sec]) mask
  rw [condition]
  rw [State.evalLines_line, lines] at among ⊢
  split
  · next member => rw [ClearLine.act_mask]; exact ClearLine.act_holds _ _ _
  · next other =>
    rw [if_neg other] at among
    rw [State.maskSafe_of_members fun m member => safe m fun same => other (same ▸ member)]
    exact h k among

end State.linesHeldFor

theorem searchStable_linesHeldFor (ok : BitVec 24 → Prop) : SearchStable (State.linesHeldFor ok) where
  mark s m n h := by
    obtain ⟨u, lines, others, marked⟩ :
        ∃ u : State, (∀ k, u.line k = s.line k) ∧ (∀ m, m ≠ n → u.sec m = s.sec m) ∧
          s.setMark m n = u.evalLines n := by
      refine ⟨_, fun k => ?_, fun k other => ?_, rfl⟩
      · rw [State.restage_line]
        split <;> rfl
      · rw [State.restage_sec]
        split
        · rw [State.modSec_sec_ne _ _ other, State.postValve_sec, State.modSec_sec_ne _ _ other]
        · rw [State.modSec_sec_ne _ _ other]
    rw [marked]
    exact h.evaluated n lines fun m other => by rw [others m other]
  context _ _ h := h
  post _ _ _ _ h := h
  window _ _ _ _ _ h := h

theorem Drain.line {s : State} {n : Slot} {t : State} (drains : Drain s n t) (k : LineId) : t.line k = s.line k := by
  cases drains <;> simp

theorem SectionRecord.safe_eq_false_of_slot {r : SectionRecord} (h : r.slot ≠ .live) : r.safe = false := by
  simp [SectionRecord.safe, h]

/-- A RETIRING section is not safe to load, nor is a VACANT one. -/
theorem Drain.safe {s : State} {n : Slot} {t : State} (drains : Drain s n t) (m : Slot) :
    (t.sec m).safe = (s.sec m).safe := by
  rcases drains.sec m with same | ⟨rfl, retiring, cleared | ⟨fan, valve, met⟩⟩
  · rw [same]
  · rw [cleared, SectionRecord.safe_eq_false_of_slot (r := s.sec m) (by rw [retiring]; decide)]
    rfl
  · rw [met]; rfl

theorem State.retireLinks_line (s : State) (n : Slot) (k : LineId) : (s.retireLinks n).line k = s.line k := by
  unfold State.retireLinks
  simp only [State.restagePair_line, State.leaveQueue_line, State.dropSectionCauses_line,
    State.unbindSection_eq_foldl, State.modSec_line]
  rw [foldl_keeps (fun s : State => s.line k) (State.emptyFor n) fun s b => by
    rw [State.emptyFor_eq]
    split <;> rfl]
  rfl

theorem State.retiredSec_safe_other (s : State) {n m : Slot} (other : m ≠ n) :
    (s.retiredSec n m).safe = (s.sec m).safe := by
  unfold State.retiredSec
  dsimp only
  rw [if_neg other]
  split <;> rfl

/-- The lines that do not hold a section stay held while it retires. -/
theorem State.retireValve_linesHeldFor {s : State} {n : Slot}
    (h : s.linesHeldFor fun mask => mask.getLsbD n.val = false) :
    (s.retireValve n).linesHeldFor fun mask => mask.getLsbD n.val = false := by
  have stable := searchStable_linesHeldFor fun mask => mask.getLsbD n.val = false
  have one (u : State) (f : SectionRecord → SectionRecord) (lines : ∀ k, u.line k = s.line k)
      (sec : ∀ m, u.sec m = s.sec m) : (u.modSec n f).linesHeldFor fun mask => mask.getLsbD n.val = false := by
    intro k outside
    rw [State.modSec_line, lines] at outside ⊢
    have others : (u.modSec n f).maskSafe (s.line k).mask = s.maskSafe (s.line k).mask :=
      State.maskSafe_of_members fun m member => by
        have other : m ≠ n := by
          rintro rfl
          rw [member] at outside
          cases outside
        rw [State.modSec_sec_ne _ _ other, sec]
    rw [others]
    exact h k outside
  unfold State.retireValve
  dsimp only
  split
  · exact stable.context _ _ (stable.setMarks .none _ _ (one _ _ (s.removeEntry_line n) (s.removeEntry_sec n)))
  all_goals
    split
    · exact one _ _ (s.postValve_line n _) (s.postValve_sec n _)
    · exact one s _ (fun _ => rfl) (fun _ => rfl)

/-- A section leaves every mask, and the lines it leaves are evaluated. -/
theorem State.leaveMasks_linesHeld {s : State} {n : Slot}
    (h : s.linesHeldFor fun mask => mask.getLsbD n.val = false) : (s.leaveMasks n).linesHeld := by
  intro k
  have condition (mask : BitVec 24) : (s.leaveMasks n).maskSafe mask = s.maskSafe mask :=
    State.maskSafe_congr (fun m => by rw [State.leaveMasks_sec]) mask
  show ((s.leaveMasks n).line k).holds _
  rw [condition, State.leaveMasks_line]
  split
  · rw [ClearLine.act_mask]
    exact ClearLine.act_holds _ _ _
  · next outside => exact h k (Bool.eq_false_of_not_eq_true outside)

theorem State.retireRecords_linesHeld {s : State} (n : Slot) (h : s.linesHeld) : (s.retireRecords n).linesHeld := by
  have linked : (s.retireLinks n).linesHeldFor fun mask => mask.getLsbD n.val = false := by
    intro k outside
    rw [State.retireLinks_line] at outside ⊢
    have others : (s.retireLinks n).maskSafe (s.line k).mask = s.maskSafe (s.line k).mask :=
      State.maskSafe_of_members fun m member => by
        have other : m ≠ n := by
          rintro rfl
          rw [member] at outside
          cases outside
        rw [State.retireLinks_sec, s.retiredSec_safe_other other]
    rw [others]
    exact h k
  have left := State.leaveMasks_linesHeld (State.retireValve_linesHeldFor linked)
  rw [State.linesHeld_iff] at left ⊢
  rw [State.retireRecords_eq]
  exact left.congr (fun k => by simp) fun m => by simp

/-- Whether a section is safe to load depends on no other destination than its OUTLET. -/
theorem State.setDest_safe (s : State) (d : DestField) (v : Destination) {m : Slot} (other : outletSlot d ≠ some m) :
    ((s.setDest d v).sec m).safe = (s.sec m).safe := by
  cases d with
  | outlet n =>
    have differs : m ≠ n := fun same => other (by rw [same]; rfl)
    rw [State.setDest, State.modSec_sec_ne _ _ differs]
  | air n | valve n =>
    rw [State.setDest, State.modSec_sec]
    split
    · next same => subst same; rfl
    · rfl
  | loopFlow l | loopPressure l | loopConcentration l | loopAir l => rfl

theorem Move.linesHeld {s t : State} (move : Move s t) (h : s.linesHeld) : t.linesHeld := by
  rw [State.linesHeld_iff] at h ⊢
  have one {t : State} (n : Slot) {r : SectionRecord} (sec : ∀ m, t.sec m = if m = n then r else s.sec m)
      (safe : r.safe = (s.sec n).safe) (lines : ∀ k, t.line k = s.line k) : t.linesHeldFor fun _ => True :=
    h.congr lines fun m => by
      rw [sec]
      split
      · next same => rw [same]; exact safe
      · rfl
  cases move with
  | same records => rw [records]; exact h
  | search move => exact (searchStable_linesHeldFor _).move move h
  | enrol n c vacant =>
    refine one n (s.enrol_sec n c) ?_ (fun k => by simp)
    rw [SectionRecord.safe_eq_false_of_slot (r := s.sec n) (by rw [vacant]; decide)]
    rfl
  | record n f others =>
    refine one n (s.modSec_sec_eq n f) ?_ fun k => rfl
    rw [others]
    rfl
  | gang n on =>
    refine one n (r := { s.sec n with config := { (s.sec n).config with gangFlag := on } }) (fun m => ?_) rfl
      (fun k => by simp)
    rw [State.restagePair_sec, State.modSec_sec_eq]
  | active n m =>
    refine one n (r := { s.sec n with active := m }) (fun k => ?_) rfl (fun k => by simp)
    rw [State.restage_sec, State.modSec_sec_eq]
  | protect n p =>
    refine h.evaluated n (fun k => by simp) fun m other => ?_
    rw [State.decidePump_sec, State.restage_sec, State.modSec_sec_ne _ _ other]
  | retire n => exact (State.linesHeld_iff _).mp (State.retireRecords_linesHeld n ((State.linesHeld_iff _).mpr h))
  | drain n drains => exact h.congr drains.line drains.safe
  | join n =>
    refine one n (r := { s.sec n with evalTimer := none }) (fun k => ?_) rfl (fun k => by simp)
    rw [State.joinQueue_sec, State.modSec_sec_eq]
  | evaluated n rest e now => exact one n (State.modSec_sec_eq _ n _) rfl fun k => rfl
  | dest d v =>
    unfold State.evalLinesOf
    cases field : outletSlot d with
    | some n =>
      exact h.evaluated n (s.setDest_line d v) fun m other =>
        s.setDest_safe d v fun same => other (Option.some.inj (same.symm.trans field))
    | none => exact h.congr (s.setDest_line d v) fun m => s.setDest_safe d v (by rw [field]; nofun)
  | window d =>
    refine h.congr (s.setDest_line d _) fun m => ?_
    by_cases field : outletSlot d = some m
    · cases d <;> cases field
      simp [State.setDest, State.dest, SectionRecord.safe]
    · exact s.setDest_safe d _ field
  | outlet n v =>
    refine h.evaluated n (fun k => ?_) fun m other => ?_
    · split <;> simp [State.setDest]
    · have same : ((s.setDest (.outlet n) v).becomeLive n).sec m = s.sec m := by
        rw [State.becomeLive_sec, if_neg fun both => other both.1, State.setDest, State.modSec_sec_ne _ _ other]
      split
      · rw [State.joinQueue_sec, same]
      · rw [same]
  | line k mask code =>
    intro j _
    have condition (members : BitVec 24) : (s.setLine k mask code).maskSafe members = s.maskSafe members := rfl
    rw [condition]
    unfold State.setLine
    rw [State.evalLine_line]
    split
    · rw [ClearLine.act_mask]
      exact ClearLine.act_holds _ _ _
    · next other =>
      rw [State.modLine_line, if_neg other]
      exact h j trivial
  | delay k running =>
    intro j _
    rw [State.modLine_line]
    split
    · next same =>
      subst same
      have safe := (h k trivial).mp (.inr running)
      exact ⟨fun _ => safe, fun _ => .inl rfl⟩
    · exact h j trivial
  | regime l g =>
    exact h.congr (s.changeRegime_line l g) fun m => s.changeRegime_keeps (·.safe) (fun _ _ => rfl) l g m
  | assertStop =>
    refine h.congr (fun k => by rw [State.decidePumps_line, foldl_stopFan_frame]; rfl) fun m => ?_
    rw [State.decidePumps_sec]
    refine foldl_stopFan_keeps (I := fun u => (u.sec m).safe = (s.sec m).safe) (fun u v same before => ?_)
      (fun u k v drains before => (drains.safe m).trans before) _ _ rfl
    rw [same]
    exact before
  | reset fresh =>
    rw [fresh]
    have released (r : State) (lines : r.lines = Vector.replicate 4 .afterReset) : r.linesHeldFor fun _ => True := by
      intro k _
      rw [State.line, lines, tabGet_replicate]
      simp [ClearLine.holds, ClearLine.afterReset, State.maskSafe]
    exact released _ rfl
  | entries | curves | stopInReset | assertReset => exact h
  | post | drop | binding | loop | decided | becomeSet | unsetLoop | pump | fan | fanRamp | configure | releaseStop =>
    refine h.congr (fun k => ?_) (fun m => ?_) <;> simp

/-- Settles O57, move by move. -/
theorem clearLinesNeverHoldUnsafely : Obligations.ClearLinesNeverHoldUnsafely := fun _ _ held stepped =>
  step_keeps (fun _ _ => Move.linesHeld) stepped held

end Sys2Proof.Machine
end

section
/-! PROOF. The evaluation queue, the transmit queue, the bindings and the masks (R28, R98, R114, R156), move by move. -/

namespace Sys2Proof.Machine

open Sys2Proof

/-! ### What most moves leave of the tables -/

/-- A slot's state changes so that a LIVE slot stays LIVE and one in service stays in service. -/
def SlotState.Advances (x y : SlotState) : Prop := (x = .live → y = .live) ∧ (x.inService = true → y.inService = true)

theorem SlotState.Advances.of_eq {x y : SlotState} (h : y = x) : x.Advances y := h ▸ ⟨id, id⟩

theorem SlotState.advances_of_outOfService {x : SlotState} (h : x.inService = false) (y : SlotState) :
    x.Advances y := by
  refine ⟨fun live => ?_, fun service => ?_⟩
  · rw [live] at h
    cases h
  · rw [h] at service
    cases service

/-- The slots advance and no evaluation timer starts. -/
def SlotsAdvance (s t : State) : Prop :=
  ∀ m, ((s.sec m).slot.Advances (t.sec m).slot) ∧
    ((t.sec m).evalTimer = (s.sec m).evalTimer ∨ (t.sec m).evalTimer = none)

theorem SlotsAdvance.of_sec {s t : State} (sec : ∀ m, t.sec m = s.sec m) : SlotsAdvance s t := fun m => by
  rw [sec]
  exact ⟨.of_eq rfl, .inl rfl⟩

theorem SlotsAdvance.of_one {s t : State} (n : Slot) {r : SectionRecord}
    (sec : ∀ m, t.sec m = if m = n then r else s.sec m) (slot : (s.sec n).slot.Advances r.slot)
    (timer : r.evalTimer = (s.sec n).evalTimer ∨ r.evalTimer = none) : SlotsAdvance s t := fun m => by
  rw [sec]
  split
  · next same => subst same; exact ⟨slot, timer⟩
  · exact ⟨.of_eq rfl, .inl rfl⟩

theorem SlotsAdvance.advances {s t : State} (h : SlotsAdvance s t) (m : Slot) :
    (s.sec m).slot.Advances (t.sec m).slot := (h m).1

theorem State.queueKept.congr {s t : State} (h : s.queueKept) (queue : t.evalQueue = s.evalQueue)
    (slots : SlotsAdvance s t) : t.queueKept := by
  obtain ⟨nodup, queued, timed⟩ := h
  rw [State.queueKept, queue]
  refine ⟨nodup, fun n member => (slots n).1.1 (queued n member), fun n running => (slots n).1.1 (timed n ?_)⟩
  rcases (slots n).2 with same | stopped
  · rwa [← same]
  · exact absurd stopped running

theorem State.entriesKept.congr {s t : State} (h : s.entriesKept) (queue : t.txQueue = s.txQueue) :
    t.entriesKept := by
  rw [State.entriesKept, queue]
  exact h

theorem State.outOfService_advances {s t : State} (slots : ∀ m, (s.sec m).slot.Advances (t.sec m).slot) {d : DestField}
    (h : s.outOfService d = false) : t.outOfService d = false := by
  unfold State.outOfService at h ⊢
  split
  · next n field =>
    rw [field] at h
    simp only [Bool.not_eq_false'] at h ⊢
    exact (slots n).2 h
  · rfl

theorem State.bindingsKept.congr {s t : State} (h : s.bindingsKept) (binding : ∀ b, t.binding b = s.binding b)
    (slots : ∀ m, (s.sec m).slot.Advances (t.sec m).slot) : t.bindingsKept := by
  refine ⟨fun b c d => by rw [binding, binding]; exact h.1 b c d, fun b f fields => ?_⟩
  rw [binding] at fields
  obtain ⟨service, kind⟩ := h.2 b f fields
  exact ⟨State.outOfService_advances slots service, kind⟩

theorem State.masksKept.congr {s t : State} (h : s.masksKept) (mask : ∀ k, (t.line k).mask = (s.line k).mask)
    (slots : ∀ m, (s.sec m).slot.Advances (t.sec m).slot) : t.masksKept := fun k n member => by
  rw [mask] at member
  exact (slots n).2 (h k n member)

/-- The four invariants of the tables and queues. -/
def State.tablesKept (s : State) : Prop := s.queueKept ∧ s.entriesKept ∧ s.bindingsKept ∧ s.masksKept

/-- Two states with the same queues, bindings and masks, whose slots advance. -/
structure TablesFrame (s t : State) : Prop where
  evalQueue : t.evalQueue = s.evalQueue
  txQueue : t.txQueue = s.txQueue
  binding : ∀ b, t.binding b = s.binding b
  mask : ∀ k, (t.line k).mask = (s.line k).mask
  slots : SlotsAdvance s t

theorem TablesFrame.kept {s t : State} (frame : TablesFrame s t) (h : s.tablesKept) : t.tablesKept := by
  obtain ⟨queue, entries, bindings, masks⟩ := h
  exact ⟨queue.congr frame.evalQueue frame.slots, entries.congr frame.txQueue,
    bindings.congr frame.binding frame.slots.advances,
    masks.congr frame.mask frame.slots.advances⟩

theorem searchStable_tablesKept : SearchStable State.tablesKept where
  mark s m n h := by
    obtain ⟨queue, entries, bindings, masks⟩ := h
    have slots : SlotsAdvance s (s.setMark m n) := .of_one n (s.setMark_sec m n) (.of_eq rfl) (.inl rfl)
    refine ⟨queue.congr (s.setMark_evalQueue m n) slots, ?_, bindings.congr (s.setMark_binding m n) slots.advances,
      masks.congr (s.setMark_mask m n) slots.advances⟩
    rw [State.entriesKept, State.setMark_txQueue]
    split
    · exact postEntry_slots_nodup n _ _ entries
    · exact entries
  context _ _ h := h
  post _ _ _ _ h := h
  window _ _ _ _ _ h := h

theorem Drain.slotsAdvance {s : State} {n : Slot} {t : State} (drains : Drain s n t) : SlotsAdvance s t := fun m => by
  rcases drains.sec m with same | ⟨rfl, retiring, cleared | ⟨fan, valve, met⟩⟩
  · rw [same]
    exact ⟨.of_eq rfl, .inl rfl⟩
  · rw [cleared, retiring]
    exact ⟨SlotState.advances_of_outOfService rfl _, .inr rfl⟩
  · rw [met]
    exact ⟨.of_eq rfl, .inl rfl⟩

theorem SlotsAdvance.trans {s t u : State} (first : SlotsAdvance s t) (then_ : SlotsAdvance t u) : SlotsAdvance s u :=
  fun m => by
    obtain ⟨⟨live, service⟩, timer⟩ := first m
    obtain ⟨⟨live', service'⟩, timer'⟩ := then_ m
    refine ⟨⟨live' ∘ live, service' ∘ service⟩, ?_⟩
    rcases timer' with same | stopped
    · rw [same]
      exact timer
    · exact .inr stopped

/-! ### Retirement -/

/-- A section that retires leaves the evaluation queue, the bindings and the masks, and every other section's slot
state and evaluation timer stay. -/
theorem State.retireRecords_slot (s : State) (n m : Slot) :
    ((s.retireRecords n).sec m).slot = (if m = n then .retiring else (s.sec m).slot) ∧
      ((s.retireRecords n).sec m).evalTimer = if m = n then none else (s.sec m).evalTimer := by
  have blind : ValveBlind fun r : SectionRecord => (r.slot, r.evalTimer) := ⟨fun _ _ _ => rfl, fun _ _ => rfl⟩
  have pair := s.retireRecords_keeps _ blind n m
  obtain ⟨slot, timer⟩ := Prod.mk.inj pair
  rw [slot, timer]
  unfold State.retiredSec
  dsimp only
  split
  · exact ⟨rfl, rfl⟩
  · split <;> exact ⟨rfl, rfl⟩

theorem State.retireValve_mask (s : State) (n : Slot) (k : LineId) :
    ((s.retireValve n).line k).mask = (s.line k).mask := by
  unfold State.retireValve
  dsimp only
  split
  · rw [State.modSearch_line, State.setMarks_mask]
    rfl
  all_goals split <;> rfl

theorem State.retireLinks_evalQueue (s : State) (n : Slot) :
    (s.retireLinks n).evalQueue = s.evalQueue.filter (· != n) := by
  unfold State.retireLinks
  rw [State.restagePair_evalQueue, State.leaveQueue, State.dropSectionCauses_evalQueue, State.unbindSection_eq_foldl,
    State.modSec_evalQueue,
    foldl_keeps State.evalQueue (State.emptyFor n) fun s b => by
      rw [State.emptyFor_eq]
      split <;> rfl]
  rfl

theorem State.retireRecords_evalQueue (s : State) (n : Slot) :
    (s.retireRecords n).evalQueue = s.evalQueue.filter (· != n) := by
  rw [State.retireRecords_eq, State.formColdest_evalQueue, State.decidePump_evalQueue, State.leaveMasks_evalQueue,
    State.retireValve_evalQueue, State.retireLinks_evalQueue]

theorem State.retireRecords_binding (s : State) (n : Slot) (b : BindingId) :
    (s.retireRecords n).binding b = if (s.binding b).feedsSection n then .empty else s.binding b := by
  rw [State.retireRecords_eq, State.formColdest_binding, State.decidePump_binding, State.leaveMasks_binding,
    State.retireValve_binding, State.retireLinks, State.restagePair_binding, State.leaveQueue_binding,
    State.dropSectionCauses_binding, State.unbindSection_binding]
  rfl

theorem State.retireRecords_mask (s : State) (n : Slot) (k : LineId) :
    ((s.retireRecords n).line k).mask =
      if (s.line k).mask.getLsbD n.val then (s.line k).mask &&& ~~~(1#24 <<< n.val) else (s.line k).mask := by
  rw [State.retireRecords_eq, State.formColdest_line, State.decidePump_line, State.leaveMasks_line,
    State.retireValve_mask, State.retireLinks_line]
  split
  · rw [ClearLine.act_mask]
  · rw [State.retireValve_mask, State.retireLinks_line]

theorem State.retireLinks_txQueue (s : State) (n : Slot) : (s.retireLinks n).txQueue = s.txQueue := by
  unfold State.retireLinks
  rw [State.restagePair_txQueue, State.leaveQueue_txQueue, State.dropSectionCauses_txQueue,
    State.unbindSection_eq_foldl, State.modSec_txQueue,
    foldl_keeps State.txQueue (State.emptyFor n) fun s b => by
      rw [State.emptyFor_eq]
      split <;> rfl]
  rfl

theorem setMarks_entriesKept (m : Mark) (l : List Slot) (s : State) (h : s.entriesKept) :
    (s.setMarks m l).entriesKept := by
  induction l generalizing s with
  | nil => exact h
  | cons n l ih =>
    refine ih _ ?_
    rw [State.entriesKept, State.setMark_txQueue]
    split
    · exact postEntry_slots_nodup n _ _ h
    · exact h

theorem State.retireRecords_entriesKept {s : State} (n : Slot) (h : s.entriesKept) :
    (s.retireRecords n).entriesKept := by
  have linked : (s.retireLinks n).entriesKept := h.congr (s.retireLinks_txQueue n)
  rw [State.retireRecords_eq]
  generalize s.retireLinks n = u at linked
  refine State.entriesKept.congr (s := u.retireValve n) ?_ (by simp)
  unfold State.retireValve
  dsimp only
  split
  · refine setMarks_entriesKept .none _ _ ?_
    exact linked.sublist (List.filter_sublist.map _)
  all_goals
    split
    · exact postEntry_slots_nodup n _ _ linked
    · exact linked

theorem State.retireRecords_tablesKept {s : State} (n : Slot) (h : s.tablesKept) : (s.retireRecords n).tablesKept := by
  obtain ⟨⟨nodup, queued, timed⟩, entries, bindings, masks⟩ := h
  have other {m : Slot} (differs : m ≠ n) : ((s.retireRecords n).sec m).slot = (s.sec m).slot := by
    rw [(s.retireRecords_slot n m).1, if_neg differs]
  refine ⟨⟨?_, fun m queue => ?_, fun m running => ?_⟩, State.retireRecords_entriesKept n entries,
    ⟨fun b c d => ?_, fun b f fields => ?_⟩, fun k m member => ?_⟩
  · rw [State.retireRecords_evalQueue]
    exact nodup.filter _
  · rw [State.retireRecords_evalQueue, List.mem_filter, bne_iff_ne] at queue
    rw [other queue.2]
    exact queued m queue.1
  · rw [(s.retireRecords_slot n m).2] at running
    by_cases same : m = n
    · rw [if_pos same] at running
      exact absurd rfl running
    · rw [if_neg same] at running
      rw [other same]
      exact timed m running
  · rw [State.retireRecords_binding, State.retireRecords_binding]
    split
    · intro first
      cases first
    · split
      · intro _ second
        cases second
      · exact bindings.1 b c d
  · rw [State.retireRecords_binding] at fields
    split at fields
    · cases fields
    · next elsewhere =>
      obtain ⟨service, kind⟩ := bindings.2 b f fields
      refine ⟨?_, kind⟩
      unfold State.outOfService at service ⊢
      split
      · next m field =>
        rw [field] at service
        have differs : m ≠ n := by
          rintro rfl
          simp [BindingState.feedsSection, fields, field] at elsewhere
        rw [other differs]
        exact service
      · rfl
  · rw [State.retireRecords_mask] at member
    have differs : m ≠ n := by
      rintro rfl
      split at member
      · simp at member
      · next outside => exact outside member
    rw [other differs]
    refine masks k m ?_
    split at member
    · rw [BitVec.getLsbD_and, Bool.and_eq_true] at member
      exact member.1
    · exact member

/-! ### The moves -/

theorem State.queueKept.join {s : State} {n : Slot} (h : s.queueKept) (live : (s.sec n).slot = .live) :
    (s.joinQueue n).queueKept := by
  obtain ⟨nodup, queued, timed⟩ := h
  unfold State.joinQueue
  refine ⟨?_, fun m member => ?_, timed⟩
  · split
    · exact nodup
    · next outside => exact nodup.append (List.nodup_singleton n) (by simpa using outside)
  · dsimp only at member
    split at member
    · exact queued m member
    · rcases List.mem_append.mp member with before | joined
      · exact queued m before
      · rw [List.mem_singleton.mp joined]
        exact live

theorem SectionRecord.captured_advances (r : SectionRecord) (v : Destination) :
    r.slot.Advances (r.captured v).slot := by
  unfold SectionRecord.captured
  dsimp only
  split
  · next starting =>
    rw [starting]
    exact ⟨nofun, fun _ => rfl⟩
  · exact .of_eq rfl

/-- A capture into an OUTLET queues its section only where that is LIVE (R28). -/
theorem State.queueKept.captureOutlet {s : State} (h : s.queueKept) (n : Slot) (v : Destination) :
    (s.captureOutlet n v).queueKept := by
  have record (m : Slot) : ((s.setDest (.outlet n) v).becomeLive n).sec m = (s.captureOutlet n v).sec m := by
    unfold State.captureOutlet
    dsimp only
    split <;> simp
  have queue : ((s.setDest (.outlet n) v).becomeLive n).evalQueue = s.evalQueue := by simp
  have slots : SlotsAdvance s ((s.setDest (.outlet n) v).becomeLive n) :=
    .of_one n (fun m => (record m).trans (s.captureOutlet_sec n v m)) (SectionRecord.captured_advances _ v) (.inl rfl)
  have live := h.congr queue slots
  unfold State.captureOutlet
  dsimp only
  generalize (s.setDest (.outlet n) v).becomeLive n = u at live ⊢
  refine State.queueKept.congr (s := if (u.sec n).slot = .live then u.joinQueue n else u) ?_
    (State.evalLines_evalQueue _ n) (.of_sec (State.evalLines_sec _ n))
  split
  · next running => exact live.join running
  · exact live

theorem Drain.evalQueue {s : State} {n : Slot} {t : State} (drains : Drain s n t) : t.evalQueue = s.evalQueue := by
  cases drains <;> simp

theorem Drain.txQueue {s : State} {n : Slot} {t : State} (drains : Drain s n t) : t.txQueue = s.txQueue := by
  cases drains <;> simp

theorem Drain.binding {s : State} {n : Slot} {t : State} (drains : Drain s n t) (b : BindingId) :
    t.binding b = s.binding b := by
  cases drains <;> simp

theorem State.evalLinesOf_mask (s : State) (d : DestField) (k : LineId) :
    ((s.evalLinesOf d).line k).mask = (s.line k).mask := by
  unfold State.evalLinesOf
  split
  · exact s.evalLines_mask _ k
  · rfl

/-- Empty queues, EMPTY bindings and clear masks, with every slot VACANT, as after a reset. -/
theorem tablesKept_of_empty {s : State} (evalQueue : s.evalQueue = []) (txQueue : s.txQueue = [])
    (sections : s.sections = Vector.replicate 24 .cleared) (bindings : s.bindings = Vector.replicate 48 .empty)
    (lines : s.lines = Vector.replicate 4 .afterReset) : s.tablesKept := by
  have sec (n : Slot) : s.sec n = .cleared := by rw [State.sec, sections, tabGet_replicate]
  have binding (b : BindingId) : s.binding b = .empty := by rw [State.binding, bindings, tabGet_replicate]
  have line (k : LineId) : s.line k = .afterReset := by rw [State.line, lines, tabGet_replicate]
  refine ⟨⟨?_, fun n member => ?_, fun n running => ?_⟩, ?_, ⟨fun b c d first => ?_, fun b f fields => ?_⟩,
    fun k n member => ?_⟩
  · rw [evalQueue]
    exact List.nodup_nil
  · rw [evalQueue] at member
    cases member
  · rw [sec] at running
    exact absurd rfl running
  · rw [State.entriesKept, txQueue]
    exact List.nodup_nil
  · rw [binding] at first
    cases first
  · rw [binding] at fields
    cases fields
  · rw [line] at member
    simp [ClearLine.afterReset] at member

theorem Move.tablesKept {s t : State} (move : Move s t) (h : s.tablesKept) : t.tablesKept := by
  cases move with
  | same records => rw [records]; exact h
  | search move => exact searchStable_tablesKept.move move h
  | enrol n c vacant =>
    obtain ⟨queue, entries, bindings, masks⟩ := h
    have slots : SlotsAdvance s (s.enrol n c) :=
      .of_one n (s.enrol_sec n c) (SlotState.advances_of_outOfService (by rw [vacant]; rfl) _) (.inr rfl)
    refine ⟨queue.congr (by simp) slots, ?_, bindings.congr (fun b => by simp) slots.advances,
      masks.congr (fun k => by simp) slots.advances⟩
    unfold State.enrol
    dsimp only
    refine State.entriesKept.congr ?_ (State.restage_txQueue _ n)
    split
    · exact postEntry_slots_nodup n _ _ entries
    · exact entries
  | retire n => exact State.retireRecords_tablesKept n h
  | join n timer =>
    obtain ⟨queue, entries, bindings, masks⟩ := h
    have live := queue.2.2 n timer
    have slots : SlotsAdvance s (s.modSec n fun r => { r with evalTimer := none }) :=
      .of_one n (s.modSec_sec_eq n _) (.of_eq rfl) (.inr rfl)
    have stopped : (s.modSec n fun r => { r with evalTimer := none }).queueKept := queue.congr rfl slots
    exact ⟨stopped.join (by simpa using live), entries, bindings.congr (fun _ => rfl) slots.advances,
      masks.congr (fun _ => rfl) slots.advances⟩
  | evaluated n rest e now front =>
    obtain ⟨⟨nodup, queued, timed⟩, entries, bindings, masks⟩ := h
    have slot (m : Slot) : (({ s with evalQueue := rest }.modSec n fun r => r.evaluated e now).sec m).slot =
        (s.sec m).slot := by
      rw [State.modSec_sec_eq]
      split
      · next same => subst same; rfl
      · rfl
    rw [front] at nodup queued
    refine ⟨⟨(List.nodup_cons.mp nodup).2, fun m member => ?_, fun m running => ?_⟩, entries,
      bindings.congr (fun _ => rfl) fun m => .of_eq (slot m), masks.congr (fun _ => rfl) fun m => .of_eq (slot m)⟩
    · rw [slot]
      exact queued m (List.mem_cons_of_mem n member)
    · rw [slot]
      by_cases same : m = n
      · exact same ▸ queued n List.mem_cons_self
      · rw [State.modSec_sec_ne _ _ same] at running
        exact timed m running
  | outlet n v =>
    obtain ⟨queue, entries, bindings, masks⟩ := h
    have slots : SlotsAdvance s (s.captureOutlet n v) :=
      .of_one n (s.captureOutlet_sec n v) (SectionRecord.captured_advances _ v) (.inl rfl)
    refine ⟨queue.captureOutlet n v, entries.congr ?_, bindings.congr (fun b => ?_) slots.advances,
      masks.congr (fun k => ?_) slots.advances⟩
    · unfold State.captureOutlet
      dsimp only
      split <;> simp
    · unfold State.captureOutlet
      dsimp only
      split <;> simp
    · unfold State.captureOutlet
      dsimp only
      rw [State.evalLines_mask]
      split <;> simp
  | binding b v fits =>
    obtain ⟨queue, entries, ⟨single, good⟩, masks⟩ := h
    have alone (c : BindingId) (d : DestField) (other : c ≠ b) (feeds : v.feeds d = true) :
        (s.binding c).feeds d = false := by
      unfold BindingState.feeds at feeds
      split at feeds
      · next f fields =>
        rcases fits f fields with old | ⟨_, _, free⟩
        · refine Bool.eq_false_of_not_eq_true fun both => other (single c b d both ?_)
          rw [BindingState.feeds, old]
          exact feeds
        · rw [← eq_of_beq feeds]
          exact free c other
      · cases feeds
    refine ⟨queue, entries, ⟨fun i j d => ?_, fun i f fields => ?_⟩, masks⟩
    · rw [State.setBinding_binding, State.setBinding_binding]
      split
      · next first =>
        split
        · next second => exact fun _ _ => first.symm.trans second
        · next second =>
          intro feeds both
          rw [alone j d (Ne.symm second) feeds] at both
          cases both
      · next first =>
        split
        · next second =>
          intro both feeds
          rw [alone i d (Ne.symm first) feeds] at both
          cases both
        · exact single i j d
    · rw [State.setBinding_binding] at fields
      split at fields
      · rcases fits f fields with old | ⟨service, kind, _⟩
        · exact good b f old
        · exact ⟨service, kind⟩
      · exact good i f fields
  | entries q kept => exact ⟨h.1, kept h.2.1, h.2.2⟩
  | line k mask code inService =>
    obtain ⟨queue, entries, bindings, masks⟩ := h
    refine ⟨queue, entries, bindings, fun j n member => ?_⟩
    unfold State.setLine at member
    rw [State.evalLine_line, State.modLine_line, State.modLine_line] at member
    split at member
    · rw [ClearLine.act_mask] at member
      simp only [if_true] at member
      exact inService n member
    · exact masks j n member
  | reset fresh =>
    rw [fresh]
    exact tablesKept_of_empty rfl rfl rfl rfl rfl
  | record n f others =>
    exact TablesFrame.kept (s := s) ⟨rfl, rfl, fun _ => rfl, fun _ => rfl,
      .of_one n (s.modSec_sec_eq n f) (.of_eq (by rw [others])) (.inl (by rw [others]))⟩ h
  | gang n on =>
    exact TablesFrame.kept (s := s) ⟨by simp, by simp, by simp, by simp,
      .of_one n (r := { s.sec n with config := { (s.sec n).config with gangFlag := on } })
        (fun m => by rw [State.restagePair_sec, State.modSec_sec_eq]) (.of_eq rfl) (.inl rfl)⟩ h
  | active n m =>
    exact TablesFrame.kept (s := s) ⟨by simp, by simp, by simp, by simp,
      .of_one n (r := { s.sec n with active := m })
        (fun m => by rw [State.restage_sec, State.modSec_sec_eq]) (.of_eq rfl) (.inl rfl)⟩ h
  | protect n p =>
    refine TablesFrame.kept (s := s) ⟨by simp [State.setProtection], by simp [State.setProtection],
      by simp [State.setProtection], fun k => ?_, .of_one n (s.setProtection_sec n p) (.of_eq rfl) (.inl rfl)⟩ h
    rw [State.setProtection, State.evalLines_mask]
    simp
  | drain n drains =>
    exact TablesFrame.kept (s := s) ⟨drains.evalQueue, drains.txQueue, drains.binding,
      fun k => by rw [drains.line], drains.slotsAdvance⟩ h
  | dest d v =>
    refine TablesFrame.kept (s := s) ⟨by simp, by simp, fun b => by simp, fun k => ?_, fun m => ?_⟩ h
    · rw [State.evalLinesOf_mask, State.setDest_line]
    · rw [State.evalLinesOf_sec, State.setDest_sec_shape]
      exact ⟨.of_eq rfl, .inl rfl⟩
  | window d =>
    refine TablesFrame.kept (s := s) ⟨by simp, by simp, fun b => by simp, fun k => by simp, fun m => ?_⟩ h
    rw [State.setDest_sec_shape]
    exact ⟨.of_eq rfl, .inl rfl⟩
  | regime l g =>
    refine TablesFrame.kept (s := s) ⟨by simp, by simp, fun b => by simp, fun k => by simp, fun m => ?_⟩ h
    have pair := s.changeRegime_keeps (fun r => (r.slot, r.evalTimer)) (fun _ _ => rfl) l g m
    obtain ⟨slot, timer⟩ := Prod.mk.inj pair
    exact ⟨.of_eq slot, .inl timer⟩
  | delay k =>
    refine TablesFrame.kept (s := s) ⟨rfl, rfl, fun _ => rfl, fun j => ?_, .of_sec fun _ => rfl⟩ h
    rw [State.modLine_line]
    split
    · next same => subst same; rfl
    · rfl
  | assertStop =>
    refine TablesFrame.kept (s := s) ⟨?_, ?_, fun b => ?_, fun k => ?_, ?_⟩ h
    · rw [State.decidePumps_evalQueue, foldl_stopFan_frame]
    · rw [State.decidePumps_txQueue, foldl_stopFan_frame]
    · rw [State.decidePumps_binding, foldl_stopFan_frame]; rfl
    · rw [State.decidePumps_line, foldl_stopFan_frame]; rfl
    · refine SlotsAdvance.trans (t := allSlots.foldl State.stopFan { s with stopLow := true }) ?_
        (.of_sec (State.decidePumps_sec _))
      exact foldl_stopFan_keeps (fun u v same before => before.trans (.of_sec same))
        (fun u k v drains before => before.trans drains.slotsAdvance) _ _ (.of_sec fun _ => rfl)
  | curves | stopInReset | assertReset => exact h
  | post | drop | loop | decided | becomeSet | unsetLoop | pump | fan | fanRamp | configure | releaseStop =>
    exact TablesFrame.kept (s := s) ⟨by simp, by simp, fun b => by simp, fun k => by simp, .of_sec fun m => by simp⟩ h

/-- Settles O55, move by move. -/
theorem tablesAndQueuesStayConsistent : Obligations.TablesAndQueuesStayConsistent :=
  fun _ _ queue entries bindings masks stepped =>
    step_keeps (fun _ _ => Move.tablesKept) stepped ⟨queue, entries, bindings, masks⟩

end Sys2Proof.Machine
end

section
/-! PROOF. The fan channels' staged duties (R126, R129 to R132), move by move. -/

namespace Sys2Proof.Machine

open Sys2Proof

/-- A fan channel stands as R126 and R129 to R132 say. -/
def State.fanStands (s : State) (n : Slot) : Prop :=
  (s.fan n).gen.enabled = decide ((s.sec n).slot ≠ .vacant) ∧
    (s.fan n).ownStaged = min (s.fan n).ramp (fanCeiling (s.sec n)) ∧ s.handsOwn n

theorem State.fansHeld_iff (s : State) : s.fansHeld ↔ (s.inReset = false → ∀ n, s.fanStands n) := .rfl

/-- What the drives read of a section: its slot state, its gang flag and its ceiling. -/
def SectionRecord.driveKey (r : SectionRecord) : SlotState × Bool × Nat := (r.slot, r.config.gangFlag, fanCeiling r)

theorem State.partner_of_keys {s t : State} {n : Slot}
    (lead : (t.sec (leadOf n)).driveKey = (s.sec (leadOf n)).driveKey)
    (follower : (t.sec (followerOf n)).driveKey = (s.sec (followerOf n)).driveKey) : t.partner n = s.partner n := by
  obtain ⟨slot, flag, _⟩ := by simpa [SectionRecord.driveKey] using lead
  obtain ⟨slot', _⟩ := by simpa [SectionRecord.driveKey] using follower
  have gang : t.gangFormed n = s.gangFormed n := by simp only [State.gangFormed, slot, flag, slot']
  simp only [State.partner, gang]

theorem State.fanStands.congr {s t : State} {n : Slot} (h : s.fanStands n)
    (fan : ∀ m, (t.fan m).ownStaged = (s.fan m).ownStaged) (ramp : (t.fan n).ramp = (s.fan n).ramp)
    (enabled : (t.fan n).gen.enabled = (s.fan n).gen.enabled)
    (staged : (t.fan n).gen.stagedDuty = (s.fan n).gen.stagedDuty)
    (key : ∀ m, (t.sec m).driveKey = (s.sec m).driveKey) (stop : t.stopLow = s.stopLow) : t.fanStands n := by
  obtain ⟨on, own, hands⟩ := h
  obtain ⟨slot, _, ceiling⟩ := by simpa [SectionRecord.driveKey] using key n
  have pair := State.partner_of_keys (n := n) (key _) (key _)
  refine ⟨by rw [enabled, slot, on], by rw [fan, ramp, ceiling, own], ?_⟩
  unfold State.handsOwn State.handed at hands ⊢
  simp only [staged, stop, pair, fan]
  exact hands

/-- Where the channels and what the drives read stay, the channels stand. -/
theorem fansStand_congr {s t : State} (h : ∀ n, s.fanStands n) (fan : ∀ m, t.fan m = s.fan m)
    (key : ∀ m, (t.sec m).driveKey = (s.sec m).driveKey) (stop : t.stopLow = s.stopLow) (n : Slot) :
    t.fanStands n :=
  (h n).congr (fun m => by rw [fan]) (by rw [fan]) (by rw [fan]) (by rw [fan]) key stop

/-- A channel restages after a change of its section: it and its partner stand anew, the others as before. -/
theorem Restaged.fanStands {s t : State} {n : Slot} (restaged : Restaged s t n) (stop : t.stopLow = s.stopLow)
    (enabled : ∀ k, (s.fan k).gen.enabled = decide ((t.sec k).slot ≠ .vacant))
    (own : ∀ k, k ≠ n → (s.fan k).ownStaged = min (s.fan k).ramp (fanCeiling (t.sec k)))
    (hands : ∀ k, k ≠ n → t.partner n ≠ some k → s.handsOwn k ∧ t.partner k = s.partner k) (k : Slot) :
    t.fanStands k := by
  refine ⟨by rw [restaged.shape k]; exact enabled k, ?_, ?_⟩
  · rw [restaged.ownStaged k, show (t.fan k).ramp = (s.fan k).ramp by rw [restaged.shape k]]
    split
    · rfl
    · next other => exact own k other
  · by_cases self : k = n
    · exact self ▸ restaged.handsOwn_self
    · by_cases pair : t.partner n = some k
      · exact restaged.handsOwn_partner pair
      · obtain ⟨before, pairs⟩ := hands k self pair
        exact restaged.handsOwn_other stop pairs self pair before

/-- One section's record changes, but not its slot's being VACANT or its gang, and its channel restages. -/
theorem fansStand_restage {s u t : State} (h : ∀ k, s.fanStands k) (n : Slot) (fan : ∀ k, u.fan k = s.fan k)
    (others : ∀ k, k ≠ n → u.sec k = s.sec k)
    (slot : (u.sec n).slot = .vacant ↔ (s.sec n).slot = .vacant)
    (service : (u.sec n).slot.inService = (s.sec n).slot.inService)
    (flag : (u.sec n).config.gangFlag = (s.sec n).config.gangFlag) (stop : u.stopLow = s.stopLow)
    (after : ∀ k, t.fan k = (u.restage n).fan k) (sec : ∀ k, t.sec k = u.sec k) (stop' : t.stopLow = u.stopLow)
    (k : Slot) : t.fanStands k := by
  have restaged : Restaged s t n := .of_restage s t u n fan sec stop' after
  have same (k : Slot) : (t.sec k).slot.inService = (s.sec k).slot.inService ∧
      (t.sec k).config.gangFlag = (s.sec k).config.gangFlag ∧ ((t.sec k).slot = .vacant ↔ (s.sec k).slot = .vacant) := by
    rw [sec]
    by_cases self : k = n
    · subst self; exact ⟨service, flag, slot⟩
    · rw [others k self]; exact ⟨rfl, rfl, .rfl⟩
  have pairs (k : Slot) : t.partner k = s.partner k := by
    have gang : t.gangFormed k = s.gangFormed k := by simp only [State.gangFormed, (same _).1, (same _).2.1]
    simp only [State.partner, gang]
  refine restaged.fanStands (stop'.trans stop) (fun k => ?_) (fun k other => ?_) (fun k _ _ => ⟨(h k).2.2, pairs k⟩) k
  · rw [(h k).1]
    exact decide_eq_decide.mpr (not_congr (same k).2.2.symm)
  · rw [(h k).2.1, sec, others k other]

theorem searchStable_fansStand : SearchStable fun s : State => ∀ n, s.fanStands n where
  mark s m n h := by
    refine (s.setMark_restaged m n).fanStands (by simp) (fun k => ?_) (fun k other => ?_)
      fun k _ _ => ⟨(h k).2.2, s.setMark_partner m n k⟩
    · rw [(h k).1, State.setMark_sec]
      split
      · next same => rw [same]
      · rfl
    · rw [(h k).2.1, State.setMark_sec, if_neg other]
  context _ _ h := h
  post _ _ _ _ h := h
  window _ _ _ _ _ h := h

/-! ### Members of a pair -/

theorem mem_pair (m : Slot) : m = leadOf m ∨ m = followerOf m := by
  revert m
  decide

/-- A slot outside a pair is of another pair. -/
theorem pair_apart {n k : Slot} (outside : ¬ (k = leadOf n ∨ k = followerOf n)) :
    ¬ (leadOf k = leadOf n ∨ leadOf k = followerOf n) ∧ ¬ (followerOf k = leadOf n ∨ followerOf k = followerOf n) ∧
      ¬ (neighbourOf k = leadOf n ∨ neighbourOf k = followerOf n) := by
  revert n k
  decide

theorem State.partner_of_mem (s : State) {n m : Slot} (member : m = leadOf n ∨ m = followerOf n) :
    s.partner m = if s.gangFormed n then some (if m = leadOf n then followerOf n else leadOf n) else none := by
  rcases member with rfl | rfl
  · rw [State.partner_leadOf, if_pos rfl]
  · rw [State.partner_followerOf, if_neg (leadOf_ne_followerOf n).symm]

/-- The records of one pair change, but not whether a slot is VACANT, and both channels restage. -/
theorem fansStand_restagePair {s u : State} (h : ∀ k, s.fanStands k) (n : Slot) (fan : ∀ k, u.fan k = s.fan k)
    (others : ∀ k, ¬ (k = leadOf n ∨ k = followerOf n) → (u.sec k).driveKey = (s.sec k).driveKey)
    (slot : ∀ k, (u.sec k).slot = .vacant ↔ (s.sec k).slot = .vacant) (stop : u.stopLow = s.stopLow) (k : Slot) :
    (u.restagePair n).fanStands k := by
  by_cases member : k = leadOf n ∨ k = followerOf n
  · have fans (m : Slot) (inPair : m = leadOf n ∨ m = followerOf n) := u.restagePair_fan n m inPair
    have enabled : (u.fan k).gen.enabled = decide ((u.sec k).slot ≠ .vacant) := by
      rw [fan, (h k).1]
      exact decide_eq_decide.mpr (not_congr (slot k).symm)
    refine ⟨?_, ?_, ?_⟩
    · rw [State.restagePair_sec, fans k member]
      exact enabled
    · rw [State.restagePair_sec, fans k member]
    · unfold State.handsOwn State.handed
      rw [State.restagePair_stopLow, State.partner_congr (u.restagePair_sec n), u.partner_of_mem member]
      have own (m : Slot) (inPair : m = leadOf n ∨ m = followerOf n) :
          ((u.restagePair n).fan m).ownStaged = min (u.fan m).ramp (fanCeiling (u.sec m)) := by
        rw [fans m inPair]
      rw [show ((u.restagePair n).fan k).gen.stagedDuty = _ from congrArg (·.gen.stagedDuty) (fans k member)]
      dsimp only
      split
      · rfl
      · cases formed : u.gangFormed n with
        | false => exact (own k member).symm
        | true =>
          rcases member with rfl | rfl
          · simp [own _ (.inl rfl), own _ (.inr rfl)]
          · simp [own _ (.inl rfl), own _ (.inr rfl), (leadOf_ne_followerOf n).symm, min_comm]
  · have fans (m : Slot) (outside : ¬ (m = leadOf n ∨ m = followerOf n)) : (u.restagePair n).fan m = s.fan m := by
      rw [u.restagePair_fan_other n m (fun same => outside (.inl same)) (fun same => outside (.inr same)), fan]
    obtain ⟨lead, follower, neighbour⟩ := pair_apart member
    have pairs : (u.restagePair n).partner k = s.partner k :=
      State.partner_of_keys (by rw [State.restagePair_sec]; exact others _ lead)
        (by rw [State.restagePair_sec]; exact others _ follower)
    obtain ⟨on, own, hands⟩ := h k
    obtain ⟨same, _, ceiling⟩ := by simpa [SectionRecord.driveKey] using others k member
    refine ⟨by rw [fans k member, State.restagePair_sec, same]; exact on,
      by rw [fans k member, State.restagePair_sec, ceiling]; exact own, ?_⟩
    unfold State.handsOwn at hands ⊢
    rw [fans k member, hands]
    cases pair : s.partner k with
    | none =>
      rw [State.handed_of_alone pair, State.handed_of_alone (pairs.trans pair), State.restagePair_stopLow, stop,
        fans k member]
    | some p =>
      rw [State.handed_of_paired pair, State.handed_of_paired (pairs.trans pair), State.restagePair_stopLow, stop,
        fans k member, fans p ((State.partner_eq_some pair).2 ▸ neighbour)]

end Sys2Proof.Machine
end

section
/-! PROOF. The fan channels' staged duties (R126, R129 to R132): the drain, PART CONFIGURE, the stop input and the
moves. -/

namespace Sys2Proof.Machine

open Sys2Proof

/-! ### The drain -/

theorem State.gangFormed_eq_false {s : State} {n k : Slot} (out : (s.sec n).slot.inService = false)
    (member : n = leadOf k ∨ n = followerOf k) : s.gangFormed k = false := by
  rcases member with rfl | rfl <;> simp [State.gangFormed, out]

/-- A slot that is out of service before and after changes no pairing. -/
theorem State.partner_of_out {s t : State} {n : Slot} (before : (s.sec n).slot.inService = false)
    (after : (t.sec n).slot.inService = false) (others : ∀ m, m ≠ n → t.sec m = s.sec m) (k : Slot) :
    t.partner k = s.partner k := by
  have gang : t.gangFormed k = s.gangFormed k := by
    by_cases member : n = leadOf k ∨ n = followerOf k
    · rw [State.gangFormed_eq_false before member, State.gangFormed_eq_false after member]
    · obtain ⟨lead, follower⟩ := not_or.mp member
      simp only [State.gangFormed, others _ (Ne.symm lead), others _ (Ne.symm follower)]
  simp only [State.partner, gang]

theorem State.partner_eq_none_of_out {s : State} {n : Slot} (out : (s.sec n).slot.inService = false) :
    s.partner n = none := by
  rw [State.partner, State.gangFormed_eq_false out (mem_pair n)]
  rfl

theorem State.partner_ne_of_out {s : State} {n k p : Slot} (out : (s.sec n).slot.inService = false)
    (pair : s.partner k = some p) : p ≠ n := by
  rintro rfl
  have back := State.partner_symm pair
  rw [State.partner_eq_none_of_out out] at back
  cases back

/-- One channel of a slot out of service changes, and it stands itself. -/
theorem fansStand_of_out {s t : State} (h : ∀ k, s.fanStands k) (n : Slot)
    (before : (s.sec n).slot.inService = false) (after : (t.sec n).slot.inService = false)
    (others : ∀ m, m ≠ n → t.sec m = s.sec m ∧ t.fan m = s.fan m) (stop : t.stopLow = s.stopLow)
    (self : t.fanStands n) (k : Slot) : t.fanStands k := by
  by_cases same : k = n
  · exact same ▸ self
  · obtain ⟨sec, fan⟩ := others k same
    obtain ⟨on, own, hands⟩ := h k
    refine ⟨by rw [sec, fan]; exact on, by rw [sec, fan]; exact own, ?_⟩
    have pairs := State.partner_of_out before after (fun m other => (others m other).1) k
    unfold State.handsOwn at hands ⊢
    rw [fan, hands]
    cases pair : s.partner k with
    | none => rw [State.handed_of_alone pair, State.handed_of_alone (pairs.trans pair), stop, fan]
    | some p =>
      rw [State.handed_of_paired pair, State.handed_of_paired (pairs.trans pair), stop, fan,
        (others p (State.partner_ne_of_out before pair)).2]

/-- A channel of a slot out of service stands where it hands on its own staged duty of 0. -/
theorem State.fanStands_of_idle {s : State} {n : Slot} (out : (s.sec n).slot.inService = false)
    (enabled : (s.fan n).gen.enabled = decide ((s.sec n).slot ≠ .vacant)) (own : (s.fan n).ownStaged = 0)
    (ceiling : fanCeiling (s.sec n) = 0) (staged : (s.fan n).gen.stagedDuty = 0) : s.fanStands n := by
  refine ⟨enabled, by rw [own, ceiling, Nat.min_zero], ?_⟩
  unfold State.handsOwn
  rw [State.handed_of_alone (State.partner_eq_none_of_out out), own, staged]
  simp

theorem Drain.fansStand {s : State} {n : Slot} {t : State} (drains : Drain s n t) (h : ∀ k, s.fanStands k) (k : Slot) :
    t.fanStands k := by
  cases drains with
  | unmet => exact h k
  | met fan valve =>
    refine fansStand_congr h (fun _ => by rfl) (fun m => ?_) (by rfl) k
    rw [State.modSec_sec_eq]
    split
    · next same => subst same; rfl
    · rfl
  | cleared retiring =>
    refine fansStand_of_out h n (by rw [retiring]; rfl) (by rw [State.modSec_sec_self]; rfl)
      (fun m other => ?_) (by rfl) ?_ k
    · simp [State.disableFan, State.modSec_sec_ne _ _ other, State.modFan_fan_ne s _ other]
    · apply State.fanStands_of_idle <;> simp [State.disableFan, Channel.disable, Channel.disabled] <;> rfl

/-! ### PART CONFIGURE -/

theorem State.configure_fan (s : State) (c : DriveConfig) (n : Slot) :
    (s.configure c).fan n =
      { s.fan n with gen := Channel.disable c.fanPeriod ({ s with drive := c }.fanActiveLow n) } := by
  have h := foldl_pointwise (fun t n => t.fan n) State.configureFan
    (fun t i j other => State.modFan_fan_ne t _ other)
    (fun t => t.drive = c) (fun _ _ h => h)
    (fun n f => { f with gen := Channel.disable c.fanPeriod ({ s with drive := c }.fanActiveLow n) })
    (fun t i drive => by
      rw [State.configureFan, State.modFan_fan_self, State.fanActiveLow, drive]
      rfl)
    allSlots nodup_allSlots { s with drive := c } rfl n
  rw [if_pos (mem_allSlots n)] at h
  unfold State.configure
  dsimp only
  rw [foldl_keeps (fun s : State => s.fan n) State.configurePump fun s l => s.configurePump_fan l n]
  exact h

theorem State.configure_pump (s : State) (c : DriveConfig) (l : LoopId) :
    (s.configure c).pump l =
      if (s.pump l).enabled then (s.pump l).boundary.drive ({ s with drive := c }.pumpActiveLow l)
      else { s.pump l with output := idleLevel ({ s with drive := c }.pumpActiveLow l) } := by
  have first : (allSlots.foldl State.configureFan { s with drive := c }).drive = c :=
    foldl_keeps State.drive _ State.configureFan_drive _ _
  have pumps : (allSlots.foldl State.configureFan { s with drive := c }).pump l = s.pump l :=
    foldl_keeps (fun s : State => s.pump l) _ (fun s n => s.configureFan_pump n l) _ _
  have h := foldl_pointwise (fun t l => t.pump l) State.configurePump
    (fun t i j other => by rw [State.configurePump, State.modPump_pump, if_neg (Ne.symm other)])
    (fun t => t.drive = c) (fun _ _ h => h)
    (fun l p =>
      if p.enabled then p.boundary.drive ({ s with drive := c }.pumpActiveLow l)
      else { p with output := idleLevel ({ s with drive := c }.pumpActiveLow l) })
    (fun t i drive => by
      rw [State.configurePump, State.modPump_pump_self, State.pumpActiveLow, drive]
      rfl)
    allLoops nodup_allLoops _ first l
  rw [if_pos (mem_allLoops l), pumps] at h
  exact h

theorem State.configure_fansStand {s : State} (h : ∀ k, s.fanStands k) (vacant : ∀ n, (s.sec n).slot = .vacant)
    (c : DriveConfig) (k : Slot) : (s.configure c).fanStands k := by
  have ceiling : fanCeiling (s.sec k) = 0 := by rw [fanCeiling, vacant]
  have own : (s.fan k).ownStaged = 0 := by rw [(h k).2.1, ceiling, Nat.min_zero]
  apply State.fanStands_of_idle <;>
    simp [State.configure_fan, Channel.disable, Channel.disabled, vacant, own, ceiling, SlotState.inService]

/-! ### The stop input -/

/-- What the assertion of the stop input leaves of a slot's record (R26, R132). -/
def SectionRecord.stopped (r : SectionRecord) (enabled : Bool) : SectionRecord :=
  if enabled = true ∧ r.slot = .retiring then
    if r.valveDrained then .cleared else { r with fanDrained := true }
  else r

/-- What the assertion of the stop input leaves of a fan channel (R26, R132). -/
def FanChannel.stopped (f : FanChannel) (r : SectionRecord) (d : DriveConfig) (activeLow : Bool) : FanChannel :=
  if f.gen.enabled then
    if r.slot = .retiring ∧ r.valveDrained = true then
      { gen := Channel.disable d.fanPeriod activeLow, ramp := 0, rampTimer := none, ownStaged := 0 }
    else { f with gen := f.gen.force activeLow, ramp := 0, ownStaged := 0 }
  else f

theorem State.stopFan_self (s : State) (n : Slot) :
    (s.stopFan n).sec n = (s.sec n).stopped (s.fan n).gen.enabled ∧
      (s.stopFan n).fan n = (s.fan n).stopped (s.sec n) s.drive (s.fanActiveLow n) := by
  unfold State.stopFan SectionRecord.stopped FanChannel.stopped
  rw [State.checkFanDrain_eq]
  cases enabled : (s.fan n).gen.enabled with
  | false => simp
  | true =>
    by_cases retiring : (s.sec n).slot = .retiring
    · cases valve : (s.sec n).valveDrained with
      | false => simp [enabled, retiring, valve, Channel.force_eq]
      | true => simp [enabled, retiring, valve, Channel.force_eq, State.disableFan, State.fanActiveLow]
    · simp [retiring]

/-- The sections and fan channels after the assertion. -/
theorem foldl_stopFan_slot (s : State) (n : Slot) :
    (allSlots.foldl State.stopFan s).sec n = (s.sec n).stopped (s.fan n).gen.enabled ∧
      (allSlots.foldl State.stopFan s).fan n = (s.fan n).stopped (s.sec n) s.drive (s.fanActiveLow n) := by
  have h := foldl_pointwise (fun t n => (t.sec n, t.fan n)) State.stopFan
    (fun t i j other => Prod.ext (t.stopFan_other other).1 (t.stopFan_other other).2)
    (fun t => t.drive = s.drive) (fun t i drive => (t.stopFan_drive i).trans drive)
    (fun n x => (x.1.stopped x.2.gen.enabled, x.2.stopped x.1 s.drive (s.fanActiveLow n)))
    (fun t i drive => by
      obtain ⟨sec, fan⟩ := t.stopFan_self i
      rw [sec, fan]
      simp only [State.fanActiveLow, drive])
    allSlots nodup_allSlots s rfl n
  rw [if_pos (mem_allSlots n)] at h
  exact Prod.mk.inj h

theorem stopped_stands {f : FanChannel} {r : SectionRecord} (d : DriveConfig) (activeLow : Bool)
    (on : f.gen.enabled = decide (r.slot ≠ .vacant)) (own : f.ownStaged = min f.ramp (fanCeiling r))
    (idle : f.gen.enabled = false → f.gen.stagedDuty = 0) :
    (f.stopped r d activeLow).gen.enabled = decide ((r.stopped f.gen.enabled).slot ≠ .vacant) ∧
      (f.stopped r d activeLow).ownStaged =
        min (f.stopped r d activeLow).ramp (fanCeiling (r.stopped f.gen.enabled)) ∧
      (f.stopped r d activeLow).gen.stagedDuty = 0 := by
  unfold FanChannel.stopped SectionRecord.stopped
  cases enabled : f.gen.enabled with
  | false => exact ⟨by simpa [enabled] using on, by simpa using own, by simpa using idle enabled⟩
  | true =>
    rw [enabled] at on
    by_cases retiring : r.slot = .retiring
    · cases valve : r.valveDrained with
      | false => simp [retiring, Channel.force_eq, enabled]
      | true => simp [retiring, Channel.disable, Channel.disabled, SectionRecord.cleared]
    · simpa [retiring, Channel.force_eq, enabled] using on

/-- A disabled channel is of a VACANT slot, and hands on 0. -/
theorem State.fanStands.staged_of_disabled {s : State} {n : Slot} (h : s.fanStands n)
    (disabled : (s.fan n).gen.enabled = false) : (s.fan n).gen.stagedDuty = 0 := by
  obtain ⟨on, own, hands⟩ := h
  have vacant : (s.sec n).slot = .vacant := by simpa [disabled] using on
  have zero : (s.fan n).ownStaged = 0 := by rw [own, fanCeiling, vacant, Nat.min_zero]
  have out : (s.sec n).slot.inService = false := by rw [vacant]; rfl
  unfold State.handsOwn at hands
  rw [hands, State.handed_of_alone (State.partner_eq_none_of_out out), zero, ite_self]

theorem assertStop_fansStand {s : State} (h : ∀ k, s.fanStands k) (k : Slot) :
    ((allSlots.foldl State.stopFan { s with stopLow := true }).decidePumps).fanStands k := by
  obtain ⟨sec, fan⟩ := foldl_stopFan_slot { s with stopLow := true } k
  obtain ⟨on, own, staged⟩ := stopped_stands s.drive (s.fanActiveLow k) (h k).1 (h k).2.1 (h k).staged_of_disabled
  have stop : (allSlots.foldl State.stopFan { s with stopLow := true }).stopLow = true := by
    rw [foldl_stopFan_frame]
  unfold State.fanStands State.handsOwn State.handed
  rw [State.decidePumps_sec, State.decidePumps_fan, State.decidePumps_stopLow, stop, sec, fan, if_pos rfl]
  exact ⟨on, own, staged⟩

/-! ### The release of the stop input -/

theorem State.restageEnabled_restaged (s : State) {n : Slot} (enabled : (s.fan n).gen.enabled = true) :
    Restaged s (s.restageEnabled n) n := by
  rw [State.restageEnabled, if_pos enabled]
  exact .of_restage s _ s n (fun _ => rfl) (s.restage_sec n) (s.restage_stopLow n) fun _ => rfl

/-- What the release restages stands at its end as if it had been handed then, whatever the order of the run. -/
theorem foldl_restageEnabled_handsOwn (l : List Slot) (s : State) (k : Slot)
    (reached : k ∈ l ∧ (s.fan k).gen.enabled = true ∨ s.handsOwn k) :
    (l.foldl State.restageEnabled s).handsOwn k := by
  induction l generalizing s with
  | nil => exact reached.resolve_left (by simp)
  | cons n l ih =>
    refine ih (s.restageEnabled n) ?_
    cases enabled : (s.fan n).gen.enabled with
    | false =>
      have same : s.restageEnabled n = s := by simp [State.restageEnabled, enabled]
      rw [same]
      refine reached.imp_left fun ⟨member, on⟩ => ⟨(List.mem_cons.mp member).resolve_left ?_, on⟩
      rintro rfl
      rw [enabled] at on
      cases on
    | true =>
      have restaged := s.restageEnabled_restaged enabled
      have pairs (m : Slot) : (s.restageEnabled n).partner m = s.partner m :=
        State.partner_congr (fun _ => by rw [State.restageEnabled_sec]) m
      by_cases self : k = n
      · exact .inr (self ▸ restaged.handsOwn_self)
      by_cases pair : s.partner n = some k
      · exact .inr (restaged.handsOwn_partner (by rwa [pairs]))
      rcases reached with ⟨member, on⟩ | before
      · refine .inl ⟨(List.mem_cons.mp member).resolve_left self, ?_⟩
        rw [restaged.shape k]
        exact on
      · exact .inr (restaged.handsOwn_other (s.restageEnabled_stopLow n) (pairs k) self (by rwa [pairs]) before)

theorem foldl_restageEnabled_fan (l : List Slot) (s : State) (k : Slot) :
    ((l.foldl State.restageEnabled s).fan k).ownStaged =
        (if k ∈ l ∧ (s.fan k).gen.enabled = true then min (s.fan k).ramp (fanCeiling (s.sec k))
        else (s.fan k).ownStaged) ∧
      (l.foldl State.restageEnabled s).fan k =
        { s.fan k with
          ownStaged := ((l.foldl State.restageEnabled s).fan k).ownStaged
          gen := { (s.fan k).gen with stagedDuty := ((l.foldl State.restageEnabled s).fan k).gen.stagedDuty } } := by
  induction l generalizing s with
  | nil => simp
  | cons n l ih =>
    obtain ⟨own, shape⟩ := ih (s.restageEnabled n)
    rw [List.foldl_cons]
    cases enabled : (s.fan n).gen.enabled with
    | false =>
      have same : s.restageEnabled n = s := by simp [State.restageEnabled, enabled]
      rw [same] at own shape ⊢
      refine ⟨own.trans ?_, shape⟩
      by_cases self : k = n
      · subst self; simp [enabled]
      · simp [self]
    | true =>
      have restaged := s.restageEnabled_restaged enabled
      have first := restaged.shape k
      refine ⟨?_, ?_⟩
      · rw [own, State.restageEnabled_sec, restaged.ownStaged k,
          show ((s.restageEnabled n).fan k).ramp = (s.fan k).ramp by rw [first],
          show ((s.restageEnabled n).fan k).gen.enabled = (s.fan k).gen.enabled by rw [first],
          State.restageEnabled_sec]
        by_cases self : k = n
        · subst self; simp [enabled]
        · simp [self]
      · rw [shape, first]

theorem releaseStop_fansStand {s : State} (h : ∀ k, s.fanStands k) (k : Slot) :
    s.releaseStop.fanStands k := by
  obtain ⟨on, own, hands⟩ := h k
  obtain ⟨owns, shape⟩ := foldl_restageEnabled_fan allSlots { s with stopLow := false } k
  have sec (m : Slot) : (allSlots.foldl State.restageEnabled { s with stopLow := false }).sec m = s.sec m :=
    foldl_keeps (fun s : State => s.sec m) _ (fun s n => s.restageEnabled_sec n m) _ _
  have before : State.handsOwn { s with stopLow := false } k ∨ (s.fan k).gen.enabled = true := by
    cases enabled : (s.fan k).gen.enabled with
    | true => exact .inr rfl
    | false =>
      have vacant : (s.sec k).slot = .vacant := by simpa [enabled] using on
      have out : (State.sec { s with stopLow := false } k).slot.inService = false := by
        show (s.sec k).slot.inService = false
        rw [vacant]
        rfl
      have zero : (s.fan k).ownStaged = 0 := by rw [own, fanCeiling, vacant, Nat.min_zero]
      refine .inl ?_
      unfold State.handsOwn
      rw [State.handed_of_alone (State.partner_eq_none_of_out out)]
      exact ((h k).staged_of_disabled enabled).trans zero.symm
  have handed : (allSlots.foldl State.restageEnabled { s with stopLow := false }).handsOwn k :=
    foldl_restageEnabled_handsOwn _ _ k (before.symm.imp_left fun enabled => ⟨mem_allSlots k, enabled⟩)
  have stands : (allSlots.foldl State.restageEnabled { s with stopLow := false }).fanStands k := by
    refine ⟨?_, ?_, handed⟩
    · rw [sec, shape]
      exact on
    · rw [owns, sec, shape]
      split
      · rfl
      · exact own
  refine State.fanStands.congr stands (fun m => ?_) ?_ ?_ ?_ (fun m => ?_) ?_ <;> simp [State.releaseStop]

end Sys2Proof.Machine
end

section
/-! PROOF. The fan channels (R126, R129 to R132) and the pump channels (R82), move by move. -/

namespace Sys2Proof.Machine

open Sys2Proof

/-! ### The fans -/

/-- Retirement: the pair restages with the section out of service and the gang dissolved. -/
theorem State.retireLinks_fansStand {s : State} (h : ∀ k, s.fanStands k) {n : Slot}
    (inService : (s.sec n).slot.inService = true) (k : Slot) : (s.retireLinks n).fanStands k := by
  obtain ⟨u, linked, sec, fan, stop⟩ : ∃ u : State, s.retireLinks n = u.restagePair n ∧
      (∀ m, u.sec m = s.retiredSec n m) ∧ (∀ m, u.fan m = s.fan m) ∧ u.stopLow = s.stopLow := by
    refine ⟨_, rfl, fun m => ?_, fun m => ?_, ?_⟩
    · rw [← State.retireLinks_sec, State.retireLinks, State.restagePair_sec]
    · simp
    · simp
  rw [linked]
  refine fansStand_restagePair h n fan (fun m outside => ?_) (fun m => ?_) stop k
  · have self : m ≠ n := fun same => outside (same ▸ mem_pair n)
    have lead : m ≠ leadOf n := fun same => outside (.inl same)
    rw [sec, State.retiredSec]
    simp [self, lead]
  · rw [sec, State.retiredSec]
    dsimp only
    split
    · next same =>
      subst same
      exact iff_of_false (by split <;> simp) (SlotState.not_vacant_of_inService inService)
    · split <;> exact .rfl

theorem State.retireValve_fansStand {s : State} (h : ∀ k, s.fanStands k) {n : Slot}
    (retiring : (s.sec n).slot = .retiring) (k : Slot) : (s.retireValve n).fanStands k := by
  have one {u : State} (f : SectionRecord → SectionRecord) (fan : ∀ m, u.fan m = s.fan m)
      (sec : ∀ m, u.sec m = s.sec m) (stop : u.stopLow = s.stopLow)
      (key : (f (s.sec n)).slot = .retiring ∧ (f (s.sec n)).config.gangFlag = (s.sec n).config.gangFlag) (k : Slot) :
      (u.modSec n f).fanStands k := by
    refine fansStand_congr (t := u.modSec n f) h fan (fun m => ?_) stop k
    rw [State.modSec_sec_eq, sec, sec]
    split
    · next same =>
      subst same
      simp [SectionRecord.driveKey, fanCeiling, key, retiring]
    · rfl
  unfold State.retireValve
  dsimp only
  split
  · refine searchStable_fansStand.context _ _ (searchStable_fansStand.setMarks .none _ _ fun k => ?_) k
    exact one _ (by simp) (by simp) (by simp) ⟨retiring, rfl⟩ k
  all_goals
    split
    · exact one _ (by simp) (by simp) (by simp) ⟨retiring, rfl⟩ k
    · exact one _ (fun _ => rfl) (fun _ => rfl) rfl ⟨retiring, rfl⟩ k

theorem State.setDest_driveKey (s : State) (d : DestField) (v : Destination) (m : Slot) :
    ((s.setDest d v).sec m).driveKey = (s.sec m).driveKey := by
  rw [State.setDest_sec_shape]
  rfl

theorem mem_pair_iff (n k : Slot) : n = leadOf k ∨ n = followerOf k ↔ k = n ∨ neighbourOf k = n := by
  revert n k
  decide

/-- A slot comes into service: only the pairing of its own pair can change. -/
theorem State.partner_of_unpaired {s t : State} {n k : Slot} (out : (s.sec n).slot.inService = false)
    (others : ∀ m, m ≠ n → t.sec m = s.sec m) (other : k ≠ n) (unpaired : t.partner n ≠ some k) :
    t.partner k = s.partner k := by
  by_cases neighbour : neighbourOf k = n
  · have before : s.partner k = none := by
      rw [State.partner, State.gangFormed_eq_false out ((mem_pair_iff n k).mpr (.inr neighbour))]
      rfl
    cases after : t.partner k with
    | none => exact before.symm
    | some p =>
      have back := State.partner_symm after
      rw [(State.partner_eq_some after).2, neighbour] at back
      exact absurd back unpaired
  · obtain ⟨lead, follower⟩ := not_or.mp (mt (mem_pair_iff n k).mp (not_or.mpr ⟨other, neighbour⟩))
    have gang : t.gangFormed k = s.gangFormed k := by
      simp only [State.gangFormed, others _ (Ne.symm lead), others _ (Ne.symm follower)]
    simp only [State.partner, gang]

theorem State.enrol_fansStand {s : State} (h : ∀ k, s.fanStands k) {n : Slot} (vacant : (s.sec n).slot = .vacant)
    (c : SectionConfig) (k : Slot) : (s.enrol n c).fanStands k := by
  obtain ⟨u, enrolled, sec, fan, self, stop⟩ : ∃ u : State, s.enrol n c = u.restage n ∧
      (∀ m, m ≠ n → u.sec m = s.sec m) ∧ (∀ m, m ≠ n → u.fan m = s.fan m) ∧
      ((u.fan n).gen.enabled = true ∧ (u.sec n).slot = .starting) ∧ u.stopLow = s.stopLow := by
    refine ⟨_, rfl, fun m other => ?_, fun m other => ?_, ?_, ?_⟩
    · split <;> simp [State.enableFan, State.modSec_sec_ne _ _ other]
    · split <;> simp [State.enableFan, State.modFan_fan_ne _ _ other]
    · split <;> simp [State.enableFan, Channel.enable_zero, SectionRecord.enrolled]
    · split <;> simp [State.enableFan]
  have out : (s.sec n).slot.inService = false := by rw [vacant]; rfl
  have restaged : Restaged u (u.restage n) n :=
    .of_restage u _ u n (fun _ => rfl) (u.restage_sec n) (u.restage_stopLow n) fun _ => rfl
  rw [enrolled]
  refine restaged.fanStands (u.restage_stopLow n) (fun m => ?_) (fun m other => ?_) (fun m other unpaired => ?_) k
  · rw [State.restage_sec]
    by_cases same : m = n
    · rw [same, self.1, self.2]
      rfl
    · rw [fan m same, sec m same]
      exact (h m).1
  · rw [State.restage_sec, fan m other, sec m other]
    exact (h m).2.1
  · rw [State.restage_partner] at unpaired ⊢
    have pairs := State.partner_of_unpaired out sec other unpaired
    refine ⟨?_, rfl⟩
    have hands := (h m).2.2
    unfold State.handsOwn at hands ⊢
    rw [fan m other, hands]
    cases pair : s.partner m with
    | none => rw [State.handed_of_alone pair, State.handed_of_alone (pairs.trans pair), stop, fan m other]
    | some p =>
      rw [State.handed_of_paired pair, State.handed_of_paired (pairs.trans pair), stop, fan m other,
        fan p (State.partner_ne_of_out out pair)]

/-- A section of a STARTING slot becomes LIVE and its channel restages (R10). -/
theorem State.becomeLive_fansStand {s : State} (h : ∀ k, s.fanStands k) (n k : Slot) : (s.becomeLive n).fanStands k := by
  unfold State.becomeLive
  split
  · next starting =>
    refine fansStand_restage (u := s.modSec n fun r => { r with slot := .live }) h n (fun _ => rfl)
      (fun k other => State.modSec_sec_ne _ _ other) ?_ ?_ ?_ rfl (fun _ => rfl) (State.restage_sec _ n)
      (State.restage_stopLow _ n) k <;> rw [State.modSec_sec_self]
    · rw [starting]
      exact iff_of_false nofun nofun
    · rw [starting]
      rfl
  · exact h k

theorem State.captureOutlet_fansStand {s : State} (h : ∀ k, s.fanStands k) (n : Slot) (v : Destination) (k : Slot) :
    (s.captureOutlet n v).fanStands k := by
  have captured : ∀ k, (s.setDest (.outlet n) v).fanStands k :=
    fansStand_congr h (fun m => by simp) (s.setDest_driveKey _ v) (by simp)
  have live := State.becomeLive_fansStand captured n
  unfold State.captureOutlet
  dsimp only
  refine fansStand_congr live (fun m => ?_) (fun m => ?_) ?_ k <;> split <;> simp

theorem State.copyActive_fansStand {s : State} (h : ∀ k, s.fanStands k) (l : LoopId) (g : Regime) (n k : Slot) :
    (s.copyActive l g n).fanStands k := by
  unfold State.copyActive
  split
  · refine fansStand_restage (u := s.modSec n fun r => { r with active := r.config.stored g }) h n (fun _ => rfl)
      (fun k other => State.modSec_sec_ne _ _ other) ?_ ?_ ?_ rfl (fun _ => rfl) (State.restage_sec _ n)
      (State.restage_stopLow _ n) k <;> rw [State.modSec_sec_self]
  · exact h k

theorem foldl_copyActive_fansStand (l : LoopId) (g : Regime) (slots : List Slot) (s : State)
    (h : ∀ k, s.fanStands k) (k : Slot) : (slots.foldl (fun s n => s.copyActive l g n) s).fanStands k := by
  induction slots generalizing s with
  | nil => exact h k
  | cons n slots ih => exact ih _ fun k => State.copyActive_fansStand h l g n k

/-- A channel's R moves and the channel restages (R130). -/
theorem State.fanRamp_fansStand {s : State} (h : ∀ k, s.fanStands k) (n : Slot) (f : FanChannel → FanChannel)
    (others : f (s.fan n) =
      { s.fan n with ramp := (f (s.fan n)).ramp, rampTimer := (f (s.fan n)).rampTimer }) (k : Slot) :
    ((s.modFan n f).restage n).fanStands k := by
  have fan (m : Slot) : ((s.modFan n f).fan m).gen = (s.fan m).gen ∧
      ((s.modFan n f).fan m).ownStaged = (s.fan m).ownStaged := by
    rw [State.modFan_fan]
    split
    · next same => subst same; rw [others]; exact ⟨rfl, rfl⟩
    · exact ⟨rfl, rfl⟩
  have restaged : Restaged (s.modFan n f) ((s.modFan n f).restage n) n :=
    .of_restage _ _ _ n (fun _ => rfl) (State.restage_sec _ n) (State.restage_stopLow _ n) fun _ => rfl
  refine restaged.fanStands (State.restage_stopLow _ n) (fun m => ?_) (fun m other => ?_) (fun m _ _ => ⟨?_, ?_⟩) k
  · rw [State.restage_sec, (fan m).1]
    exact (h m).1
  · rw [State.restage_sec, State.modFan_fan_ne _ _ other]
    exact (h m).2.1
  · have hands := (h m).2.2
    have pairs : (s.modFan n f).partner m = s.partner m := rfl
    unfold State.handsOwn State.handed at hands ⊢
    simp only [(fan _).1, (fan _).2, pairs]
    exact hands
  · rw [State.restage_partner]

theorem State.assertReset_fansStand {s : State} (h : ∀ k, s.fanStands k) (k : Slot) : s.assertReset.fanStands k := by
  have fan (m : Slot) : s.assertReset.fan m = (s.fan m).forceLow := by
    simp [State.assertReset, State.fan, tabGet]
  refine (h k).congr (fun m => ?_) ?_ ?_ ?_ (fun _ => rfl) rfl <;> rw [fan] <;> rfl

/-- Right after a reset every slot is VACANT and every channel idle. -/
theorem fansStand_of_fresh {s : State} (sections : s.sections = Vector.replicate 24 .cleared)
    (fans : s.fans = Vector.replicate 24 .afterReset) (k : Slot) : s.fanStands k := by
  have sec : s.sec k = .cleared := by rw [State.sec, sections, tabGet_replicate]
  have fan : s.fan k = .afterReset := by rw [State.fan, fans, tabGet_replicate]
  exact State.fanStands_of_idle (by rw [sec]; rfl) (by rw [fan, sec]; rfl) (by rw [fan]; rfl) (by rw [sec]; rfl)
    (by rw [fan]; rfl)

theorem Move.fansStand {s t : State} (move : Move s t) (awake : s.inReset = false) (h : ∀ k, s.fanStands k) (k : Slot) :
    t.fanStands k := by
  cases move with
  | same records => rw [records]; exact h k
  | search move => exact searchStable_fansStand.move move h k
  | enrol n c vacant => exact State.enrol_fansStand h vacant c k
  | record n f others loop gang =>
    refine fansStand_congr h (fun _ => by rfl) (fun m => ?_) (by rfl) k
    rw [State.modSec_sec_eq]
    split
    · next same =>
      subst same
      rw [SectionRecord.driveKey, gang, others]
      rfl
    · rfl
  | gang n on =>
    refine fansStand_restagePair h n (fun _ => by rfl) (fun m outside => ?_) (fun m => ?_) (by rfl) k
    · rw [State.modSec_sec_ne _ _ fun same => outside (by rw [same]; exact mem_pair n)]
    · rw [State.modSec_sec_eq]
      split
      · next same => rw [same]
      · rfl
  | active n m =>
    refine fansStand_restage (u := s.modSec n fun r => { r with active := m }) h n (fun _ => rfl)
      (fun k other => State.modSec_sec_ne _ _ other) ?_ ?_ ?_ rfl (fun _ => rfl) (State.restage_sec _ n)
      (State.restage_stopLow _ n) k <;> rw [State.modSec_sec_self]
  | protect n p =>
    refine fansStand_restage (u := s.modSec n fun r => { r with protection := p }) h n (fun _ => rfl)
      (fun k other => State.modSec_sec_ne _ _ other) ?_ ?_ ?_ rfl (fun k => ?_) (fun k => ?_) ?_ k
    · rw [State.modSec_sec_self]
    · rw [State.modSec_sec_self]
    · rw [State.modSec_sec_self]
    all_goals simp [State.setProtection]
  | retire n inService =>
    have retiring : ((s.retireLinks n).sec n).slot = .retiring := by
      rw [State.retireLinks_sec, State.retiredSec, if_pos rfl]
    have valve := State.retireValve_fansStand (State.retireLinks_fansStand h inService) retiring
    rw [State.retireRecords_eq]
    exact fansStand_congr valve (fun m => by simp) (fun m => by simp) (by simp) k
  | drain n drains => exact drains.fansStand h k
  | join n =>
    refine fansStand_congr h (fun _ => by rfl) (fun m => ?_) (by rfl) k
    rw [State.joinQueue_sec, State.modSec_sec_eq]
    split
    · next same => subst same; rfl
    · rfl
  | evaluated n rest e now =>
    refine fansStand_congr h (fun _ => by rfl) (fun m => ?_) (by rfl) k
    rw [State.modSec_sec_eq]
    split
    · next same => subst same; rfl
    · rfl
  | dest d v =>
    refine fansStand_congr h (fun m => by simp) (fun m => ?_) (by simp) k
    rw [State.evalLinesOf_sec]
    exact s.setDest_driveKey d v m
  | window d => exact fansStand_congr h (fun m => by simp) (s.setDest_driveKey d _) (by simp) k
  | outlet n v => exact State.captureOutlet_fansStand h n v k
  | regime l g =>
    have begun : ∀ k, (s.modLoop l fun r => { r with regime := g, regimeEntry := s.partTime }).fanStands k :=
      fansStand_congr h (fun _ => rfl) (fun _ => rfl) rfl
    refine fansStand_congr (foldl_copyActive_fansStand l g allSlots _ begun) (fun m => ?_) (fun m => ?_) ?_ k <;>
      simp [State.changeRegime]
  | fan n g staged enabled =>
    have own (m : Slot) : ((s.modFan n fun f => { f with gen := g f.gen }).fan m).ownStaged = (s.fan m).ownStaged ∧
        ((s.modFan n fun f => { f with gen := g f.gen }).fan m).ramp = (s.fan m).ramp ∧
        ((s.modFan n fun f => { f with gen := g f.gen }).fan m).gen.enabled = (s.fan m).gen.enabled ∧
        ((s.modFan n fun f => { f with gen := g f.gen }).fan m).gen.stagedDuty = (s.fan m).gen.stagedDuty := by
      rw [State.modFan_fan]
      split
      · next same => subst same; exact ⟨rfl, rfl, enabled _, staged _⟩
      · exact ⟨rfl, rfl, rfl, rfl⟩
    obtain ⟨_, ramp, on, duty⟩ := own k
    exact (h k).congr (fun m => (own m).1) ramp on duty (fun _ => rfl) rfl
  | fanRamp n f others => exact State.fanRamp_fansStand h n f others k
  | configure c vacant => exact State.configure_fansStand h vacant c k
  | assertStop => exact assertStop_fansStand h k
  | releaseStop => exact releaseStop_fansStand h k
  | stopInReset low asleep =>
    rw [awake] at asleep
    cases asleep
  | assertReset => exact State.assertReset_fansStand h k
  | reset fresh =>
    rw [fresh]
    exact fansStand_of_fresh rfl rfl k
  | entries | curves => exact h k
  | post | drop | binding | loop | decided | becomeSet | unsetLoop | pump | line | delay =>
    refine fansStand_congr h (fun m => ?_) (fun m => ?_) ?_ k <;> simp

end Sys2Proof.Machine
end

section
/-! PROOF. The pump channels' staged duties (R82), move by move, and the drives together. -/

namespace Sys2Proof.Machine

open Sys2Proof

/-- A pump channel stands as R82 says. -/
def State.pumpStands (s : State) (l : LoopId) : Prop :=
  (s.loopRec l).isSet = true → (s.pump l).stagedDuty = s.pumpDuty l

theorem State.pumpsDecided_iff (s : State) : s.pumpsDecided ↔ (s.inReset = false → ∀ l, s.pumpStands l) := .rfl

/-- What the duty of a pump reads of its loop. -/
def LoopRecord.pumpKey (r : LoopRecord) : Bool × Nat × Nat × Nat × Regime × Nat :=
  (r.isSet, r.config.stopDuty, r.config.frostFloor, r.config.defendFloor, r.regime, r.ramp)

/-- A section is a STARTING or LIVE one of a loop in a protection state. -/
def SectionRecord.isIn (r : SectionRecord) (l : LoopId) (p : Protection) : Bool :=
  r.slot.inService && r.config.loopOf == l && r.protection == p

theorem State.anyMemberIn_of_members {s t : State} {l : LoopId} {p : Protection}
    (member : ∀ m, (t.sec m).isIn l p = (s.sec m).isIn l p) : t.anyMemberIn l p = s.anyMemberIn l p := by
  show (allSlots.any fun m => (t.sec m).isIn l p) = allSlots.any fun m => (s.sec m).isIn l p
  simp only [member]

theorem State.pumpDuty_of_keys {s t : State} {l : LoopId} (key : (t.loopRec l).pumpKey = (s.loopRec l).pumpKey)
    (member : ∀ m p, p ≠ .normal → (t.sec m).isIn l p = (s.sec m).isIn l p) (stop : t.stopLow = s.stopLow) :
    t.pumpDuty l = s.pumpDuty l := by
  obtain ⟨_, duty, frost, defend, regime, ramp⟩ := by simpa [LoopRecord.pumpKey] using key
  simp only [State.pumpDuty, State.pumpFloor, stop, duty, frost, defend, regime, ramp,
    State.anyMemberIn_of_members fun m => member m .defend (by decide),
    State.anyMemberIn_of_members fun m => member m .tripped (by decide)]

theorem State.pumpStands.congr {s t : State} {l : LoopId} (h : s.pumpStands l)
    (key : (t.loopRec l).pumpKey = (s.loopRec l).pumpKey)
    (pump : (t.pump l).stagedDuty = (s.pump l).stagedDuty)
    (member : ∀ m p, p ≠ .normal → (t.sec m).isIn l p = (s.sec m).isIn l p) (stop : t.stopLow = s.stopLow) :
    t.pumpStands l := by
  intro set
  rw [pump, State.pumpDuty_of_keys key member stop]
  exact h ((congrArg (·.1) key).symm.trans set)

/-- A pump decided again stands, and the others as before. -/
theorem State.decidePump_stands {s : State} {l : LoopId} (others : ∀ k, k ≠ l → s.pumpStands k) (k : LoopId) :
    (s.decidePump l).pumpStands k := by
  intro set
  rw [State.decidePump_loopRec] at set
  have duty : (s.decidePump l).pumpDuty k = s.pumpDuty k :=
    State.pumpDuty_of_keys (by rw [State.decidePump_loopRec]) (fun m p _ => by rw [State.decidePump_sec]) (by simp)
  rw [duty]
  unfold State.decidePump
  by_cases same : k = l
  · subst same
    rw [if_pos set, State.modPump_pump_self]
  · split
    · rw [State.modPump_pump, if_neg (Ne.symm same)]
      exact others k same set
    · exact others k same set

theorem State.decidePumps_stand (s : State) (l : LoopId) : s.decidePumps.pumpStands l := by
  intro set
  rw [State.decidePumps_loopRec] at set
  rw [State.decidePumps_pump, if_pos set]
  exact (State.pumpDuty_of_keys (by rw [State.decidePumps_loopRec]) (fun m p _ => by rw [State.decidePumps_sec])
    (by simp)).symm

/-- One section changes, but not in what the pumps read. -/
theorem pumpsStand_of_one {s t : State} (h : ∀ l, s.pumpStands l) (n : Slot) {r : SectionRecord}
    (sec : ∀ m, t.sec m = if m = n then r else s.sec m)
    (member : ∀ l p, p ≠ .normal → r.isIn l p = (s.sec n).isIn l p) (loops : ∀ l, t.loopRec l = s.loopRec l)
    (pumps : ∀ l, t.pump l = s.pump l) (stop : t.stopLow = s.stopLow) (l : LoopId) : t.pumpStands l := by
  refine (h l).congr (by rw [loops]) (by rw [pumps]) (fun m p deep => ?_) stop
  rw [sec]
  split
  · next same => rw [same]; exact member l p deep
  · rfl

theorem pumpsStand_congr {s t : State} (h : ∀ l, s.pumpStands l) (sec : ∀ m, t.sec m = s.sec m)
    (loops : ∀ l, t.loopRec l = s.loopRec l) (pumps : ∀ l, t.pump l = s.pump l) (stop : t.stopLow = s.stopLow)
    (l : LoopId) : t.pumpStands l :=
  (h l).congr (by rw [loops]) (by rw [pumps]) (fun m p _ => by rw [sec]) stop

/-- One loop record changes, but not in what its pump reads. -/
theorem State.modLoop_pumpsStand {s : State} (h : ∀ l, s.pumpStands l) (l : LoopId) (f : LoopRecord → LoopRecord)
    (key : (f (s.loopRec l)).pumpKey = (s.loopRec l).pumpKey) (k : LoopId) : (s.modLoop l f).pumpStands k := by
  refine (h k).congr ?_ rfl (fun _ _ _ => rfl) rfl
  rw [State.modLoop_loopRec]
  split
  · next same => subst same; exact key
  · rfl

theorem searchStable_pumpsStand : SearchStable fun s : State => ∀ l, s.pumpStands l where
  mark s m n h := pumpsStand_of_one h n (s.setMark_sec m n) (fun _ _ _ => rfl) (s.setMark_loopRec m n)
    (s.setMark_pump m n) (by simp)
  context _ _ h := h
  post _ _ _ _ h := h
  window s l _ _ _ h := State.modLoop_pumpsStand h l _ rfl

theorem Drain.isIn {s : State} {n : Slot} {t : State} (drains : Drain s n t) (l : LoopId) (p : Protection) (m : Slot) :
    (t.sec m).isIn l p = (s.sec m).isIn l p := by
  rcases drains.sec m with same | ⟨rfl, retiring, cleared | ⟨fan, valve, met⟩⟩
  · rw [same]
  · rw [cleared, SectionRecord.isIn, SectionRecord.isIn, retiring]
    rfl
  · rw [met]; rfl

theorem Drain.pump {s : State} {n : Slot} {t : State} (drains : Drain s n t) (l : LoopId) : t.pump l = s.pump l := by
  cases drains <;> simp

theorem Drain.stopLow {s : State} {n : Slot} {t : State} (drains : Drain s n t) : t.stopLow = s.stopLow := by
  cases drains <;> simp

theorem State.setDest_pumpKey (s : State) (d : DestField) (v : Destination) (l : LoopId) :
    ((s.setDest d v).loopRec l).pumpKey = (s.loopRec l).pumpKey := by
  cases d with
  | outlet | air | valve => rfl
  | loopFlow k | loopPressure k | loopConcentration k | loopAir k =>
    rw [State.setDest, State.modLoop_loopRec]
    split
    · next same => subst same; rfl
    · rfl

theorem State.setDest_isIn (s : State) (d : DestField) (v : Destination) (l : LoopId) (p : Protection) (m : Slot) :
    ((s.setDest d v).sec m).isIn l p = (s.sec m).isIn l p := by
  rw [State.setDest_sec_shape]
  rfl

theorem SectionRecord.captured_isIn (r : SectionRecord) (v : Destination) (l : LoopId) (p : Protection) :
    (r.captured v).isIn l p = r.isIn l p := by
  unfold SectionRecord.captured SectionRecord.isIn
  dsimp only
  split
  · next starting => rw [starting]; rfl
  · rfl

theorem State.retiredSec_isIn (s : State) (n m : Slot) {l : LoopId} (p : Protection)
    (other : l ≠ (s.sec n).config.loopOf) : (s.retiredSec n m).isIn l p = (s.sec m).isIn l p := by
  unfold State.retiredSec SectionRecord.isIn
  dsimp only
  by_cases same : m = n
  · subst same
    have elsewhere : ((s.sec m).config.loopOf == l) = false := by simpa using Ne.symm other
    rw [if_pos rfl, elsewhere]
    simp [SlotState.inService]
  · rw [if_neg same]
    split <;> rfl

/-- The pump of the loop that a section leaves is decided again (R24, R82). -/
theorem State.retireRecords_pumpsStand {s : State} (h : ∀ l, s.pumpStands l) (n : Slot) (l : LoopId) :
    (s.retireRecords n).pumpStands l := by
  have loops : (((s.retireLinks n).retireValve n).leaveMasks n).loops = s.loops := by
    rw [State.leaveMasks_loops, State.retireValve_loops, State.retireLinks_loops]
  have before (k : LoopId) (other : k ≠ (s.sec n).config.loopOf) :
      (((s.retireLinks n).retireValve n).leaveMasks n).pumpStands k := by
    refine (h k).congr (by simp only [State.loopRec, loops]) ?_ (fun m p _ => ?_) ?_
    · simp [State.retireLinks, State.unbindSection_eq_foldl, foldl_keeps (fun s : State => s.pump k) (State.emptyFor n)
        fun s b => by
          rw [State.emptyFor_eq]
          split <;> rfl]
    · rw [State.leaveMasks_sec,
        State.retireValve_keeps (fun r => r.isIn k p) ⟨fun _ _ _ => rfl, fun _ _ => rfl⟩, State.retireLinks_sec,
        s.retiredSec_isIn n m p other]
    · simp [State.retireLinks]
  rw [State.retireRecords_eq]
  exact State.modLoop_pumpsStand (State.decidePump_stands before) _ _ rfl l

theorem State.becomeSet_pumpsStand {s : State} (h : ∀ l, s.pumpStands l) (l : LoopId) (c : LoopConfig) (k : LoopId) :
    (s.becomeSet l c).pumpStands k := by
  unfold State.becomeSet
  dsimp only
  refine State.modLoop_pumpsStand (fun j => ?_) l _ rfl k
  generalize modified : s.modLoop l _ = u
  have enabled : (u.modPump l fun _ => Channel.enable (u.pumpDuty l) c.period (u.pumpActiveLow l)).pumpDuty j =
      u.pumpDuty j := rfl
  intro set
  rw [enabled, State.modPump_pump]
  split
  · next same => subst same; rfl
  · next other =>
    have stands : u.pumpStands j := by
      subst modified
      refine (h j).congr ?_ rfl (fun _ _ _ => rfl) rfl
      rw [State.modLoop_loopRec, if_neg other]
    exact stands set

theorem State.unsetLoop_pumpsStand {s : State} (h : ∀ l, s.pumpStands l) (l k : LoopId) :
    (s.unsetLoop l).pumpStands k := by
  by_cases same : l = k
  · subst same
    intro set
    have unset : ((s.unsetLoop l).loopRec l).isSet = false := by simp [State.unsetLoop, LoopRecord.afterReset]
    rw [unset] at set
    cases set
  · refine (h k).congr ?_ ?_ (fun m p _ => by rw [State.unsetLoop_sec]) rfl
    · simp [State.unsetLoop, State.modLoop_loopRec, same]
    · simp [State.unsetLoop, State.modPump_pump, same]

theorem State.changeRegime_pumpsStand {s : State} (h : ∀ l, s.pumpStands l) (l : LoopId) (g : Regime) (k : LoopId) :
    (s.changeRegime l g).pumpStands k := by
  unfold State.changeRegime
  dsimp only
  refine State.decidePump_stands (fun j other => ?_) k
  refine (h j).congr ?_ ?_ (fun m p _ => ?_) ?_
  · rw [State.post_loopRec, foldl_keeps (fun s : State => s.loopRec j) _ fun s n => s.copyActive_loopRec l g n j,
      State.modLoop_loopRec, if_neg (Ne.symm other)]
  · rw [State.post_pump, foldl_keeps (fun s : State => s.pump j) _ fun s n => s.copyActive_pump l g n j]
    rfl
  · rw [State.post_sec, foldl_keeps (fun s : State => (s.sec m).isIn j p) _ fun s n =>
      s.copyActive_keeps (fun r => r.isIn j p) (fun _ _ => rfl) l g n m]
    rfl
  · rw [State.post_stopLow, foldl_keeps State.stopLow _ fun s n => s.copyActive_stopLow l g n]
    rfl

/-- Right after a reset every loop is UNSET. -/
theorem pumpsStand_of_fresh {s : State} (loops : s.loops = Vector.replicate 4 .afterReset) (l : LoopId) :
    s.pumpStands l := by
  intro set
  rw [State.loopRec, loops, tabGet_replicate] at set
  cases set

theorem Move.pumpsStand {s t : State} (move : Move s t) (awake : s.inReset = false) (h : ∀ l, s.pumpStands l)
    (l : LoopId) : t.pumpStands l := by
  cases move with
  | same records => rw [records]; exact h l
  | search move => exact searchStable_pumpsStand.move move h l
  | enrol n c vacant =>
    refine pumpsStand_of_one h n (s.enrol_sec n c) (fun k p deep => ?_) (fun k => by simp) (fun k => by simp)
      (by simp) l
    have normal : (Protection.normal == p) = false := by simpa using Ne.symm deep
    have new : (SectionRecord.enrolled c (s.loopRec c.loopOf).regime (s.expiryIn 10)).protection = .normal := rfl
    rw [SectionRecord.isIn, SectionRecord.isIn, vacant, new, normal, Bool.and_false]
    rfl
  | record n f others loop =>
    refine pumpsStand_of_one h n (s.modSec_sec_eq n f) (fun k p _ => ?_) (fun _ => rfl) (fun _ => rfl) rfl l
    rw [SectionRecord.isIn, loop, others]
    rfl
  | gang n on =>
    refine pumpsStand_of_one (r := { s.sec n with config := { (s.sec n).config with gangFlag := on } }) h n
      (fun m => ?_) (fun _ _ _ => rfl) (fun k => by simp) (fun k => by simp) (by simp) l
    rw [State.restagePair_sec, State.modSec_sec_eq]
  | active n m =>
    refine pumpsStand_of_one (r := { s.sec n with active := m }) h n
      (fun m => ?_) (fun _ _ _ => rfl) (fun k => by simp) (fun k => by simp) (by simp) l
    rw [State.restage_sec, State.modSec_sec_eq]
  | protect n p =>
    have before (k : LoopId) (other : k ≠ (s.sec n).config.loopOf) :
        ((s.modSec n fun r => { r with protection := p }).restage n).pumpStands k := by
      refine (h k).congr (by simp) (by simp) (fun m q _ => ?_) (by simp)
      rw [State.restage_sec, State.modSec_sec_eq]
      split
      · next same =>
        have elsewhere : ((s.sec n).config.loopOf == k) = false := by simpa using Ne.symm other
        rw [same, SectionRecord.isIn, SectionRecord.isIn, elsewhere]
        simp
      · rfl
    have decided := State.decidePump_stands before
    unfold State.setProtection
    simp only [State.modSec_sec_self]
    exact pumpsStand_congr decided (by simp) (by simp) (by simp) (by simp) l
  | retire n => exact State.retireRecords_pumpsStand h n l
  | drain n drains =>
    exact (h l).congr (by rw [drains.loopRec]) (by rw [drains.pump]) (fun m p _ => drains.isIn l p m) drains.stopLow
  | join n =>
    refine pumpsStand_of_one (r := { s.sec n with evalTimer := none }) h n
      (fun m => ?_) (fun _ _ _ => rfl) (fun k => by simp) (fun k => by simp) (by simp) l
    rw [State.joinQueue_sec, State.modSec_sec_eq]
  | evaluated n rest e now =>
    refine pumpsStand_of_one (r := (s.sec n).evaluated e now) h n (fun m => ?_) (fun _ _ _ => rfl) (fun k => by rfl)
      (fun k => by rfl) (by rfl) l
    exact State.modSec_sec_eq _ n _ m
  | dest d v =>
    refine (h l).congr ?_ (by simp) (fun m p _ => ?_) (by simp)
    · rw [State.evalLinesOf_loopRec]
      exact s.setDest_pumpKey d v l
    · rw [State.evalLinesOf_sec]
      exact s.setDest_isIn d v l p m
  | window d =>
    refine (h l).congr ?_ (by simp) (fun m p _ => ?_) (by simp)
    · exact s.setDest_pumpKey d _ l
    · exact s.setDest_isIn d _ l p m
  | outlet n v =>
    refine pumpsStand_of_one h n (s.captureOutlet_sec n v) (fun k p _ => SectionRecord.captured_isIn _ v k p)
      (fun k => ?_) (fun k => ?_) ?_ l
    all_goals
      unfold State.captureOutlet
      dsimp only
      split <;> simp [State.setDest]
  | loop k f others floors =>
    refine State.modLoop_pumpsStand h k f ?_ l
    obtain ⟨frost, defend, stop⟩ := floors
    rw [LoopRecord.pumpKey, frost, defend, stop, others]
    rfl
  | decided k f others =>
    refine State.decidePump_stands (fun j other => ?_) l
    refine (h j).congr ?_ rfl (fun _ _ _ => rfl) rfl
    rw [State.modLoop_loopRec, if_neg (Ne.symm other)]
  | becomeSet k c => exact State.becomeSet_pumpsStand h k c l
  | unsetLoop k => exact State.unsetLoop_pumpsStand h k l
  | regime k g => exact State.changeRegime_pumpsStand h k g l
  | pump k f staged =>
    refine (h l).congr rfl ?_ (fun _ _ _ => rfl) rfl
    rw [State.modPump_pump]
    split
    · next same => subst same; exact staged
    · rfl
  | configure c =>
    refine (h l).congr (by rw [State.configure_loopRec]) ?_ (fun m p _ => by rw [State.configure_sec]) (by simp)
    rw [State.configure_pump]
    split <;> rfl
  | assertStop => exact State.decidePumps_stand _ l
  | releaseStop => exact State.decidePumps_stand _ l
  | stopInReset low asleep =>
    rw [awake] at asleep
    cases asleep
  | assertReset =>
    refine (h l).congr rfl ?_ (fun _ _ _ => rfl) rfl
    have pump : s.assertReset.pump l = (s.pump l).forceLow := by simp [State.assertReset, State.pump]
    rw [pump]
    rfl
  | reset fresh =>
    rw [fresh]
    exact pumpsStand_of_fresh rfl l
  | entries | curves => exact h l
  | post | drop | binding | line | delay | fan | fanRamp =>
    refine pumpsStand_congr h (fun m => ?_) (fun m => ?_) (fun m => ?_) ?_ l <;> simp

end Sys2Proof.Machine
end

section
/-! PROOF. The drives together (R126, R129 to R132, R82): only a reset ends or begins the state in a reset. -/

namespace Sys2Proof.Machine

open Sys2Proof

theorem searchStable_resetPin (p : ResetPin) : SearchStable fun s : State => s.resetPin = p where
  mark s m n h := (s.setMark_resetPin m n).trans h
  context _ _ h := h
  post _ _ _ _ h := h
  window _ _ _ _ _ h := h

/-- A move leaves the reset pin, or the part comes into a reset, or it has just left one. -/
theorem Move.resetPin {s t : State} (move : Move s t) :
    t.resetPin = s.resetPin ∨ t.inReset = true ∨
      t.sections = Vector.replicate 24 .cleared ∧ t.fans = Vector.replicate 24 .afterReset ∧
        t.loops = Vector.replicate 4 .afterReset := by
  cases move with
  | same records => rw [records]; exact .inl rfl
  | search move => exact .inl ((searchStable_resetPin s.resetPin).move move rfl)
  | reset fresh => rw [fresh]; exact .inr (.inr ⟨rfl, rfl, rfl⟩)
  | assertReset =>
    refine .inr (.inl ?_)
    show (s.resetPin.assert != .released) = true
    cases s.resetPin <;> rfl
  | drain n drains => cases drains <;> exact .inl (by simp)
  | outlet n v =>
    refine .inl ?_
    unfold State.captureOutlet
    dsimp only
    split <;> simp
  | assertStop => exact .inl (by rw [State.decidePumps_resetPin, foldl_stopFan_frame])
  | retire n =>
    refine .inl ?_
    rw [State.retireRecords_eq]
    simp [State.retireLinks]
  | entries | curves | stopInReset | evaluated => exact .inl rfl
  | post | drop | binding | loop | decided | becomeSet | unsetLoop | pump | line | delay | fan | fanRamp | enrol
  | record | gang | active | protect | join | dest | window | regime | configure | releaseStop =>
    exact .inl (by simp [State.setProtection])

theorem Move.fansHeld {s t : State} (move : Move s t) (h : s.fansHeld) : t.fansHeld := by
  rw [State.fansHeld_iff] at h ⊢
  intro awake n
  rcases move.resetPin with same | asleep | ⟨sections, fans, _⟩
  · have before : s.inReset = false := by rwa [State.inReset, ← same]
    exact move.fansStand before (h before) n
  · rw [awake] at asleep
    cases asleep
  · exact fansStand_of_fresh sections fans n

theorem Move.pumpsDecided {s t : State} (move : Move s t) (h : s.pumpsDecided) : t.pumpsDecided := by
  rw [State.pumpsDecided_iff] at h ⊢
  intro awake l
  rcases move.resetPin with same | asleep | ⟨_, _, loops⟩
  · have before : s.inReset = false := by rwa [State.inReset, ← same]
    exact move.pumpsStand before (h before) l
  · rw [awake] at asleep
    cases asleep
  · exact pumpsStand_of_fresh loops l

/-- Settles O56, move by move. -/
theorem drivesStayWithinTheirCeilings : Obligations.DrivesStayWithinTheirCeilings := fun _ _ fans pumps stepped =>
  ⟨step_keeps (fun _ _ => Move.fansHeld) stepped fans, step_keeps (fun _ _ => Move.pumpsDecided) stepped pumps⟩

end Sys2Proof.Machine
end

section
/-! PROOF. The nibble code and the telegrams (R90 to R93). -/

namespace Sys2Proof.Machine

open Sys2Proof

/-! ### The nibble code -/

/-- The code's outcomes for every coded byte: itself, and with one or two bits inverted (R92). -/
theorem decodeNibble_encodeNibble (v : BitVec 4) :
    decodeNibble (encodeNibble v) = some v ∧
      (∀ i : Fin 8, decodeNibble (encodeNibble v ^^^ 1#8 <<< i.val) = some v) ∧
      ∀ i j : Fin 8, i ≠ j → decodeNibble (encodeNibble v ^^^ 1#8 <<< i.val ^^^ 1#8 <<< j.val) = none := by
  revert v
  decide +kernel

/-- The layout of a coded byte (R91). -/
theorem encodeNibble_layout : ∀ v : BitVec 4,
    let d1 := v.getLsbD 3
    let d2 := v.getLsbD 2
    let d3 := v.getLsbD 1
    let d4 := v.getLsbD 0
    let b := encodeNibble v
    b.getLsbD 0 = (d1 ^^ d2 ^^ d4) ∧ b.getLsbD 1 = (d1 ^^ d3 ^^ d4) ∧ b.getLsbD 2 = d1 ∧
      b.getLsbD 3 = (d2 ^^ d3 ^^ d4) ∧ b.getLsbD 4 = d2 ∧ b.getLsbD 5 = d3 ∧ b.getLsbD 6 = d4 ∧
      ((List.range 8).filter fun i => b.getLsbD i).length % 2 = 0 := by
  decide +kernel

/-- A byte holds an odd number of ones exactly where its count is odd (R92). -/
theorem oddOnes_iff : ∀ b : Byte, oddOnes b = decide (((List.range 8).filter fun i => b.getLsbD i).length % 2 = 1) := by
  decide +kernel

/-- The data bits, most significant first, in either notation. -/
theorem dataNibble_eq : ∀ c : Byte,
    dataNibble c = BitVec.ofBoolListBE [c.getLsbD 2, c.getLsbD 4, c.getLsbD 5, c.getLsbD 6] := by
  decide +kernel

/-- Settles O2. -/
theorem nibbleCodeCorrectsAndDetects : Obligations.NibbleCodeCorrectsAndDetects := by
  refine ⟨encodeNibble_layout, fun b => ?_, decodeNibble_encodeNibble⟩
  simp only [← dataNibble_eq]
  unfold decodeNibble
  rw [oddOnes_iff]
  simp only [decide_eq_true_eq]
  rfl

/-! ### Telegrams -/

/-- Nine characters whose coded bytes deliver a telegram's nibbles, with its value, quality and check byte, decode to
it. -/
theorem decodeTelegram_of_nibbles (t : Telegram) {b1 b2 b3 b4 : Byte}
    (high : decodeNibble b1 = some (t.node.extractLsb' 4 4)) (low : decodeNibble b2 = some (t.node.extractLsb' 0 4))
    (kind : decodeNibble b3 = some (t.kind ++ BitVec.ofBool t.command)) (sub : decodeNibble b4 = some t.sub) :
    decodeTelegram 0x3C#8 b1 b2 b3 b4 (t.value.extractLsb' 8 8) (t.value.extractLsb' 0 8) (t.quality.setWidth 8)
      (-(t.value.extractLsb' 8 8 + t.value.extractLsb' 0 8 + t.quality.setWidth 8)) = .ok t := by
  have reserved : (t.quality.setWidth 8).extractLsb' 2 6 = 0 := by
    generalize t.quality = q
    revert q
    decide
  have sum (a b c : Byte) : a + b + c + -(a + b + c) = 0 := BitVec.add_right_neg _
  have node : (t.node.extractLsb' 4 4 ++ t.node.extractLsb' 0 4 : Byte) = t.node := by
    generalize t.node = b
    revert b
    decide +kernel
  have value : (t.value.extractLsb' 8 8 ++ t.value.extractLsb' 0 8 : BitVec 16) = t.value := by
    rw [BitVec.extractLsb'_append_extractLsb'_eq_extractLsb' (by decide), BitVec.extractLsb'_eq_self]
  have quality : (t.quality.setWidth 8).extractLsb' 0 2 = t.quality := by
    generalize t.quality = q
    revert q
    decide
  have kindBits : (t.kind ++ BitVec.ofBool t.command : BitVec 4).extractLsb' 1 3 = t.kind ∧
      (t.kind ++ BitVec.ofBool t.command : BitVec 4).getLsbD 0 = t.command := by
    generalize t.kind = k
    generalize t.command = c
    revert k c
    decide
  unfold decodeTelegram
  rw [high, low, kind, sub]
  obtain ⟨ofKind, ofCommand⟩ := kindBits
  simp only [reserved, sum, node, value, quality, ofKind, ofCommand, ne_eq, not_true_eq_false, if_false]

/-- A telegram as field nodes send it, one of its coded bytes exchanged for another of the same nibble. -/
theorem decodeFragment_heard (b0 b1 b2 b3 b4 b5 b6 b7 b8 : Byte) :
    decodeFragment (heard [b0, b1, b2, b3, b4, b5, b6, b7, b8]) = some (decodeTelegram b0 b1 b2 b3 b4 b5 b6 b7 b8) := by
  simp [decodeFragment, heard]

/-- A coded byte that is a double error drops the telegram. -/
theorem decodeTelegram_of_double {b1 b2 b3 b4 b5 b6 b7 b8 : Byte}
    (double : decodeNibble b1 = none ∨ decodeNibble b2 = none ∨ decodeNibble b3 = none ∨ decodeNibble b4 = none) :
    decodeTelegram 0x3C#8 b1 b2 b3 b4 b5 b6 b7 b8 = .error .doubleError := by
  unfold decodeTelegram
  rw [if_neg (by simp)]
  split
  · next h1 h2 h3 h4 => simp [h1, h2, h3, h4] at double
  · rfl

/-- Settles O3: each coded byte on its own survives one inverted bit and shows two. -/
theorem telegramsDecodeBack : Obligations.TelegramsDecodeBack := by
  intro t
  have coded (v : BitVec 4) := decodeNibble_encodeNibble v
  have whole {b1 b2 b3 b4 : Byte} := decodeTelegram_of_nibbles t (b1 := b1) (b2 := b2) (b3 := b3) (b4 := b4)
  refine ⟨?_, fun k i => ?_⟩
  · rw [encodeTelegram, decodeFragment_heard, whole (coded _).1 (coded _).1 (coded _).1 (coded _).1]
  · match k with
    | 0 =>
      refine ⟨?_, fun j other => ?_⟩
      · exact (decodeFragment_heard ..).trans
          (congrArg some (whole ((coded _).2.1 i) (coded _).1 (coded _).1 (coded _).1))
      · exact (decodeFragment_heard ..).trans
          (congrArg some (decodeTelegram_of_double (.inl ((coded _).2.2 i j (Ne.symm other)))))
    | 1 =>
      refine ⟨?_, fun j other => ?_⟩
      · exact (decodeFragment_heard ..).trans
          (congrArg some (whole (coded _).1 ((coded _).2.1 i) (coded _).1 (coded _).1))
      · exact (decodeFragment_heard ..).trans
          (congrArg some (decodeTelegram_of_double (.inr (.inl ((coded _).2.2 i j (Ne.symm other))))))
    | 2 =>
      refine ⟨?_, fun j other => ?_⟩
      · exact (decodeFragment_heard ..).trans
          (congrArg some (whole (coded _).1 (coded _).1 ((coded _).2.1 i) (coded _).1))
      · exact (decodeFragment_heard ..).trans
          (congrArg some (decodeTelegram_of_double (.inr (.inr (.inl ((coded _).2.2 i j (Ne.symm other)))))))
    | 3 =>
      refine ⟨?_, fun j other => ?_⟩
      · exact (decodeFragment_heard ..).trans
          (congrArg some (whole (coded _).1 (coded _).1 (coded _).1 ((coded _).2.1 i)))
      · exact (decodeFragment_heard ..).trans
          (congrArg some (decodeTelegram_of_double (.inr (.inr (.inr ((coded _).2.2 i j (Ne.symm other)))))))

end Sys2Proof.Machine
end

section
/-! PROOF. The reset state, value by value, and the step. -/

namespace Sys2Proof.Machine

open Sys2Proof

/-- Settles O1. -/
theorem stepRunsTheFrontCommand : Obligations.StepRunsTheFrontCommand := by
  refine fun s => ⟨fun c rest front => ?_, fun empty => ?_⟩
  · rw [step, front]
  · rw [step, empty]

/-! ### The records of the reset state -/

@[simp] theorem State.reset_sec (n : Slot) : State.reset.sec n = .cleared := tabGet_replicate ..

@[simp] theorem State.reset_fan (n : Slot) : State.reset.fan n = .afterReset := tabGet_replicate ..

@[simp] theorem State.reset_loopRec (l : LoopId) : State.reset.loopRec l = .afterReset := tabGet_replicate ..

@[simp] theorem State.reset_pump (l : LoopId) : State.reset.pump l = .disabled 255 := tabGet_replicate ..

@[simp] theorem State.reset_binding (b : BindingId) : State.reset.binding b = .empty := tabGet_replicate ..

@[simp] theorem State.reset_line (k : LineId) : State.reset.line k = .afterReset := tabGet_replicate ..

theorem State.reset_destinationsKept : State.reset.destinationsKept := by
  have awaiting := Destination.kept_awaiting
  refine State.reset.destinationsKept_iff.mpr ⟨fun n => ?_, fun l => ?_⟩
  · rw [State.reset_sec]
    exact SectionRecord.destsKept_cleared
  · rw [State.reset_loopRec]
    exact ⟨awaiting, awaiting, awaiting, awaiting⟩

theorem State.reset_linesHeld : State.reset.linesHeld := by
  intro k
  rw [State.reset_line]
  simp [ClearLine.afterReset, State.maskSafe]

theorem State.reset_marksKept : State.reset.marksKept :=
  State.unmarked.marksKept ⟨fun n => by rw [State.reset_sec]; rfl, rfl⟩

/-- Settles O60. -/
theorem resetMeetsTheInvariants : Obligations.ResetMeetsTheInvariants := by
  have attention : State.reset.attentionKept := (AttentionChange.restart (l := [])).kept ⟨.nil, nofun⟩
  have ranges : State.reset.sectionsInRange := fun n => by
    rw [State.reset_sec]
    exact SectionRecord.inRange_cleared
  obtain ⟨integrators, orderings⟩ := State.reset.sectionsInRange_iff.mp ranges
  obtain ⟨queue, entries, bindings, masks⟩ := tablesKept_of_empty (s := State.reset) rfl rfl rfl rfl rfl
  have fans : State.reset.fansHeld := fun _ => fansStand_of_fresh rfl rfl
  have pumps : State.reset.pumpsDecided := fun _ => pumpsStand_of_fresh rfl
  exact ⟨attention, integrators, reset_curvesKept, orderings, queue, entries, bindings, masks, fans, pumps,
    State.reset_linesHeld, State.reset_marksKept, State.reset_destinationsKept⟩

/-- Settles O52. -/
theorem resetLeavesTheManualsValues : Obligations.ResetLeavesTheManualsValues := by
  refine ⟨fun n => ⟨State.reset_sec n, State.reset_fan n⟩, fun l => ⟨State.reset_loopRec l, State.reset_pump l⟩,
    ⟨rfl, rfl, rfl, rfl, rfl, rfl, rfl, fun _ => rfl⟩, rfl, ⟨rfl, rfl, fun n => ?_, fun l => ?_⟩, rfl, rfl, rfl, rfl,
    rfl, rfl, rfl, State.reset_binding, fun node => ?_, rfl, State.reset_line, rfl, ?_, ?_, rfl, rfl, rfl, rfl, rfl,
    rfl, rfl, rfl, rfl⟩
  · simp [State.fanActiveLow, State.reset, DriveConfig.afterReset]
  · simp [State.pumpActiveLow, State.reset, DriveConfig.afterReset]
  · simp [State.reset]
  · decide +kernel
  · decide +kernel

end Sys2Proof.Machine
end

section
/-! PROOF. What every request of the link comes to (R168, R173, R176, R177, R181), and the resets. -/

namespace Sys2Proof.Machine

open Sys2Proof

/-! ### The owner of each kind of request -/

/-- The owner that judges a request, by its kind code (R173). -/
def requestOwner : Nat → Byte → List Byte → State → Verdict
  | 0, _, _ => nullRequest
  | 1, j, p => enrolRequest j p
  | 2, j, p => amendRequest j p
  | 3, j, p => lookupRequest j p
  | 4, j, p => fanDemandRequest j p
  | 5, j, p => acknowledgeRequest j p
  | 6, j, p => retireRequest j p
  | 16, j, p => loopSetRequest j p
  | 17, j, p => loopLookupRequest j p
  | 18, j, p => pumpDemandRequest j p
  | 19, j, p => curveLoadRequest j p
  | 20, j, p => curveLookupRequest j p
  | 32, j, p => bindRequest j p
  | 33, j, p => unbindRequest j p
  | 34, j, p => holdRequest j p
  | 35, j, p => bindingLookupRequest j p
  | 36, j, p => seenReadRequest j p
  | 37, j, p => seenClearRequest j p
  | 48, j, p => clearLineSetRequest j p
  | 49, j, p => clearLineLookupRequest j p
  | 64, j, p => searchStartRequest j p
  | 65, j, p => searchStopRequest j p
  | 66, j, p => searchLookupRequest j p
  | 80, j, p => nextAttentionRequest j p
  | 81, j, p => attentionLevelsRequest j p
  | 96, j, p => partStatusRequest j p
  | 97, j, p => partConfigureRequest j p
  | 98, j, p => fullResetRequest j p
  | _, _, _ => nullRequest

theorem exec_of_requestParts {c : Instr} {k dt : Nat} {j : Byte} {p : List Byte}
    (parts : requestParts c = some (k, dt, j, p)) (s : State) :
    exec c s = .next (s.request dt k (requestOwner k j p)) := by
  cases c <;> cases parts <;> rfl

/-- A request that is taken, with its owner's verdict at the take. -/
theorem exec_request_of_taking {c : Instr} {k dt : Nat} {j : Byte} {p : List Byte}
    (parts : requestParts c = some (k, dt, j, p)) {s : State} (taking : s.taking) :
    exec c s = .next ((s.atTake dt).take k (requestOwner k j p (s.atTake dt))) := by
  rw [exec_of_requestParts parts, s.request_of_taking dt k _ taking]

/-- A request whose owner refuses it without a payload. -/
theorem exec_request_of_no {c : Instr} {k dt : Nat} {j : Byte} {p : List Byte}
    (parts : requestParts c = some (k, dt, j, p)) {s : State} (taking : s.taking) {status : Status}
    (verdict : requestOwner k j p (s.atTake dt) = .no status) : exec c s = .next (s.answered dt k status []) := by
  rw [exec_request_of_taking parts taking, verdict]
  rfl

/-- A request whose owner accepts it with DONE. -/
theorem exec_request_of_ok {c : Instr} {k dt : Nat} {j : Byte} {p : List Byte}
    (parts : requestParts c = some (k, dt, j, p)) {s after : State} (taking : s.taking)
    (verdict : requestOwner k j p (s.atTake dt) = .ok after) :
    exec c s = .next (after.putReply { status := .done, kind := BitVec.ofNat 8 k, payload := [] }) := by
  rw [exec_request_of_taking parts taking, verdict]
  rfl

/-- A request whose owner answers it with a payload and leaves the part as it is. -/
theorem exec_request_of_answer {c : Instr} {k dt : Nat} {j : Byte} {p : List Byte}
    (parts : requestParts c = some (k, dt, j, p)) {s : State} (taking : s.taking) {payload : List Byte}
    (verdict : requestOwner k j p (s.atTake dt) = .answer (s.atTake dt) payload) :
    exec c s = .next (s.answered dt k .done payload) := by
  rw [exec_request_of_taking parts taking, verdict]
  rfl

/-! ### Transactions that are not judged -/

theorem State.endTransaction_of_unjudged {s : State} (unjudged : s.link = .ignored ∨ ∃ f, s.link = .answering f true)
    (dt : Nat) (judge : State → State) :
    (s.advance dt).endTransaction judge = { s with time := s.time + dt, link := .idle } := by
  rcases unjudged with h | ⟨f, h⟩ <;> simp [State.endTransaction, State.advance, h]

/-- The beginning of a transaction (R176, R177, R181). -/
theorem exec_transactionBegin_of_idle {s : State} (idle : s.link = .idle) (dt : Nat) :
    exec (.transactionBegin dt) s =
      .next
        (if s.inReset then { s with time := s.time + dt, link := .ignored }
        else if s.readyAt ≤ s.time + dt then { s with time := s.time + dt, link := .answering s.reply false }
        else { s with time := s.time + dt, link := .answering s.notReadyReply true }) := by
  have before : (s.advance dt).link = .idle := idle
  show Host.Outcome.next (s.advance dt).beginTransaction = _
  rw [State.beginTransaction, before]
  simp only [State.replyIsReady, decide_eq_true_eq]
  rfl

theorem isRefused_iff (frame : List Byte) :
    isRefused frame = true ↔ frame.length = 64 ∧ ∃ e, judgeFrame frame = .error e := by
  unfold isRefused
  cases judgeFrame frame <;> simp

/-- Settles O48. -/
theorem repliesAreNotReadyUntilTheirTime : Obligations.RepliesAreNotReadyUntilTheirTime := by
  refine fun s dt => ⟨fun idle awake early => ?_, fun idle asleep => ?_, fun unjudged => ⟨?_, ?_, ?_, ?_⟩,
    fun idle awake ready => ?_, fun awake => ?_⟩
  · rw [exec_transactionBegin_of_idle idle, if_neg (by simp [awake]), if_neg (Nat.not_le.mpr early)]
    rfl
  · rw [exec_transactionBegin_of_idle idle, if_pos asleep]
  · rcases unjudged with h | ⟨f, h⟩ <;>
      simp [exec, execNotReadyTransactionEnd, State.endUnjudged, State.advance, h]
  · intro c k j p parts
    rw [exec_of_requestParts parts]
    exact congrArg _ (State.endTransaction_of_unjudged unjudged dt _)
  · intro bytes extra broken
    have other : ¬ (bytes.length = 64 ∧ extra = 0) := by
      simp only [isBroken, Bool.and_eq_true, Bool.not_eq_true', Bool.and_eq_false_iff, beq_eq_false_iff_ne] at broken
      omega
    show Host.Outcome.next (if bytes.length = 64 ∧ extra = 0 then s else (s.advance dt).endBroken bytes) = _
    rw [if_neg other]
    exact congrArg _ (State.endTransaction_of_unjudged unjudged dt _)
  · intro frame refused
    obtain ⟨length, e, error⟩ := (isRefused_iff frame).mp refused
    show Host.Outcome.next (if frame.length = 64 then (s.advance dt).endRefused frame else s) = _
    rw [if_pos length, State.endRefused, error]
    exact congrArg _ (State.endTransaction_of_unjudged unjudged dt _)
  · rw [exec_transactionBegin_of_idle idle, if_neg (by simp [awake]), if_pos ready]
  · simp [exec, execReplyReady, State.occur, awake, State.runTo]

/-! ### Resets -/

theorem State.restarted_eq (s : State) (cause : ResetCause) (stopLow : Bool) :
    s.restarted cause stopLow = s.afterReset cause stopLow .idle := by
  cases stopLow <;> rfl

/-- Settles O51. -/
theorem resetsRestoreTheResetState : Obligations.ResetsRestoreTheResetState := by
  refine fun s stopLow selLow => ⟨?_, ⟨_, rfl, rfl, ?_⟩, fun pin => ?_, fun dt taking => ?_⟩
  · show Host.Outcome.next (s.poweredOn stopLow selLow false) = _
    simp only [State.poweredOn, State.restarted_eq, Bool.false_eq_true, if_false]
    rfl
  · show Host.Outcome.next _ = _
    simp only [State.restarted_eq]
    cases stopLow <;> cases selLow <;> rfl
  · have cause : s.resetPin.cause = .pin := by
      cases h : s.resetPin with
      | released | low => rfl
      | lowThroughPowerOn => exact absurd h pin
    have link : s.link.abandoned = if s.link = .idle then .idle else .ignored := by
      cases s.link <;> simp [LinkPhase.abandoned]
    show Host.Outcome.next { s.restarted s.resetPin.cause s.stopLow with link := s.link.abandoned } = _
    rw [State.restarted_eq, cause, link]
    rfl
  · rw [exec_request_of_taking rfl taking]
    show Host.Outcome.next ((s.atTake dt).restarted .request s.stopLow) = _
    rw [State.restarted_eq]
    rfl

/-- Settles O12. -/
theorem demandsAreStoredAsSent : Obligations.DemandsAreStoredAsSent := by
  refine fun s dt v taking => ⟨fun n inService => ?_, fun l set => ?_, fun l unset => ?_, fun j beyond => ?_⟩
  · rw [exec_request_of_taking rfl taking]
    simp only [requestOwner, fanDemandRequest, onSlot_index, State.atTake_sec, ifInService_of_inService _ _ inService]
    rfl
  · refine (exec_request_of_ok (after := (s.atTake dt).modLoop l fun r => { r with hostDemand := v.toNat }) rfl taking
      ?_).trans rfl
    have isSet : ((s.atTake dt).loopRec l).isSet = true := set
    simp only [requestOwner, pumpDemandRequest, onLoop_index, isSet]
    rfl
  · refine exec_request_of_no rfl taking ?_
    simp only [requestOwner, pumpDemandRequest, onLoop_index, State.atTake_loopRec, unset]
    rfl
  · refine exec_request_of_no rfl taking ?_
    show pumpDemandRequest j [v] (s.atTake dt) = _
    rw [pumpDemandRequest, onLoop_beyond j beyond]

end Sys2Proof.Machine
end

section
/-! PROOF. The refusals of the link and of the owners (R168, R169, R174, R175). -/

namespace Sys2Proof.Machine

open Sys2Proof

/-! ### Only refusals carry refusal statuses -/

/-- A verdict that is no refusal carries no refusal's status. -/
def Verdict.Settled : Verdict → Prop
  | .refuse _ _ => True
  | .accept _ status _ => status.isRefusal = false
  | .restart after => after.reply.status.isRefusal = false

@[simp] theorem Verdict.settled_refuse (status : Status) (p : List Byte) : (Verdict.refuse status p).Settled := trivial

@[simp] theorem Verdict.settled_no (status : Status) : (Verdict.no status).Settled := trivial

@[simp] theorem Verdict.settled_ok (after : State) : (Verdict.ok after).Settled := rfl

@[simp] theorem Verdict.settled_answer (after : State) (p : List Byte) : (Verdict.answer after p).Settled := rfl

@[simp] theorem Verdict.settled_accepted (after : State) : (Verdict.accept after .accepted []).Settled := rfl

@[simp] theorem Verdict.settled_okClamped (after : State) (clamped : Bool) :
    (Verdict.okClamped after clamped).Settled := by
  cases clamped <;> rfl

theorem onSlot_settled (j : Byte) {owner : Slot → Verdict} (h : ∀ n, (owner n).Settled) : (onSlot j owner).Settled := by
  unfold onSlot
  split
  · exact h _
  · trivial

theorem onLoop_settled (j : Byte) {owner : LoopId → Verdict} (h : ∀ l, (owner l).Settled) :
    (onLoop j owner).Settled := by
  unfold onLoop
  split
  · exact h _
  · trivial

theorem onBinding_settled (j : Byte) {owner : BindingId → Verdict} (h : ∀ b, (owner b).Settled) :
    (onBinding j owner).Settled := by
  unfold onBinding
  split
  · exact h _
  · trivial

theorem onLine_settled (j : Byte) {owner : LineId → Verdict} (h : ∀ k, (owner k).Settled) :
    (onLine j owner).Settled := by
  unfold onLine
  split
  · exact h _
  · trivial

theorem ifInService_settled (r : SectionRecord) {owner : Verdict} (h : owner.Settled) :
    (ifInService r owner).Settled := by
  unfold ifInService
  split
  · trivial
  · exact h
  · exact h
  · trivial

theorem enrolRequest_settled (j : Byte) (p : List Byte) (s : State) : (enrolRequest j p s).Settled := by
  refine onSlot_settled j fun n => ?_
  dsimp only
  repeat' split
  all_goals simp

theorem amendRequest_settled (j : Byte) (p : List Byte) (s : State) : (amendRequest j p s).Settled := by
  refine onSlot_settled j fun n => ifInService_settled _ ?_
  split
  · trivial
  · unfold amendFlow; dsimp only; repeat' split
    all_goals simp
  · unfold amendThresholds; dsimp only; repeat' split
    all_goals simp
  · unfold amendStaleness; dsimp only; repeat' split
    all_goals simp
  · unfold amendRamp; dsimp only; repeat' split
    all_goals simp
  · unfold amendValve; repeat' split
    all_goals simp
  · unfold amendGang; dsimp only; repeat' split
    all_goals simp
  · unfold amendLimits; dsimp only; repeat' split
    all_goals simp
  · trivial

theorem loopSetRequest_settled (j : Byte) (p : List Byte) (s : State) : (loopSetRequest j p s).Settled := by
  refine onLoop_settled j fun l => ?_
  split
  · trivial
  · unfold loopSetGlycol; dsimp only; repeat' split
    all_goals simp
  · unfold loopSetRegime; dsimp only; repeat' split
    all_goals simp
  · unfold loopSetPump; dsimp only; repeat' split
    all_goals simp
  · unfold loopSetLeak; dsimp only; repeat' split
    all_goals simp
  · unfold loopSetSearch; dsimp only; repeat' split
    all_goals simp
  · unfold loopSetUnset; repeat' split
    all_goals simp
  · trivial

theorem acknowledgeRequest_settled (j : Byte) (p : List Byte) (s : State) : (acknowledgeRequest j p s).Settled := by
  refine onSlot_settled j fun n => ?_
  dsimp only
  split
  · trivial
  · refine ifInService_settled _ ?_
    repeat' split
    all_goals simp

theorem retireRequest_settled (j : Byte) (p : List Byte) (s : State) : (retireRequest j p s).Settled := by
  refine onSlot_settled j fun n => ?_
  split
  · trivial
  · refine ifInService_settled _ ?_
    split <;> simp

theorem fanDemandRequest_settled (j : Byte) (p : List Byte) (s : State) : (fanDemandRequest j p s).Settled := by
  refine onSlot_settled j fun n => ?_
  split
  · trivial
  · exact ifInService_settled _ (Verdict.settled_ok _)

theorem bindRequest_settled (j : Byte) (p : List Byte) (s : State) : (bindRequest j p s).Settled := by
  refine onBinding_settled j fun b => ?_
  repeat' split
  all_goals simp

theorem holdRequest_settled (j : Byte) (p : List Byte) (s : State) : (holdRequest j p s).Settled := by
  refine onBinding_settled j fun b => ?_
  repeat' split
  all_goals simp

theorem fullResetRequest_settled (j : Byte) (p : List Byte) (s : State) : (fullResetRequest j p s).Settled := by
  unfold fullResetRequest
  split
  · trivial
  · split
    · trivial
    · rw [State.restarted_eq]
      rfl

theorem searchStartRequest_settled (j : Byte) (p : List Byte) (s : State) : (searchStartRequest j p s).Settled := by
  unfold searchStartRequest
  split
  · dsimp only
    repeat' split
    all_goals simp
  · trivial

/-- Every owner's verdict is settled. -/
theorem requestOwner_settled (k : Nat) (j : Byte) (p : List Byte) (s : State) : (requestOwner k j p s).Settled := by
  unfold requestOwner
  split
  · exact Verdict.settled_ok s
  · exact enrolRequest_settled j p s
  · exact amendRequest_settled j p s
  · refine onSlot_settled j fun n => ?_
    repeat' split
    all_goals simp
  · exact fanDemandRequest_settled j p s
  · exact acknowledgeRequest_settled j p s
  · exact retireRequest_settled j p s
  · exact loopSetRequest_settled j p s
  · refine onLoop_settled j fun l => ?_
    repeat' split
    all_goals simp
  · refine onLoop_settled j fun l => ?_
    repeat' split
    all_goals simp
  · unfold curveLoadRequest; repeat' split
    all_goals simp
  · unfold curveLookupRequest; repeat' split
    all_goals simp
  · exact bindRequest_settled j p s
  · refine onBinding_settled j fun b => ?_
    split <;> simp
  · exact holdRequest_settled j p s
  · refine onBinding_settled j fun b => ?_
    split <;> simp
  · unfold seenReadRequest; repeat' split
    all_goals simp
  · unfold seenClearRequest; repeat' split
    all_goals simp
  · refine onLine_settled j fun k => ?_
    repeat' split
    all_goals simp
  · refine onLine_settled j fun k => ?_
    split <;> simp
  · exact searchStartRequest_settled j p s
  · unfold searchStopRequest; repeat' split
    all_goals simp
  · unfold searchLookupRequest; repeat' split
    all_goals simp
  · unfold nextAttentionRequest; repeat' split
    all_goals simp
  · unfold attentionLevelsRequest; repeat' split
    all_goals simp
  · unfold partStatusRequest; repeat' split
    all_goals simp
  · unfold partConfigureRequest; repeat' split
    all_goals simp
  · exact fullResetRequest_settled j p s
  · exact Verdict.settled_ok s

/-- A request answered with a refusal's status has been refused, so that nothing but the reply has changed. -/
theorem eq_answered_of_isRefusal {c : Instr} {k dt : Nat} {j : Byte} {p : List Byte}
    (parts : requestParts c = some (k, dt, j, p)) {s t : State} (taking : s.taking) (stepped : exec c s = .next t)
    (refused : t.reply.status.isRefusal = true) : t = s.answered dt k t.reply.status t.reply.payload := by
  rw [exec_request_of_taking parts taking] at stepped
  have settled := requestOwner_settled k j p (s.atTake dt)
  cases verdict : requestOwner k j p (s.atTake dt) with
  | refuse status payload =>
    rw [verdict] at stepped
    cases stepped
    rfl
  | accept after status payload =>
    rw [verdict] at stepped settled
    cases stepped
    exact absurd refused (Bool.eq_false_iff.mp settled)
  | restart after =>
    rw [verdict] at stepped settled
    cases stepped
    exact absurd refused (Bool.eq_false_iff.mp settled)

/-! ### Subjects and lengths -/

/-- An owner that states a count of subjects and one payload length (R174). -/
def ChecksShape (owner : Byte → List Byte → State → Verdict) (count length : Nat) : Prop :=
  ∀ j p s, (count ≤ j.toNat → owner j p s = .no .badSubject) ∧
    (j.toNat < count → p.length ≠ length → owner j p s = .no .badLength)

theorem checksShape_onLoop {owner : Byte → List Byte → State → Verdict}
    {accept : List Byte → State → LoopId → Verdict} {length : Nat}
    (shape : ∀ j p s, owner j p s =
      onLoop j fun l => if p.length ≠ length then .no .badLength else accept p s l) :
    ChecksShape owner 4 length := by
  refine fun j p s => ⟨fun beyond => ?_, fun within wrong => ?_⟩
  · rw [shape, onLoop_beyond j beyond]
  · rw [shape, onLoop, dif_pos within, if_pos wrong]

theorem checksShape_onBinding {owner : Byte → List Byte → State → Verdict}
    {accept : List Byte → State → BindingId → Verdict} {length : Nat}
    (shape : ∀ j p s, owner j p s =
      onBinding j fun b => if p.length ≠ length then .no .badLength else accept p s b) :
    ChecksShape owner 48 length := by
  refine fun j p s => ⟨fun beyond => ?_, fun within wrong => ?_⟩
  · rw [shape, onBinding_beyond j beyond]
  · rw [shape, onBinding, dif_pos within, if_pos wrong]

theorem checksShape_onLine {owner : Byte → List Byte → State → Verdict}
    {accept : List Byte → State → LineId → Verdict} {length : Nat}
    (shape : ∀ j p s, owner j p s =
      onLine j fun k => if p.length ≠ length then .no .badLength else accept p s k) :
    ChecksShape owner 4 length := by
  refine fun j p s => ⟨fun beyond => ?_, fun within wrong => ?_⟩
  · rw [shape, onLine_beyond j beyond]
  · rw [shape, onLine, dif_pos within, if_pos wrong]

/-- An owner that checks its subject against a count and its length in this order. -/
theorem checksShape_of_ifs {owner : Byte → List Byte → State → Verdict} {accept : Byte → List Byte → State → Verdict}
    {count length : Nat}
    (shape : ∀ j p s, owner j p s =
      if count ≤ j.toNat then .no .badSubject else if p.length ≠ length then .no .badLength else accept j p s) :
    ChecksShape owner count length := by
  refine fun j p s => ⟨fun beyond => ?_, fun within wrong => ?_⟩
  · rw [shape, if_pos beyond]
  · rw [shape, if_neg (Nat.not_le.mpr within), if_pos wrong]

theorem checksShape_alone {owner accept : Byte → List Byte → State → Verdict} {length : Nat}
    (shape : ∀ j p s, owner j p s =
      if j.toNat ≠ 0 then .no .badSubject else if p.length ≠ length then .no .badLength else accept j p s) :
    ChecksShape owner 1 length :=
  checksShape_of_ifs (accept := accept) fun j p s => by
    rw [shape]
    simp only [Nat.one_le_iff_ne_zero]

/-- The table of the owners with a count of subjects and one payload length (R174). -/
theorem requestOwner_checksShape :
    ∀ x ∈ [(17, 4, 1), (18, 4, 1), (20, 2, 0), (33, 48, 0), (34, 48, 1), (35, 48, 0), (36, 16, 0), (37, 1, 0),
      (49, 4, 0), (64, 4, 0), (65, 1, 0), (66, 1, 0), (80, 1, 0), (96, 1, 0), (98, 1, 0)],
      ChecksShape (requestOwner x.1) x.2.1 x.2.2 := by
  simp only [List.forall_mem_cons, List.not_mem_nil, false_imp_iff, implies_true, and_true]
  refine ⟨?_, ?_, ?_, ?_, ?_, ?_, ?_, ?_, ?_, ?_, ?_, ?_, ?_, ?_, ?_⟩
  · exact checksShape_onLoop (owner := loopLookupRequest) fun j p s => rfl
  · exact checksShape_onLoop (owner := pumpDemandRequest) fun j p s => rfl
  · exact checksShape_of_ifs fun j p s => rfl
  · exact checksShape_onBinding (owner := unbindRequest) fun j p s => rfl
  · exact checksShape_onBinding (owner := holdRequest) fun j p s => rfl
  · exact checksShape_onBinding (owner := bindingLookupRequest) fun j p s => rfl
  · exact checksShape_of_ifs fun j p s => rfl
  · exact checksShape_alone fun j p s => rfl
  · exact checksShape_onLine (owner := clearLineLookupRequest) fun j p s => rfl
  · exact checksShape_onLoop (owner := searchStartRequest) (accept := fun _ s l =>
      if !(s.loopRec l).isSet then .no .loopUnset
      else if s.search.state ≠ .idle then .no .busy
      else if (s.candidateList l).isEmpty then .no .noCandidates
      else .accept (s.startSearch l) .accepted []) fun j p s => rfl
  · exact checksShape_alone fun j p s => rfl
  · exact checksShape_alone fun j p s => rfl
  · exact checksShape_alone fun j p s => rfl
  · exact checksShape_alone fun j p s => rfl
  · exact checksShape_alone fun j p s => rfl

/-! ### The link's refusals -/

theorem exec_frameRefused_of_error {s : State} (taking : s.taking) (dt : Nat) {frame : List Byte}
    (length : frame.length = 64) {e : FrameError} (error : judgeFrame frame = .error e) :
    exec (.frameRefused dt frame) s = .next (s.linkRefused dt (statusOfError e) (frame.headD 0)) := by
  show Host.Outcome.next (if frame.length = 64 then (s.advance dt).endRefused frame else s) = _
  rw [if_pos length, State.endRefused, error]
  dsimp only
  rw [s.endTransaction_of_taking dt _ taking]
  rfl

/-- Settles O49: each owner states its refusals by `.no`, and no verdict that is not one carries a refusal's status. -/
theorem refusalsChangeOnlyTheReply : Obligations.RefusalsChangeOnlyTheReply := by
  refine fun s dt taking => ⟨fun c k j p parts x member kind => ?_,
    fun t c k j p parts stepped refused => eq_answered_of_isRefusal parts taking stepped refused,
    fun bytes extra broken => ?_, fun frame length => ⟨fun long => ?_, fun fits sum => ?_, fun fits sum unknown => ?_⟩⟩
  · subst kind
    obtain ⟨beyond, wrong⟩ := requestOwner_checksShape x member j p (s.atTake dt)
    exact ⟨fun h => exec_request_of_no parts taking (beyond h), fun h h' => exec_request_of_no parts taking (wrong h h')⟩
  · have other : ¬ (bytes.length = 64 ∧ extra = 0) := by
      simp only [isBroken, Bool.and_eq_true, Bool.not_eq_true', Bool.and_eq_false_iff, beq_eq_false_iff_ne] at broken
      omega
    show Host.Outcome.next (if bytes.length = 64 ∧ extra = 0 then s else (s.advance dt).endBroken bytes) = _
    rw [if_neg other, State.endBroken, s.endTransaction_of_taking dt _ taking]
    rfl
  · exact exec_frameRefused_of_error taking dt length (e := .badLength) (by
      rw [judgeFrame, if_pos long])
  · exact exec_frameRefused_of_error taking dt length (e := .badCheck) (by
      rw [judgeFrame, if_neg (Nat.not_lt.mpr fits), if_pos sum])
  · exact exec_frameRefused_of_error taking dt length (e := .badKind) (by
      have first : frame.getD 0 0 = frame.headD 0 := by cases frame <;> rfl
      simp only [judgeFrame]
      rw [if_neg (Nat.not_lt.mpr fits), if_neg (by simpa using sum), first, if_pos unknown])

end Sys2Proof.Machine
end

section
/-! PROOF. The fields of replies as laid-out numbers (R171), and the curve requests (R75, R76). -/

namespace Sys2Proof.Machine

open Sys2Proof

/-! ### Replies as laid-out fields -/

@[simp] theorem layout_nil : layout [] = [] := rfl

@[simp] theorem layout_cons (w v : Nat) (fields : List (Nat × Nat)) :
    layout ((w, v) :: fields) = bigEndian w v ++ layout fields := rfl

@[simp] theorem layout_append (a b : List (Nat × Nat)) : layout (a ++ b) = layout a ++ layout b :=
  List.flatMap_append

theorem bigEndian_one (v : Nat) : bigEndian 1 v = put8 v := by
  simp [bigEndian, put8]

theorem bigEndian_two (v : Nat) : bigEndian 2 v = put16 v := by
  simp [bigEndian, put16, put8]

theorem putSigned_eq_bigEndian (z : Int) : putSigned z = bigEndian 2 (twos16 z) :=
  (bigEndian_two _).symm

theorem layout_map_twos16 (l : List Int) : layout (l.map fun z => (2, twos16 z)) = l.flatMap putSigned := by
  induction l with
  | nil => rfl
  | cons z l ih => rw [List.map_cons, layout_cons, ih, List.flatMap_cons, putSigned_eq_bigEndian]

/-! ### Curves -/

/-- The bytes of a list of pairs, put together again. -/
theorem flatten_pairs (n : Nat) : ∀ p : List Byte, p.length = 2 * n →
    (List.ofFn fun i : Fin n => [p.getD (2 * i.val) 0, p.getD (2 * i.val + 1) 0]).flatten = p := by
  induction n with
  | zero => exact fun p h => (List.length_eq_zero_iff.mp h).symm
  | succ n ih =>
    rintro (_ | ⟨a, _ | ⟨b, q⟩⟩) h
    · cases h
    · simp at h; omega
    · have rest : q.length = 2 * n := by simp at h; omega
      rw [List.ofFn_succ, List.flatten_cons]
      exact congrArg ([a, b] ++ ·) (ih q rest)

/-- The points of a loaded curve are written as the bytes they came from. -/
theorem fieldCurve_bytes {p : List Byte} (length : p.length = 18) :
    (fieldCurve p).toList.flatMap putSigned = p := by
  have points : (fieldCurve p).toList = List.ofFn fun i : Fin 9 => fieldSigned p (2 * i.val) := by
    rw [fieldCurve, tabMk, Vector.toList_ofFn]
  rw [points, List.flatMap_def, List.map_ofFn]
  refine Eq.trans ?_ (flatten_pairs 9 p length)
  congr 2
  funext i
  exact (congrArg putSigned (fieldSigned_eq p _)).trans (putSigned_signed16 _ _)

theorem curveOrdered_iff (p : List Byte) :
    curveOrdered (fieldCurve p) = true ↔
      (∀ i < 9, -6000 ≤ signed16 (p.getD (2 * i) 0) (p.getD (2 * i + 1) 0) ∧
        signed16 (p.getD (2 * i) 0) (p.getD (2 * i + 1) 0) ≤ 0) ∧
      ∀ i < 8, signed16 (p.getD (2 * (i + 1)) 0) (p.getD (2 * (i + 1) + 1) 0) ≤
        signed16 (p.getD (2 * i) 0) (p.getD (2 * i + 1) 0) := by
  simp only [curveOrdered, fieldCurve_get, Bool.and_eq_true, List.all_eq_true, List.mem_finRange, true_imp_iff,
    decide_eq_true_eq, Fin.forall_iff, Fin.val_succ, Fin.val_castSucc]

theorem curveIndex_toNat (c : Fin 2) : (indexByte c).toNat = c.val := indexByte_toNat c (by decide)

/-- The curve a CURVE LOOKUP shows. -/
theorem exec_curveLookup {s : State} (taking : s.taking) (dt : Nat) (c : Fin 2) :
    exec (.curveLookup dt (indexByte c) []) s =
      .next (s.answered dt 20 .done ((if c = 0 then s.curveA else s.curveB).toList.flatMap putSigned)) := by
  refine exec_request_of_answer rfl taking ?_
  show curveLookupRequest (indexByte c) [] (s.atTake dt) = _
  have within : ¬ 2 ≤ c.val := Nat.not_le.mpr c.isLt
  have first : c.val = 0 ↔ c = 0 := Fin.val_eq_zero_iff
  simp only [curveLookupRequest, curveIndex_toNat, within, first, if_false, List.length_nil, ne_eq,
    not_true_eq_false]
  rfl

/-- What a CURVE LOAD of nine ordered points leaves. -/
theorem exec_curveLoad {s : State} (taking : s.taking) (dt : Nat) (c : Fin 2) {p : List Byte} (length : p.length = 18)
    (ordered : curveOrdered (fieldCurve p) = true) :
    exec (.curveLoad dt (indexByte c) p) s =
      .next { s.answered dt 19 .done [] with
              curveA := if c = 0 then fieldCurve p else s.curveA
              curveB := if c = 0 then s.curveB else fieldCurve p } := by
  rw [exec_request_of_taking rfl taking]
  show Host.Outcome.next ((s.atTake dt).take 19 (curveLoadRequest (indexByte c) p (s.atTake dt))) = _
  have within : ¬ 2 ≤ c.val := Nat.not_le.mpr c.isLt
  have first : c.val = 0 ↔ c = 0 := Fin.val_eq_zero_iff
  simp only [curveLoadRequest, curveIndex_toNat, within, first, length, ordered, if_false, ne_eq,
    not_true_eq_false, Bool.not_true, Bool.false_eq_true]
  split <;> rfl

/-- Settles O18: a loaded curve's points are the payload's pairs, and their bytes are the payload again. -/
theorem curvesAreLoadedAndReadBack : Obligations.CurvesAreLoadedAndReadBack := by
  refine fun s dt c taking => ⟨?_, fun j p beyond => ⟨?_, ?_⟩, fun p some => ?_, fun p wrong => ?_,
    fun p length => ⟨fun ordered => ?_, fun disordered => ?_⟩⟩
  · rw [exec_curveLookup taking, layout_map_twos16]
  · exact exec_request_of_no rfl taking (if_pos beyond)
  · exact exec_request_of_no rfl taking (if_pos beyond)
  · refine exec_request_of_no rfl taking ((if_neg ?_).trans (if_pos ?_))
    · rw [curveIndex_toNat]
      exact Nat.not_le.mpr c.isLt
    · simpa using some
  · refine exec_request_of_no rfl taking ((if_neg ?_).trans (if_pos wrong))
    rw [curveIndex_toNat]
    exact Nat.not_le.mpr c.isLt
  · have loaded := exec_curveLoad taking dt c length ((curveOrdered_iff p).mpr ordered)
    refine ⟨_, loaded, fun i => ?_, ?_, fun dt' => ?_⟩
    · refine Eq.trans ?_ (fieldCurve_get p i)
      by_cases first : c = 0 <;> simp [first, tabGet]
    · by_cases first : c = 0 <;> simp [first]
    · refine Eq.trans (exec_curveLookup (?_) dt' c) ?_
      · exact ⟨taking.1, .inl rfl⟩
      by_cases first : c = 0 <;> simp [first, fieldCurve_bytes length]
  · refine exec_request_of_no rfl taking ((if_neg ?_).trans ((if_neg (not_not.mpr length)).trans (if_pos ?_)))
    · rw [curveIndex_toNat]
      exact Nat.not_le.mpr c.isLt
    · rw [Bool.eq_false_iff.mpr (mt (curveOrdered_iff p).mp disordered)]
      rfl

end Sys2Proof.Machine
end

section
/-! PROOF. The configuration an enrolment carries (R4, R5, R9), and the AMEND requests of plain groups (R13 to R16,
R19). -/

namespace Sys2Proof.Machine

open Sys2Proof

/-! ### Clamping marks -/

theorem clampField_value (lo hi v : Nat) : (clampField lo hi v).value = clampNat lo hi v := by
  rw [clampField]

theorem clampField_changed_iff (lo hi v : Nat) : (clampField lo hi v).changed = true ↔ clampNat lo hi v ≠ v :=
  bne_iff_ne

theorem clampSigned_changed_iff (lo hi v : Int) : (clampSigned lo hi v).changed = true ↔ clampInt lo hi v ≠ v :=
  bne_iff_ne

theorem clampOrDefault_changed_iff (d lo hi v : Nat) :
    (clampOrDefault d lo hi v).changed = true ↔ v ≠ 0 ∧ orDefault d lo hi v ≠ v := by
  rw [clampOrDefault_changed, wasClamped, orDefault]
  by_cases zero : v = 0 <;> simp [zero]

theorem fieldLimits_value (p : List Byte) (i : Nat) :
    (fieldLimits p i).value =
      { fan := field8 p i, watch := field8 p (i + 1), defend := field8 p (i + 2),
        guard := clampNat 0 2000 (field16 p (i + 3)) } := by
  rw [fieldLimits, clampField_value]

theorem fieldLimits_changed_iff (p : List Byte) (i : Nat) :
    (fieldLimits p i).changed = true ↔ clampNat 0 2000 (field16 p (i + 3)) ≠ field16 p (i + 3) :=
  clampField_changed_iff 0 2000 (field16 p (i + 3))

theorem enrolConfig_changed_iff (p : List Byte) :
    (enrolConfig p).changed = true ↔
      clampNat 10 65000 (field16 p 1) ≠ field16 p 1 ∨ clampNat 1 15 (field8 p 3) ≠ field8 p 3 ∨
      clampNat 0 1000 (field16 p 4) ≠ field16 p 4 ∨
      (field32 p 6 ≠ 0 ∧ orDefault 30000 1 4000000 (field32 p 6) ≠ field32 p 6) ∨
      (field32 p 10 ≠ 0 ∧ orDefault 120000 1 4000000 (field32 p 10) ≠ field32 p 10) ∨
      (field32 p 14 ≠ 0 ∧ orDefault 600000 1 4000000 (field32 p 14) ≠ field32 p 14) ∨
      clampNat 0 100 (field8 p 18) ≠ field8 p 18 ∨ clampNat 0 300 (field16 p 19) ≠ field16 p 19 ∨
      (field8 p 21 ≠ 0 ∧ orDefault 4 1 30 (field8 p 21) ≠ field8 p 21) ∨
      (field8 p 23 ≠ 0 ∧ orDefault 8 1 64 (field8 p 23) ≠ field8 p 23) ∨
      (field8 p 24 ≠ 0 ∧ orDefault 4 1 64 (field8 p 24) ≠ field8 p 24) ∨
      clampNat 0 2000 (field16 p 31) ≠ field16 p 31 ∨ clampNat 0 2000 (field16 p 36) ≠ field16 p 36 := by
  simp only [enrolConfig, Bool.or_eq_true, clampField_changed_iff, clampOrDefault_changed_iff,
    fieldLimits_changed_iff, or_assoc]

/-- The configuration an enrolment stores (R4, R5, R9). -/
theorem enrolConfig_value (p : List Byte) :
    (enrolConfig p).value =
      { loopOf := ⟨field8 p 0 % 4, Nat.mod_lt _ (by decide)⟩
        designFlow := clampNat 10 65000 (field16 p 1), weight := clampNat 1 15 (field8 p 3)
        hardFloor := clampNat 0 1000 (field16 p 4), iWatch := orDefault 30000 1 4000000 (field32 p 6)
        iDefend := orDefault 120000 1 4000000 (field32 p 10), iTrip := orDefault 600000 1 4000000 (field32 p 14)
        penalty := clampNat 0 100 (field8 p 18), grace := clampNat 0 300 (field16 p 19)
        emax := orDefault 4 1 30 (field8 p 21), lowering := if field8 p 22 = 0 then .drop else .slew
        riseStep := orDefault 8 1 64 (field8 p 23), fallStep := orDefault 4 1 64 (field8 p 24)
        valveNode := fieldNode p 25, gangFlag := fieldOn p 27
        mild :=
          { fan := field8 p 28, watch := field8 p 29, defend := field8 p 30
            guard := clampNat 0 2000 (field16 p 31) }
        frost :=
          { fan := field8 p 33, watch := field8 p 34, defend := field8 p 35
            guard := clampNat 0 2000 (field16 p 36) } } := by
  simp only [enrolConfig, clampField_value, clampOrDefault_value, fieldLimits_value]

/-- Settles O7: the stored fields are those of `enrolConfig_value`, and the mark is that of
`enrolConfig_changed_iff`. -/
theorem enrolClampsItsScalars : Obligations.EnrolClampsItsScalars := by
  intro p
  dsimp only
  rw [enrolConfig_changed_iff, enrolConfig_value]
  refine ⟨fun l sent => ?_, fun drop => if_pos drop, fun slew => ?_, fun absent => ?_, fun present => if_pos present,
    beq_iff_eq, rfl, rfl, rfl, rfl, rfl, rfl, rfl, rfl, rfl, rfl, rfl, rfl, rfl, Iff.rfl⟩
  · exact Fin.ext ((congrArg (· % 4) sent).trans (Nat.mod_eq_of_lt l.isLt))
  · exact if_neg (by omega)
  · exact if_neg (by omega)

/-! ### AMEND by its group -/

/-- The owner of each group of AMEND (R13, log entry 8). -/
def amendGroup (n : Slot) (p : List Byte) (s : State) : Verdict :=
  match p.head?.map BitVec.toNat with
  | none => .no .badLength
  | some 0 => amendFlow n p s
  | some 1 => amendThresholds n p s
  | some 2 => amendStaleness n p s
  | some 3 => amendRamp n p s
  | some 4 => amendValve n p s
  | some 5 => amendGang n p s
  | some 6 => amendLimits n p s
  | some _ => .no .badKind

theorem amendGroup_flow (n : Slot) (p : List Byte) (s : State) : amendGroup n (0 :: p) s = amendFlow n (0 :: p) s :=
  rfl

theorem amendGroup_thresholds (n : Slot) (p : List Byte) (s : State) :
    amendGroup n (1 :: p) s = amendThresholds n (1 :: p) s := rfl

theorem amendGroup_staleness (n : Slot) (p : List Byte) (s : State) :
    amendGroup n (2 :: p) s = amendStaleness n (2 :: p) s := rfl

theorem amendGroup_ramp (n : Slot) (p : List Byte) (s : State) : amendGroup n (3 :: p) s = amendRamp n (3 :: p) s :=
  rfl

theorem amendGroup_valve (n : Slot) (p : List Byte) (s : State) : amendGroup n (4 :: p) s = amendValve n (4 :: p) s :=
  rfl

theorem amendGroup_gang (n : Slot) (p : List Byte) (s : State) : amendGroup n (5 :: p) s = amendGang n (5 :: p) s :=
  rfl

theorem amendGroup_limits (n : Slot) (p : List Byte) (s : State) :
    amendGroup n (6 :: p) s = amendLimits n (6 :: p) s := rfl

theorem amendRequest_eq (j : Byte) (p : List Byte) (s : State) :
    amendRequest j p s = onSlot j fun n => ifInService (s.sec n) (amendGroup n p s) := rfl

/-- An AMEND of a section in service is judged by its group. -/
theorem exec_amend {c : Instr} {dt : Nat} {n : Slot} {p : List Byte}
    (parts : requestParts c = some (2, dt, indexByte n, p)) {s : State} (taking : s.taking)
    (inService : (s.sec n).slot.inService = true) :
    exec c s = .next ((s.atTake dt).take 2 (amendGroup n p (s.atTake dt))) := by
  rw [exec_request_of_taking parts taking]
  show Host.Outcome.next ((s.atTake dt).take 2 (amendRequest (indexByte n) p (s.atTake dt))) = _
  rw [amendRequest_eq, onSlot_index, State.atTake_sec, ifInService_of_inService _ _ inService]

theorem SectionConfig.thresholdsOrdered_iff (c : SectionConfig) :
    c.thresholdsOrdered = true ↔ c.iWatch < c.iDefend ∧ c.iDefend < c.iTrip := by
  rw [SectionConfig.thresholdsOrdered, Bool.and_eq_true, decide_eq_true_eq, decide_eq_true_eq]

theorem amendFlow_eq (n : Slot) (a b w : Byte) (s : State) :
    amendFlow n [0, a, b, w] s =
      .accept
        (s.modSec n fun r =>
          { r with
            config :=
              { r.config with
                designFlow := clampNat 10 65000 (be16 a b), weight := clampNat 1 15 w.toNat } })
        (doneStatus (clampNat 10 65000 (be16 a b) ≠ be16 a b ∨ clampNat 1 15 w.toNat ≠ w.toNat)) [] := by
  simp only [amendFlow, clampField_value, field8, field16_eq, List.getD_cons_succ, List.getD_cons_zero, List.length_cons,
    List.length_nil, Nat.reduceAdd, ne_eq, not_true_eq_false, if_false]
  refine okClamped_eq _ _ _ ?_
  rw [Bool.or_eq_true, clampField_changed_iff, clampField_changed_iff]

theorem wasClamped_iff (d lo hi v : Nat) : (clampOrDefault d lo hi v).changed = true ↔ wasClamped lo hi v = true := by
  rw [clampOrDefault_changed]

theorem amendThresholds_eq (n : Slot) (h1 h2 w1 w2 w3 w4 d1 d2 d3 d4 t1 t2 t3 t4 : Byte) (s : State) :
    let w := orDefault 30000 1 4000000 (be32 w1 w2 w3 w4)
    let d := orDefault 120000 1 4000000 (be32 d1 d2 d3 d4)
    let i := orDefault 600000 1 4000000 (be32 t1 t2 t3 t4)
    amendThresholds n [1, h1, h2, w1, w2, w3, w4, d1, d2, d3, d4, t1, t2, t3, t4] s =
      if w < d ∧ d < i then
        .accept
          (s.modSec n fun r =>
            { r with
              config :=
                { (s.sec n).config with
                  hardFloor := clampNat 0 1000 (be16 h1 h2), iWatch := w, iDefend := d, iTrip := i } })
          (doneStatus
            (clampNat 0 1000 (be16 h1 h2) ≠ be16 h1 h2 ∨ wasClamped 1 4000000 (be32 w1 w2 w3 w4) ∨
              wasClamped 1 4000000 (be32 d1 d2 d3 d4) ∨ wasClamped 1 4000000 (be32 t1 t2 t3 t4))) []
      else .no .order := by
  intro w d i
  simp only [amendThresholds, clampField_value, clampOrDefault_value, field16_eq, field32_eq, List.getD_cons_succ,
    List.getD_cons_zero, List.length_cons, List.length_nil, Nat.reduceAdd, ne_eq, not_true_eq_false, if_false]
  by_cases rising : w < d ∧ d < i
  · rw [if_pos rising, if_neg (by rw [(SectionConfig.thresholdsOrdered_iff _).mpr rising]; exact Bool.false_ne_true)]
    refine okClamped_eq _ _ _ ?_
    simp only [Bool.or_eq_true, clampField_changed_iff, wasClamped_iff, or_assoc]
  · rw [if_neg rising, if_pos (by rw [Bool.eq_false_iff.mpr (mt (SectionConfig.thresholdsOrdered_iff _).mp rising)]; rfl)]

theorem amendStaleness_eq (n : Slot) (q g1 g2 e : Byte) (s : State) :
    amendStaleness n [2, q, g1, g2, e] s =
      .accept
        (s.modSec n fun r =>
          { r with
            config :=
              { r.config with
                penalty := clampNat 0 100 q.toNat, grace := clampNat 0 300 (be16 g1 g2),
                emax := orDefault 4 1 30 e.toNat } })
        (doneStatus
          (clampNat 0 100 q.toNat ≠ q.toNat ∨ clampNat 0 300 (be16 g1 g2) ≠ be16 g1 g2 ∨ wasClamped 1 30 e.toNat))
        [] := by
  simp only [amendStaleness, clampField_value, clampOrDefault_value, field8, field16_eq, List.getD_cons_succ,
    List.getD_cons_zero,
    List.length_cons, List.length_nil, Nat.reduceAdd, ne_eq, not_true_eq_false, if_false]
  refine okClamped_eq _ _ _ ?_
  simp only [Bool.or_eq_true, clampField_changed_iff, wasClamped_iff, or_assoc]

theorem amendRamp_eq (n : Slot) (m r f : Byte) (s : State) (defined : m.toNat < 2) :
    amendRamp n [3, m, r, f] s =
      .accept
        (s.modSec n fun x =>
          { x with
            config :=
              { x.config with
                lowering := if m = 0 then .drop else .slew, riseStep := orDefault 8 1 64 r.toNat,
                fallStep := orDefault 4 1 64 f.toNat } })
        (doneStatus (wasClamped 1 64 r.toNat ∨ wasClamped 1 64 f.toNat)) [] := by
  have drop : (m = 0) = (field8 [3, m, r, f] 1 = 0) := propext BitVec.toNat_inj.symm
  rw [← clampOrDefault_value, ← clampOrDefault_value]
  rw [amendRamp, undefinedCode_of_lt _ 1 2 m rfl defined]
  refine (okClamped_eq _ _ (wasClamped 1 64 r.toNat ∨ wasClamped 1 64 f.toNat) ?_).trans ?_
  · rw [Bool.or_eq_true, wasClamped_iff, wasClamped_iff]
    rfl
  · simp only [drop]
    rfl

/-- Settles O8: each group's owner, spelled above, on the section at the take. -/
theorem amendmentsOfPlainGroups : Obligations.AmendmentsOfPlainGroups := by
  refine fun s dt n taking inService => ⟨fun a b w => ?_, fun h1 h2 w1 w2 w3 w4 d1 d2 d3 d4 t1 t2 t3 t4 => ?_,
    fun q g1 g2 e => ?_, fun m r f => ?_⟩
  · rw [exec_amend rfl taking inService, amendGroup_flow, amendFlow_eq]
    rfl
  · intro w d i p
    have judged : amendThresholds n p (s.atTake dt) = _ :=
      amendThresholds_eq n h1 h2 w1 w2 w3 w4 d1 d2 d3 d4 t1 t2 t3 t4 _
    split
    next rising =>
      rw [exec_amend rfl taking inService, amendGroup_thresholds, judged, if_pos rising]
      rfl
    next falling =>
      rw [exec_amend rfl taking inService, amendGroup_thresholds, judged, if_neg falling]
      rfl
  · rw [exec_amend rfl taking inService, amendGroup_staleness, amendStaleness_eq]
    rfl
  · rw [exec_amend rfl taking inService, amendGroup_ramp]
    split
    next defined =>
      rw [amendRamp_eq n m r f _ defined]
      rfl
    next undefined =>
      rw [amendRamp, undefinedCode_of_le _ 1 2 m rfl (Nat.le_of_not_lt undefined)]
      rfl

end Sys2Proof.Machine
end

section
/-! PROOF. The refusals of the section requests in their order (R8, R9, R12, R13, R174). -/

namespace Sys2Proof.Machine

open Sys2Proof

/-! ### Codes that are not defined -/

theorem undefinedCode_iff (p : List Byte) (i count : Nat) :
    undefinedCode p i count = true ↔ i < p.length ∧ count ≤ field8 p i := by
  unfold undefinedCode field8
  rcases Nat.lt_or_ge i p.length with within | beyond
  · simp [within]
  · simp [Nat.not_lt.mpr beyond]

theorem undefinedCode_iff_of_lt {p : List Byte} {i : Nat} (within : i < p.length) (count : Nat) :
    undefinedCode p i count = true ↔ count ≤ field8 p i := by
  rw [undefinedCode_iff, and_iff_right within]

/-! ### ENROL -/

theorem SlotState.enrolled_iff (x : SlotState) : x.enrolled = true ↔ x ≠ .vacant := by
  cases x <;> simp [SlotState.enrolled]

theorem State.searchIn_iff (s : State) (l : LoopId) :
    s.searchIn l = true ↔ s.search.state ≠ .idle ∧ s.search.loopOf = some l := by
  rw [State.searchIn, Bool.and_eq_true, bne_iff_ne, beq_iff_eq]

/-- The flag of the gang an enrolment may form: the even slot's own or its neighbour's (R12). -/
def State.enrolFlag (s : State) (n : Slot) (c : SectionConfig) : Bool :=
  if n.val % 2 = 0 then c.gangFlag else (s.sec (neighbourOf n)).config.gangFlag

theorem State.enrolGangRefusal_eq (s : State) (n : Slot) (c : SectionConfig) :
    s.enrolGangRefusal n c =
      if s.enrolFlag n c = true ∧ (s.sec (neighbourOf n)).slot.enrolled = true ∧
          (s.sec (neighbourOf n)).config.loopOf ≠ c.loopOf then some .order
      else if s.enrolFlag n c = true ∧ (s.sec (neighbourOf n)).slot.inService = true ∧
          s.searchIn c.loopOf = true then some .busy
      else none := by
  unfold State.enrolGangRefusal State.enrolFlag
  dsimp only
  by_cases even : n.val % 2 = 0
  · simp only [if_pos even]
  · simp only [if_neg even, and_left_comm]

/-- ENROL of a slot, the checks of its rule in their order (R9). -/
theorem enrolRequest_of_vacant {n : Slot} {p : List Byte} {s : State} (length : p.length = 38)
    (vacant : (s.sec n).slot = .vacant) :
    enrolRequest (indexByte n) p s =
      if 4 ≤ field8 p 0 then .no .badSubject
      else if 2 ≤ field8 p 22 ∨ 2 ≤ field8 p 25 ∨ 2 ≤ field8 p 27 then .no .badKind
      else if (s.loopRec (enrolConfig p).value.loopOf).isSet = false then .no .loopUnset
      else if (enrolConfig p).value.gangFlag = true ∧ n.val % 2 = 1 then .no .order
      else if (enrolConfig p).value.ordered = false then .no .order
      else
        match s.enrolGangRefusal n (enrolConfig p).value with
        | some status => .no status
        | none => .okClamped (s.enrol n (enrolConfig p).value) (enrolConfig p).changed := by
  rw [enrolRequest, onSlot_index, if_neg (not_not.mpr length), if_neg (not_not.mpr vacant)]
  have undefined : (undefinedCode p 22 2 || undefinedCode p 25 2 || undefinedCode p 27 2) = true ↔
      2 ≤ field8 p 22 ∨ 2 ≤ field8 p 25 ∨ 2 ≤ field8 p 27 := by
    rw [Bool.or_eq_true, Bool.or_eq_true, or_assoc, undefinedCode_iff_of_lt (by omega),
      undefinedCode_iff_of_lt (by omega), undefinedCode_iff_of_lt (by omega)]
  simp only [undefined, Bool.not_eq_true'] <;> rfl

theorem SectionConfig.ordered_eq_false_iff (c : SectionConfig) :
    c.ordered = false ↔ ¬ (c.iWatch < c.iDefend ∧ c.iDefend < c.iTrip) ∨
      ∃ m ∈ [c.mild, c.frost], ¬ (m.defend ≤ m.watch ∧ m.watch ≤ m.fan) := by
  have limits (m : LimitSet) : m.ordered = true ↔ m.defend ≤ m.watch ∧ m.watch ≤ m.fan := by
    rw [LimitSet.ordered, Bool.and_eq_true, decide_eq_true_eq, decide_eq_true_eq]
  rw [← Bool.not_eq_true, SectionConfig.ordered, Bool.and_eq_true, Bool.and_eq_true, limits, limits,
    SectionConfig.thresholdsOrdered_iff]
  simp only [List.mem_cons, List.not_mem_nil, or_false, exists_eq_or_imp, exists_eq_left]
  tauto

/-! ### AMEND -/

theorem amendGroup_cons (n : Slot) (g : Byte) (q : List Byte) (s : State) :
    amendGroup n (g :: q) s =
      ([amendFlow, amendThresholds, amendStaleness, amendRamp, amendValve, amendGang, amendLimits].getD g.toNat
        fun _ _ _ => .no .badKind) n (g :: q) s := by
  show (match some g.toNat with
    | none => Verdict.no .badLength
    | some 0 => _ | some 1 => _ | some 2 => _ | some 3 => _ | some 4 => _ | some 5 => _ | some 6 => _
    | some _ => _) = _
  rcases g.toNat with _ | _ | _ | _ | _ | _ | _ | k <;> rfl

/-- The enumerated fields of the groups of AMEND: the group, the place of the field and the count of its codes (R13). -/
theorem amendGroup_of_undefined (n : Slot) (g : Byte) (q : List Byte) (s : State)
    (undefined : 7 ≤ g.toNat ∨ ∃ x ∈ [(3, 1, 2), (4, 1, 2), (5, 1, 2), (6, 1, 3), (6, 2, 2)],
      g.toNat = x.1 ∧ x.2.1 < (g :: q).length ∧ x.2.2 ≤ field8 (g :: q) x.2.1) :
    amendGroup n (g :: q) s = .no .badKind := by
  rw [amendGroup_cons]
  rcases undefined with beyond | ⟨x, member, group, code⟩
  · rw [List.getD_eq_default _ _ beyond]
  · rw [← undefinedCode_iff] at code
    rw [group]
    simp only [List.mem_cons, List.not_mem_nil, or_false] at member
    rcases member with rfl | rfl | rfl | rfl | rfl
    · exact if_pos code
    · exact if_pos code
    · exact if_pos code
    · exact if_pos (by rw [code]; rfl)
    · exact if_pos (by rw [code, Bool.or_true])

theorem amendGroup_of_length (n : Slot) (g : Byte) (q : List Byte) (s : State)
    (defined : ¬ (7 ≤ g.toNat ∨ ∃ x ∈ [(3, 1, 2), (4, 1, 2), (5, 1, 2), (6, 1, 3), (6, 2, 2)],
      g.toNat = x.1 ∧ x.2.1 < (g :: q).length ∧ x.2.2 ≤ field8 (g :: q) x.2.1))
    (wrong : (g :: q).length ≠ [4, 15, 5, 4, 3, 2, 8].getD g.toNat 0) :
    amendGroup n (g :: q) s = .no .badLength := by
  obtain ⟨within, codes⟩ := not_or.mp defined
  have code (x : Nat × Nat × Nat) (member : x ∈ [(3, 1, 2), (4, 1, 2), (5, 1, 2), (6, 1, 3), (6, 2, 2)])
      (group : g.toNat = x.1) : undefinedCode (g :: q) x.2.1 x.2.2 ≠ true := fun undefined =>
    codes ⟨x, member, group, (undefinedCode_iff _ _ _).mp undefined⟩
  rw [amendGroup_cons]
  generalize g.toNat = k at *
  rcases k with _ | _ | _ | _ | _ | _ | _ | k
  · exact if_pos wrong
  · exact if_pos wrong
  · exact if_pos wrong
  · exact (if_neg (code (3, 1, 2) (by decide) rfl)).trans (if_pos wrong)
  · exact (if_neg (code (4, 1, 2) (by decide) rfl)).trans (if_pos wrong)
  · exact (if_neg (code (5, 1, 2) (by decide) rfl)).trans (if_pos wrong)
  · have selector := code (6, 1, 3) (by decide) rfl
    have apply := code (6, 2, 2) (by decide) rfl
    exact (if_neg (by rw [Bool.or_eq_true]; exact not_or.mpr ⟨selector, apply⟩)).trans (if_pos wrong)
  · omega

/-! ### The requests by slot state -/

theorem requestOwner_beyond_slots {k : Nat} {j : Byte} (p : List Byte) (s : State) (lo : 1 ≤ k) (hi : k ≤ 6)
    (beyond : 24 ≤ j.toNat) : requestOwner k j p s = .no .badSubject := by
  interval_cases k
  · show enrolRequest j p s = _
    exact onSlot_beyond j beyond _
  · show amendRequest j p s = _
    exact onSlot_beyond j beyond _
  · show lookupRequest j p s = _
    exact onSlot_beyond j beyond _
  · show fanDemandRequest j p s = _
    exact onSlot_beyond j beyond _
  · show acknowledgeRequest j p s = _
    exact onSlot_beyond j beyond _
  · show retireRequest j p s = _
    exact onSlot_beyond j beyond _

/-- The requests that a slot out of service refuses (R8). -/
theorem requestOwner_of_slot {k : Nat} {n : Slot} {p : List Byte} {s : State} {status : Status}
    (kind : k = 2 ∨ k = 4 ∧ p.length = 1 ∨ k = 5 ∧ p.length = 0 ∨ k = 6 ∧ p.length = 0)
    (refuses : ∀ owner, ifInService (s.sec n) owner = .no status) :
    requestOwner k (indexByte n) p s = .no status := by
  rcases kind with rfl | ⟨rfl, length⟩ | ⟨rfl, length⟩ | ⟨rfl, length⟩
  · show amendRequest (indexByte n) p s = _
    rw [amendRequest_eq, onSlot_index, refuses]
  · show fanDemandRequest (indexByte n) p s = _
    rw [fanDemandRequest, onSlot_index, if_neg (not_not.mpr length), refuses]
  · show acknowledgeRequest (indexByte n) p s = _
    rw [acknowledgeRequest, onSlot_index, if_neg (not_not.mpr length), refuses]
  · show retireRequest (indexByte n) p s = _
    rw [retireRequest, onSlot_index, if_neg (not_not.mpr length), refuses]

theorem requestOwner_of_slotLength {k : Nat} (lo : 1 ≤ k) (hi : k ≤ 6) (n : Slot) {p : List Byte} (s : State)
    (other : k ≠ 2) (wrong : p.length ≠ [0, 38, 0, 1, 1, 0, 0].getD k 0) :
    requestOwner k (indexByte n) p s = .no .badLength := by
  have owned : k = 1 ∨ k = 3 ∨ k = 4 ∨ k = 5 ∨ k = 6 := by omega
  rcases owned with rfl | rfl | rfl | rfl | rfl
  · show enrolRequest (indexByte n) p s = _
    rw [enrolRequest, onSlot_index]
    exact if_pos wrong
  · show lookupRequest (indexByte n) p s = _
    rw [lookupRequest, onSlot_index]
    exact if_pos wrong
  · show fanDemandRequest (indexByte n) p s = _
    rw [fanDemandRequest, onSlot_index]
    exact if_pos wrong
  · show acknowledgeRequest (indexByte n) p s = _
    rw [acknowledgeRequest, onSlot_index]
    exact if_pos wrong
  · show retireRequest (indexByte n) p s = _
    rw [retireRequest, onSlot_index]
    exact if_pos wrong

/-- The refusals of ENROL for what its record would be (R9, R12). -/
theorem enrolRequest_checks {n : Slot} {p : List Byte} {s : State} (length : p.length = 38)
    (vacant : (s.sec n).slot = .vacant) :
    let config := (enrolConfig p).value
    let other := s.sec (neighbourOf n)
    let undefined := 2 ≤ field8 p 22 ∨ 2 ≤ field8 p 25 ∨ 2 ≤ field8 p 27
    let flagged := s.enrolFlag n config = true
    let disordered := config.gangFlag = true ∧ n.val % 2 = 1 ∨ config.ordered = false ∨
      flagged ∧ other.slot ≠ .vacant ∧ other.config.loopOf ≠ config.loopOf
    let refused (status : Status) := enrolRequest (indexByte n) p s = .no status
    (4 ≤ field8 p 0 → refused .badSubject) ∧
    (field8 p 0 < 4 →
      (undefined → refused .badKind) ∧
      (¬ undefined → (s.loopRec config.loopOf).isSet = false → refused .loopUnset) ∧
      (¬ undefined → (s.loopRec config.loopOf).isSet = true →
        (disordered → refused .order) ∧
        (¬ disordered → flagged → other.slot.inService = true → s.searchIn config.loopOf = true →
          refused .busy))) := by
  intro config other undefined flagged disordered refused
  have checks := enrolRequest_of_vacant length vacant
  have gang := s.enrolGangRefusal_eq n config
  refine ⟨fun beyond => checks.trans (if_pos beyond), fun within => ?_⟩
  rw [if_neg (Nat.not_le.mpr within)] at checks
  refine ⟨fun code => checks.trans (if_pos code), fun defined unset => ?_, fun defined set => ⟨fun disorder => ?_,
    fun order flag service searched => ?_⟩⟩
  · exact checks.trans ((if_neg defined).trans (if_pos unset))
  · rw [if_neg defined, if_neg (by rw [set]; exact Bool.noConfusion)] at checks
    refine checks.trans ?_
    by_cases odd : config.gangFlag = true ∧ n.val % 2 = 1
    · exact if_pos odd
    · rw [if_neg odd]
      by_cases unordered : config.ordered = false
      · exact if_pos unordered
      · rw [if_neg unordered]
        obtain ⟨flag, enrolled, loops⟩ := (disorder.resolve_left odd).resolve_left unordered
        rw [gang, if_pos ⟨flag, (SlotState.enrolled_iff _).mpr enrolled, loops⟩]
  · obtain ⟨odd, rest⟩ := not_or.mp order
    obtain ⟨unordered, loops⟩ := not_or.mp rest
    rw [if_neg defined, if_neg (by rw [set]; exact Bool.noConfusion), if_neg odd, if_neg unordered, gang,
      if_neg (by rwa [SlotState.enrolled_iff]), if_pos ⟨flag, service, searched⟩] at checks
    exact checks

/-- Settles O5: each owner's checks stand in the order of its rule. -/
theorem sectionRequestsBySlotState : Obligations.SectionRequestsBySlotState := by
  intro s c k dt j p taking parts lo hi refused
  have refuse {status : Status} (verdict : requestOwner k j p (s.atTake dt) = .no status) : refused status :=
    exec_request_of_no parts taking verdict
  refine ⟨fun beyond => refuse (requestOwner_beyond_slots p _ lo hi beyond), fun n subject => ?_⟩
  subst subject
  refine ⟨fun kind length occupied => ?_, fun kind => ⟨fun vacant => ?_, fun retiring => ?_⟩, fun other wrong => ?_,
    fun kind length code => ?_, fun kind length code vacant => ?_, fun kind length vacant => ?_,
    fun g q kind payload inService => ?_⟩
  · subst kind
    refine refuse ?_
    show enrolRequest (indexByte n) p (s.atTake dt) = _
    rw [enrolRequest, onSlot_index, if_neg (not_not.mpr length)]
    exact if_pos occupied
  · exact refuse (requestOwner_of_slot kind fun owner => ifInService_of_vacant _ owner vacant)
  · exact refuse (requestOwner_of_slot kind fun owner => ifInService_of_retiring _ owner retiring)
  · exact refuse (requestOwner_of_slotLength lo hi n _ other wrong)
  · subst kind
    have undefined : undefinedCode p 0 2 = true := (undefinedCode_iff_of_lt (by omega) 2).mpr code
    refine refuse ?_
    show lookupRequest (indexByte n) p (s.atTake dt) = _
    rw [lookupRequest, onSlot_index, if_neg (not_not.mpr length), if_pos undefined]
  · subst kind
    have defined : ¬ undefinedCode p 0 2 = true := by
      rw [undefinedCode_iff_of_lt (by omega)]
      exact Nat.not_le.mpr code
    refine exec_request_of_answer parts taking ?_
    show lookupRequest (indexByte n) p (s.atTake dt) = _
    rw [lookupRequest, onSlot_index, if_neg (not_not.mpr length), if_neg defined]
    exact if_pos vacant
  · subst kind
    intro config other undefined flagged disordered
    have flag : flagged ↔ s.enrolFlag n config = true := by
      simp only [flagged, State.enrolFlag]
      split <;> rfl
    have order : disordered ↔ config.gangFlag = true ∧ n.val % 2 = 1 ∨ config.ordered = false ∨
        s.enrolFlag n config = true ∧ other.slot ≠ .vacant ∧ other.config.loopOf ≠ config.loopOf := by
      rw [← flag, SectionConfig.ordered_eq_false_iff, or_assoc]
    obtain ⟨subject, checks⟩ := enrolRequest_checks (s := s.atTake dt) length vacant
    refine ⟨fun beyond => refuse (subject beyond), fun within => ?_⟩
    obtain ⟨codes, loops, records⟩ := checks within
    refine ⟨Nat.mod_eq_of_lt within, fun code => refuse (codes code), fun defined unset => refuse (loops defined unset),
      fun defined set => ?_⟩
    obtain ⟨orders, searches⟩ := records defined set
    exact ⟨fun disorder => refuse (orders (order.mp disorder)), fun ordered flags service running searched =>
      refuse (searches (mt order.mpr ordered) (flag.mp flags) service ((s.searchIn_iff _).mpr ⟨running, searched⟩))⟩
  · subst kind payload
    have group : requestOwner 2 (indexByte n) (g :: q) (s.atTake dt) = amendGroup n (g :: q) (s.atTake dt) := by
      show amendRequest (indexByte n) (g :: q) (s.atTake dt) = _
      rw [amendRequest_eq, onSlot_index, State.atTake_sec, ifInService_of_inService _ _ inService]
    exact ⟨fun undefined => refuse (group.trans (amendGroup_of_undefined n g q _ undefined)),
      fun defined wrong => refuse (group.trans (amendGroup_of_length n g q _ defined wrong))⟩

end Sys2Proof.Machine
end

section
/-! PROOF. What an accepted ENROL leaves (R9, R126), and AMEND of VALVE (R17). -/

namespace Sys2Proof.Machine

open Sys2Proof

/-- A request whose owner accepts it. -/
theorem exec_request_of_accept {c : Instr} {k dt : Nat} {j : Byte} {p : List Byte}
    (parts : requestParts c = some (k, dt, j, p)) {s after : State} (taking : s.taking) {status : Status}
    {payload : List Byte} (verdict : requestOwner k j p (s.atTake dt) = .accept after status payload) :
    exec c s = .next (after.putReply { status := status, kind := BitVec.ofNat 8 k, payload := payload }) := by
  rw [exec_request_of_taking parts taking, verdict]
  rfl

/-! ### ENROL -/

theorem State.enrol_frame (s : State) (n : Slot) (c : SectionConfig) :
    s.enrol n c =
      { s with
        sections := (s.enrol n c).sections, fans := (s.enrol n c).fans, txQueue := (s.enrol n c).txQueue } := by
  apply State.eq_of_fields <;> simp
  rfl

/-- The part just before the channel of a new section restages (R9, R126). -/
theorem State.enrol_restages (s : State) (n : Slot) (c : SectionConfig) :
    ∃ u : State, s.enrol n c = u.restage n ∧ (∀ m, m ≠ n → u.fan m = s.fan m) ∧
      u.fan n =
        { gen :=
            { enabled := true, counter := 0, direction := .up, stagedDuty := 0, stagedPeriod := s.drive.fanPeriod,
              dutyInForce := 0, periodInForce := s.drive.fanPeriod, compareInForce := 0,
              output := idleLevel (s.fanActiveLow n) }
          ramp := 0, rampTimer := some (s.time + unitsPerRamp), ownStaged := 0 } ∧
      u.txQueue = if c.valveNode.isSome then Machine.postEntry n .toOpen s.txQueue else s.txQueue := by
  refine ⟨_, rfl, fun m other => ?_, ?_, ?_⟩
  · split <;> simp [State.enableFan, State.modFan_fan_ne _ _ other]
  · split <;> simp [State.enableFan, Channel.enable_zero, State.fanActiveLow]
  · split <;> rfl

theorem State.enrol_txQueue (s : State) (n : Slot) (c : SectionConfig) :
    (s.enrol n c).txQueue = if c.valveNode.isSome then Machine.postEntry n .toOpen s.txQueue else s.txQueue := by
  obtain ⟨u, restages, -, -, queue⟩ := s.enrol_restages n c
  rw [restages, State.restage_txQueue, queue]

theorem State.enrol_fan_self (s : State) (n : Slot) (c : SectionConfig) :
    (s.enrol n c).fan n =
      { gen :=
          { enabled := true, counter := 0, direction := .up, stagedDuty := 0, stagedPeriod := s.drive.fanPeriod,
            dutyInForce := 0, periodInForce := s.drive.fanPeriod, compareInForce := 0,
            output := idleLevel (s.fanActiveLow n) }
        ramp := 0, rampTimer := some (s.time + unitsPerRamp), ownStaged := 0 } := by
  obtain ⟨u, restages, -, self, -⟩ := s.enrol_restages n c
  have handed : u.handed n (fun m => if m = n then min 0 (fanCeiling (u.sec n)) else (u.fan m).ownStaged) = 0 := by
    unfold State.handed
    split
    · rfl
    · split <;> simp
  rw [restages, State.restage_fan_self, self, handed, Nat.zero_min]

theorem State.enrol_fan_other (s : State) {n m : Slot} (c : SectionConfig) (other : m ≠ n) :
    (s.enrol n c).fan m =
      if (s.enrol n c).partner n = some m then { s.fan m with gen := { (s.fan m).gen with stagedDuty := 0 } }
      else s.fan m := by
  obtain ⟨u, restages, others, self, -⟩ := s.enrol_restages n c
  rw [restages, State.restage_partner]
  split
  next pair =>
    rw [State.restage_fan_partner u pair, others m other, self]
    simp
  next unpaired => rw [State.restage_fan_other u other unpaired, others m other]

theorem State.atTake_enrolGangRefusal (s : State) (dt : Nat) (n : Slot) (c : SectionConfig) :
    (s.atTake dt).enrolGangRefusal n c = s.enrolGangRefusal n c := rfl

/-- Settles O6: the checks passed, the part is `State.enrol` of the part at the take. -/
theorem enrolStartsASection : Obligations.EnrolStartsASection := by
  intro s dt n p l c taking vacant length loop lowering node gang set even ordered formed
  have named : c.loopOf = l := Fin.ext ((congrArg (· % 4) loop).trans (Nat.mod_eq_of_lt l.isLt))
  have within : ¬ 4 ≤ field8 p 0 := by omega
  have defined : ¬ (2 ≤ field8 p 22 ∨ 2 ≤ field8 p 25 ∨ 2 ≤ field8 p 27) := by omega
  have isSet : ¬ ((s.atTake dt).loopRec c.loopOf).isSet = false := by
    rw [named, State.atTake_loopRec, set]
    exact Bool.noConfusion
  have gangs : ¬ (c.gangFlag = true ∧ n.val % 2 = 1) := fun ⟨flag, odd⟩ => by
    have := even flag
    omega
  have orders : ¬ c.ordered = false := by rw [ordered]; exact Bool.noConfusion
  have judged : enrolRequest (indexByte n) p (s.atTake dt) =
      .accept ((s.atTake dt).enrol n c) (doneStatus ((enrolConfig p).changed = true)) [] := by
    rw [enrolRequest_of_vacant (s := s.atTake dt) length vacant, if_neg within, if_neg defined, if_neg isSet, if_neg gangs, if_neg orders,
      State.atTake_enrolGangRefusal, formed]
    exact okClamped_eq _ _ _ Iff.rfl
  have parts : requestParts (.enrol dt (indexByte n) p) = some (1, dt, indexByte n, p) := rfl
  have record : ((s.atTake dt).enrol n c).sec n =
      .enrolled c (s.loopRec l).regime ((s.time + dt) / unitsPerTenth + 100) := by
    rw [State.enrol_sec, if_pos rfl, named]
    rfl
  have others (m : Slot) (other : m ≠ n) : ((s.atTake dt).enrol n c).sec m = s.sec m :=
    (State.enrol_sec ..).trans (if_neg other)
  have fan := (s.atTake dt).enrol_fan_self n c
  have fans (m : Slot) (other : m ≠ n) := (s.atTake dt).enrol_fan_other c other
  have queue := (s.atTake dt).enrol_txQueue n c
  have frame := (s.atTake dt).enrol_frame n c
  generalize (s.atTake dt).enrol n c = after at *
  refine ⟨_, exec_request_of_accept parts taking judged, record, others, fan, fans, ?_, queue, ?_⟩
  · show fanCeiling (after.sec n) = (after.sec n).active.defend
    rw [record]
    rfl
  · rw [frame]
    rfl

/-! ### AMEND of VALVE -/

/-- Settles O9: the owner of VALVE is `State.setValveNode`, which posts to a queue without the section's entry. -/
theorem amendmentOfTheValve : Obligations.AmendmentOfTheValve := by
  intro s dt n present node taking inService defined
  have code : undefinedCode [4, present, node] 1 2 = false := undefinedCode_of_lt _ 1 2 present rfl defined
  have owner : amendGroup n [4, present, node] (s.atTake dt) =
      if (s.sec n).mark ≠ .none then .no .held
      else .ok ((s.atTake dt).setValveNode n (fieldNode [4, present, node] 1)) := by
    rw [amendGroup_valve, amendValve, code]
    rfl
  refine ⟨fun marked => ?_, fun unmarked => ?_⟩
  · rw [exec_amend rfl taking inService, owner, if_pos marked]
    rfl
  · have fresh : postEntry n .toOpen (s.txQueue.filter (·.slot != n)) =
        s.txQueue.filter (·.slot != n) ++ [{ slot := n, command := .toOpen }] :=
      postEntry_fresh n .toOpen _ fun e member => bne_iff_ne.mp (List.mem_filter.mp member).2
    rw [exec_amend rfl taking inService, owner, if_neg (not_not.mpr unmarked)]
    obtain rfl | rfl : present = 0 ∨ present = 1 := by bv_omega
    · rfl
    · simp only [if_true, ← fresh]
      rfl

end Sys2Proof.Machine
end

section
/-! PROOF. AMEND of GANG (R12, R18, R131) and of LIMITS (R20). -/

namespace Sys2Proof.Machine

open Sys2Proof

/-! ### AMEND of GANG -/

theorem fieldOn_of_flag (on : Bool) : fieldOn [5, if on then 0 else 1] 1 = on := by
  cases on <;> rfl

theorem definedFlag (on : Bool) : undefinedCode [5, if on then 0 else 1] 1 2 = false :=
  undefinedCode_of_lt _ 1 2 (if on then 0 else 1) rfl (by cases on <;> decide)

theorem amendGang_of_refused {n : Slot} {on : Bool} {s : State} {status : Status}
    (refusal : s.amendGangRefusal n on = some status) : amendGroup n [5, if on then 0 else 1] s = .no status := by
  rw [amendGroup_gang]
  simp only [amendGang, definedFlag, fieldOn_of_flag, refusal, List.length_cons, List.length_nil, ne_eq,
    not_true_eq_false, Bool.false_eq_true, if_false]

theorem amendGang_of_same {n : Slot} {on : Bool} {s : State} (refusal : s.amendGangRefusal n on = none)
    (same : (s.sec n).config.gangFlag = on) : amendGroup n [5, if on then 0 else 1] s = .ok s := by
  rw [amendGroup_gang]
  simp only [amendGang, definedFlag, fieldOn_of_flag, refusal, same, List.length_cons, List.length_nil, ne_eq,
    not_true_eq_false, Bool.false_eq_true, if_false, if_true]

theorem amendGang_of_change {n : Slot} {on : Bool} {s : State} (refusal : s.amendGangRefusal n on = none)
    (change : (s.sec n).config.gangFlag ≠ on) :
    amendGroup n [5, if on then 0 else 1] s =
      .ok ((s.modSec n fun r => { r with config := { r.config with gangFlag := on } }).restagePair n) := by
  rw [amendGroup_gang]
  simp only [amendGang, definedFlag, fieldOn_of_flag, refusal, change.symm, List.length_cons, List.length_nil,
    ne_eq, not_true_eq_false, Bool.false_eq_true, if_false]

theorem State.inService_of_gangFormed {s : State} {n : Slot} (formed : s.gangFormed n = true) :
    (s.sec (neighbourOf n)).slot.inService = true := by
  unfold State.gangFormed at formed
  rw [Bool.and_eq_true, Bool.and_eq_true] at formed
  rcases pair_cases n with ⟨-, follower⟩ | ⟨-, lead⟩
  · rw [follower]
    exact formed.2
  · rw [lead]
    exact formed.1.2

/-- The lead's flag decides its gang where both slots are in service (R11). -/
theorem State.gangFormed_of_lead {s : State} {n : Slot} (even : n.val % 2 = 0)
    (inService : (s.sec n).slot.inService = true) (other : (s.sec (neighbourOf n)).slot.inService = true) :
    s.gangFormed n = (s.sec n).config.gangFlag := by
  have lead : leadOf n = n := Fin.ext (by show n.val - n.val % 2 = n.val; omega)
  have follower : neighbourOf n = followerOf n := if_pos even
  rw [follower] at other
  rw [State.gangFormed, lead, inService, other, Bool.and_true, Bool.and_true]

/-- Whether a flag that the pair allows is refused is a matter of the search alone (R12). -/
theorem State.amendGangRefusal_eq {s : State} {n : Slot} {on : Bool}
    (allowed : on = true → n.val % 2 = 0 ∧
      ((s.sec (neighbourOf n)).slot.enrolled = true →
        (s.sec (neighbourOf n)).config.loopOf = (s.sec n).config.loopOf)) :
    s.amendGangRefusal n on =
      if ((s.sec n).config.gangFlag ≠ on ∧ (s.sec (neighbourOf n)).slot.inService = true ∧
          s.searchIn (s.sec n).config.loopOf = true) ∧ (on = false → s.gangFormed n = true) then some .busy
      else none := by
  unfold State.amendGangRefusal
  cases on with
  | true =>
    obtain ⟨even, loops⟩ := allowed rfl
    have odd : ¬ n.val % 2 = 1 := by omega
    have differ : ¬ ((s.sec (neighbourOf n)).slot.enrolled = true ∧
        (s.sec (neighbourOf n)).config.loopOf ≠ (s.sec n).config.loopOf) := fun ⟨enrolled, ne⟩ => ne (loops enrolled)
    simp [odd, differ]
  | false =>
    have service : s.gangFormed n = true → (s.sec (neighbourOf n)).slot.inService = true :=
      State.inService_of_gangFormed
    simp only [Bool.false_eq_true, if_false, ne_eq, Bool.not_eq_false, true_imp_iff]
    exact if_congr (by tauto) rfl rfl

/-- What an accepted AMEND of GANG leaves of the channels of the pair (R18, R131). -/
theorem State.restagePair_fans (s : State) (n m : Slot) (member : m = leadOf n ∨ m = followerOf n) :
    (s.restagePair n).fan m =
      { s.fan m with
        ownStaged := min (s.fan m).ramp (fanCeiling (s.sec m))
        gen :=
          { (s.fan m).gen with
            stagedDuty :=
              if s.stopLow then 0
              else if (s.restagePair n).gangFormed n then
                min ((s.restagePair n).fan (leadOf n)).ownStaged ((s.restagePair n).fan (followerOf n)).ownStaged
              else ((s.restagePair n).fan m).ownStaged } } := by
  have own (k : Slot) (inPair : k = leadOf n ∨ k = followerOf n) :
      ((s.restagePair n).fan k).ownStaged = min (s.fan k).ramp (fanCeiling (s.sec k)) := by
    rw [s.restagePair_fan n k inPair]
  rw [own m member, own _ (.inl rfl), own _ (.inr rfl), State.gangFormed_congr (s.restagePair_sec n)]
  exact s.restagePair_fan n m member

/-- Settles O10: the refusals by `State.amendGangRefusal_eq`, the acceptance by `State.restagePair_fans`. -/
theorem amendmentOfTheGang : Obligations.AmendmentOfTheGang := by
  intro s dt n taking inService other config searched
  have searches : s.searchIn config.loopOf = true ↔ searched := s.searchIn_iff _
  refine ⟨fun odd => ?_, fun even enrolled differ => ?_, fun on => ?_⟩
  · have refusal : (s.atTake dt).amendGangRefusal n true = some .order := if_pos odd
    rw [exec_amend rfl taking inService]
    exact congrArg (fun v => Host.Outcome.next ((s.atTake dt).take 2 v)) (amendGang_of_refused refusal)
  · have refusal : (s.atTake dt).amendGangRefusal n true = some .order :=
      (if_neg (by omega)).trans (if_pos ⟨enrolled, differ⟩)
    rw [exec_amend rfl taking inService]
    exact congrArg (fun v => Host.Outcome.next ((s.atTake dt).take 2 v)) (amendGang_of_refused refusal)
  · intro p allowed
    have refusal := State.amendGangRefusal_eq (s := s.atTake dt) allowed
    refine ⟨fun change service running even => ?_, fun same => ?_, fun change free => ?_⟩
    · have formed : on = false → (s.atTake dt).gangFormed n = true := fun off =>
        (State.gangFormed_of_lead even inService service).trans (by rw [off] at change; exact Bool.not_eq_false _ ▸ change)
      rw [if_pos ⟨⟨change, service, searches.mpr running⟩, formed⟩] at refusal
      rw [exec_amend rfl taking inService, amendGang_of_refused refusal]
      rfl
    · rw [if_neg fun busy => busy.1.1 same] at refusal
      rw [exec_amend rfl taking inService, amendGang_of_same refusal same]
      rfl
    · rw [if_neg fun busy => free ⟨busy.1.2.1, searches.mp busy.1.2.2⟩] at refusal
      have fan (k : Slot) : ((s.atTake dt).modSec n fun r =>
          { r with config := { r.config with gangFlag := on } }).fan k = s.fan k := rfl
      have ceiling (k : Slot) : fanCeiling (((s.atTake dt).modSec n fun r =>
          { r with config := { r.config with gangFlag := on } }).sec k) = fanCeiling (s.sec k) := by
        rw [State.modSec_sec_eq]
        split
        next same =>
          subst same
          rfl
        next => rfl
      rw [exec_amend rfl taking inService, amendGang_of_change refusal change]
      generalize changed : ((s.atTake dt).modSec n fun r =>
        { r with config := { r.config with gangFlag := on } }) = u at *
      have sections := u.restagePair_sections n
      have pair := u.restagePair_fans n
      have others := u.restagePair_fan_other n
      have frame := u.restagePair_frame n
      simp only [fan, ceiling] at pair others
      generalize u.restagePair n = after at *
      subst changed
      refine ⟨_, rfl, sections, others, pair, ?_⟩
      rw [frame]
      rfl

/-! ### AMEND of LIMITS -/

theorem State.modSec_modSec (s : State) (n : Slot) (f g : SectionRecord → SectionRecord) :
    (s.modSec n f).modSec n g = s.modSec n fun r => g (f r) := by
  unfold State.modSec
  simp [tabSet, tabGet]

/-- A set reaches ACTIVE where ACTIVE is selected, or by the apply flag where it is that of the loop's regime (R20). -/
def State.limitsReach (s : State) (n : Slot) (selector : Nat) (apply : Bool) : Prop :=
  selector = 2 ∨ apply = true ∧
    (selector = 0 ∧ (s.loopRec (s.sec n).config.loopOf).regime = .mild ∨
      selector = 1 ∧ (s.loopRec (s.sec n).config.loopOf).regime = .frost)

open Classical in
/-- An accepted AMEND of LIMITS stores its set, and restages where the set reaches ACTIVE (R20). -/
theorem State.amendLimitSet_eq (s : State) (n : Slot) {selector : Nat} (defined : selector < 3) (apply : Bool)
    (m : LimitSet) :
    let stored := s.modSec n fun r =>
      { r with
        config :=
          { r.config with
            mild := if selector = 0 then m else r.config.mild
            frost := if selector = 1 then m else r.config.frost }
        active := if s.limitsReach n selector apply then m else r.active }
    s.amendLimitSet n selector apply m = if s.limitsReach n selector apply then stored.restage n else stored := by
  intro stored
  unfold State.amendLimitSet
  obtain rfl | rfl | rfl : selector = 0 ∨ selector = 1 ∨ selector = 2 := by omega
  · have reach : s.limitsReach n 0 apply ↔ apply = true ∧ (s.loopRec (s.sec n).config.loopOf).regime = .mild := by
      simp [State.limitsReach]
    by_cases reaches : s.limitsReach n 0 apply
    · simp only [stored, if_pos reaches, if_pos (reach.mp reaches), State.modSec_modSec]
      rfl
    · simp only [stored, if_neg reaches, if_neg (mt reach.mpr reaches)]
      rfl
  · have reach : s.limitsReach n 1 apply ↔ apply = true ∧ (s.loopRec (s.sec n).config.loopOf).regime = .frost := by
      simp [State.limitsReach]
    by_cases reaches : s.limitsReach n 1 apply
    · simp only [stored, if_pos reaches, if_pos (reach.mp reaches), State.modSec_modSec]
      rfl
    · simp only [stored, if_neg reaches, if_neg (mt reach.mpr reaches)]
      rfl
  · have reaches : s.limitsReach n 2 apply := .inl rfl
    simp only [stored, if_pos reaches]
    rfl

/-- The owner of LIMITS on defined codes (R20). -/
theorem amendLimits_eq (n : Slot) {sel apply : Byte} (f w d g1 g2 : Byte) (s : State) (selector : sel.toNat < 3)
    (flag : apply.toNat < 2) :
    let m : LimitSet :=
      { fan := f.toNat, watch := w.toNat, defend := d.toNat, guard := clampNat 0 2000 (be16 g1 g2) }
    amendGroup n [6, sel, apply, f, w, d, g1, g2] s =
      if m.ordered = false then .no .order
      else
        .accept (s.amendLimitSet n sel.toNat (apply.toNat == 1) m)
          (doneStatus (clampNat 0 2000 (be16 g1 g2) ≠ be16 g1 g2)) [] := by
  intro m
  have defined : (undefinedCode [6, sel, apply, f, w, d, g1, g2] 1 3 ||
      undefinedCode [6, sel, apply, f, w, d, g1, g2] 2 2) = false := by
    rw [undefinedCode_of_lt _ 1 3 sel rfl selector, undefinedCode_of_lt _ 2 2 apply rfl flag]
    rfl
  have stored : (fieldLimits [6, sel, apply, f, w, d, g1, g2] 3).value = m := by
    rw [fieldLimits_value]
    rfl
  rw [amendGroup_limits]
  simp only [amendLimits, defined, stored, List.length_cons, List.length_nil, ne_eq, not_true_eq_false,
    Bool.false_eq_true, if_false, Bool.not_eq_true']
  split
  next => rfl
  next => exact okClamped_eq _ _ _ (fieldLimits_changed_iff _ 3)

open Classical in
/-- Settles O11: the store and the reach into ACTIVE by `State.amendLimitSet_eq`. -/
theorem amendmentOfTheLimits : Obligations.AmendmentOfTheLimits := by
  intro s dt n sel apply f w d g1 g2 taking inService selector flag r g m p regime reaches
  have owner := amendLimits_eq n f w d g1 g2 (s.atTake dt) selector flag
  have order : m.ordered = true ↔ d.toNat ≤ w.toNat ∧ w.toNat ≤ f.toNat := by
    rw [LimitSet.ordered, Bool.and_eq_true, decide_eq_true_eq, decide_eq_true_eq]
  have code (b : Byte) (k : Nat) (small : k < 256) : b.toNat = k ↔ b = BitVec.ofNat 8 k := by
    rw [← BitVec.toNat_inj, BitVec.toNat_ofNat, Nat.mod_eq_of_lt small]
  have reach : (s.atTake dt).limitsReach n sel.toNat (apply.toNat == 1) ↔ reaches := by
    rw [State.limitsReach, beq_iff_eq, code sel 0 (by decide), code sel 1 (by decide), code sel 2 (by decide),
      code apply 1 (by decide)]
    rfl
  split
  next ordered =>
    have limits := (s.atTake dt).amendLimitSet_eq n selector (apply.toNat == 1) m
    have mild : (if sel.toNat = 0 then m else r.config.mild) = if sel = 0 then m else r.config.mild :=
      if_congr (code sel 0 (by decide)) rfl rfl
    have frost : (if sel.toNat = 1 then m else r.config.frost) = if sel = 1 then m else r.config.frost :=
      if_congr (code sel 1 (by decide)) rfl rfl
    have active : (if (s.atTake dt).limitsReach n sel.toNat (apply.toNat == 1) then m else r.active) =
        if reaches then m else r.active := if_congr reach rfl rfl
    have stored : ((s.atTake dt).modSec n fun r =>
        { r with
          config :=
            { r.config with
              mild := if sel.toNat = 0 then m else r.config.mild
              frost := if sel.toNat = 1 then m else r.config.frost }
          active := if (s.atTake dt).limitsReach n sel.toNat (apply.toNat == 1) then m else r.active }) =
        { s.atTake dt with
          sections :=
            tabSet s.sections n
              { r with
                config :=
                  { r.config with
                    mild := if sel = 0 then m else r.config.mild, frost := if sel = 1 then m else r.config.frost }
                active := if reaches then m else r.active } } := by
      rw [← mild, ← frost, ← active]
      rfl
    have unordered : ¬ m.ordered = false := by rw [order.mpr ordered]; exact Bool.noConfusion
    rw [exec_amend rfl taking inService, owner, if_neg unordered, limits, stored]
    by_cases reached : reaches
    · rw [if_pos (reach.mpr reached)]
      generalize changed : ({ s.atTake dt with sections := _ } : State) = u
      have restaged : Restaged s (u.restage n) n := by
        refine .of_restage s _ u n (fun k => ?_) (u.restage_sec n) (u.restage_stopLow n) fun _ => rfl
        rw [← changed]
        rfl
      have sections := u.restage_sections n
      have frame := u.restage_frame n
      generalize u.restage n = after at *
      subst changed
      refine ⟨_, rfl, sections, fun _ => restaged, fun out => absurd reached out, ?_⟩
      rw [frame]
      rfl
    · rw [if_neg (mt reach.mp reached)]
      exact ⟨_, rfl, rfl, fun reached' => absurd reached' reached, fun _ => rfl, rfl⟩
  next disordered =>
    rw [exec_amend rfl taking inService, owner, if_pos (Bool.eq_false_iff.mpr (mt order.mp disordered))]
    rfl

end Sys2Proof.Machine
end

section
/-! PROOF. LOOP SET of GLYCOL (R69, R70). -/

namespace Sys2Proof.Machine

open Sys2Proof

theorem tabSet_tabSet {α : Type} {k : Nat} (v : Vector α k) (i : Fin k) (a b : α) :
    tabSet (tabSet v i a) i b = tabSet v i b := by
  simp [tabSet]

/-! ### LOOP SET by its group -/

/-- The owner of each group of LOOP SET (R68, log entry 8). -/
def loopSetGroup (l : LoopId) (p : List Byte) (s : State) : Verdict :=
  match p.head?.map BitVec.toNat with
  | none => .no .badLength
  | some 0 => loopSetGlycol l p s
  | some 1 => loopSetRegime l p s
  | some 2 => loopSetPump l p s
  | some 3 => loopSetLeak l p s
  | some 4 => loopSetSearch l p s
  | some 5 => loopSetUnset l p s
  | some _ => .no .badKind

theorem loopSetRequest_eq (j : Byte) (p : List Byte) (s : State) :
    loopSetRequest j p s = onLoop j fun l => loopSetGroup l p s := rfl

theorem loopSetGroup_cons (l : LoopId) (g : Byte) (q : List Byte) (s : State) :
    loopSetGroup l (g :: q) s =
      ([loopSetGlycol, loopSetRegime, loopSetPump, loopSetLeak, loopSetSearch, loopSetUnset].getD g.toNat
        fun _ _ _ => .no .badKind) l (g :: q) s := by
  show (match some g.toNat with
    | none => Verdict.no .badLength
    | some 0 => _ | some 1 => _ | some 2 => _ | some 3 => _ | some 4 => _ | some 5 => _
    | some _ => _) = _
  rcases g.toNat with _ | _ | _ | _ | _ | _ | k <;> rfl

/-- A LOOP SET of a loop is judged by its group. -/
theorem exec_loopSet {c : Instr} {dt : Nat} {l : LoopId} {p : List Byte}
    (parts : requestParts c = some (16, dt, indexByte l, p)) {s : State} (taking : s.taking) :
    exec c s = .next ((s.atTake dt).take 16 (loopSetGroup l p (s.atTake dt))) := by
  rw [exec_request_of_taking parts taking]
  show Host.Outcome.next ((s.atTake dt).take 16 (loopSetRequest (indexByte l) p (s.atTake dt))) = _
  rw [loopSetRequest_eq, onLoop_index]

/-! ### GLYCOL -/

theorem compareOf_zero_period (duty : Nat) : compareOf duty 0 = 0 := by
  simp [compareOf]

/-- A channel right after its enabling, with its staged values in force (R126). -/
theorem Channel.enable_eq (duty period : Nat) (activeLow : Bool) :
    Channel.enable duty period activeLow =
      { enabled := true, counter := 0, direction := .up, stagedDuty := duty, stagedPeriod := period,
        dutyInForce := if period = 0 then 0 else duty, periodInForce := period,
        compareInForce := compareOf duty period,
        output := if compareOf duty period = 0 then idleLevel activeLow else activeLevel activeLow } := by
  have level (c : Channel) (enabled : c.enabled = true) (counter : c.counter = 0)
      (compare : c.periodInForce = 0 → c.compareInForce = 0) :
      c.level activeLow = if c.compareInForce = 0 then idleLevel activeLow else activeLevel activeLow := by
    by_cases zero : c.compareInForce = 0
    · simp [Channel.level, Channel.isActive, zero]
    · have period : c.periodInForce ≠ 0 := fun h => zero (compare h)
      have positive : 0 < c.compareInForce := Nat.pos_of_ne_zero zero
      simp [Channel.level, Channel.isActive, zero, period, positive, enabled, counter]
  unfold Channel.enable Channel.drive
  rw [level _ rfl rfl fun zero => by
    rw [show (Channel.boundary _).compareInForce = compareOf duty period from rfl, show period = 0 from zero,
      compareOf_zero_period]]
  rfl

theorem State.becomeSet_eq (s : State) (l : LoopId) (c : LoopConfig) :
    let r := s.loopRec l
    let duty := if s.stopLow then c.stopDuty
      else
        max (if s.anyMemberIn l .defend then c.defendFloor else 0) (if s.anyMemberIn l .tripped then 255 else 0)
    s.becomeSet l c =
      { s with
        loops :=
          tabSet s.loops l
            { r with
              isSet := true, config := c, regime := .mild, regimeEntry := s.partTime, coldest := none,
              hostDemand := 0, ramp := 0, rampTimer := some (s.time + unitsPerRamp),
              leakTimer := some (s.expiryIn c.leakWindow), leakLength := c.leakWindow, leakWindow := .empty,
              lastResult := .none, autoOutcome := .none }
        pumps := tabSet s.pumps l (Channel.enable duty c.period (s.pumpActiveLow l)) } := by
  intro r duty
  have decided : (s.modLoop l fun r =>
      { r with
        isSet := true, config := c, regime := .mild, regimeEntry := s.partTime, coldest := none, hostDemand := 0,
        ramp := 0, rampTimer := some (s.time + unitsPerRamp), lastResult := .none, autoOutcome := .none }).pumpDuty l =
      duty := by
    have members (t : State) (sections : t.sections = s.sections) (p : Protection) :
        t.anyMemberIn l p = s.anyMemberIn l p := by
      simp only [State.anyMemberIn, State.sec, sections]
    unfold State.pumpDuty State.pumpFloor
    rw [members _ (State.modLoop_sections ..), members _ (State.modLoop_sections ..)]
    simp only [State.modLoop_loopRec_self, State.modLoop_stopLow, reduceCtorEq, if_false, Nat.zero_max, duty]
  unfold State.becomeSet
  dsimp only
  rw [decided]
  unfold State.beginWindow State.modLoop State.modPump
  simp only [tabSet_tabSet, tabGet_tabSet, if_true]
  rfl

theorem clampSigned_value (lo hi v : Int) : (clampSigned lo hi v).value = clampInt lo hi v := by
  rw [clampSigned]

/-- The owner of GLYCOL on a defined curve (R69, R70). -/
theorem loopSetGlycol_eq (l : LoopId) {v : Byte} (a1 a2 b1 b2 : Byte) (s : State) (defined : v.toNat < 2) :
    let concentration := clampNat 0 600 (be16 a1 a2)
    let air := clampInt (-5000) 0 (signed16 b1 b2)
    let config :=
      { (s.loopRec l).config with
        curve := if v = 0 then .a else .b, concentration := concentration, frostAir := air }
    loopSetGroup l [0, v, a1, a2, b1, b2] s =
      .accept (if (s.loopRec l).isSet then s.modLoop l fun r => { r with config := config } else s.becomeSet l config)
        (doneStatus (concentration ≠ be16 a1 a2 ∨ air ≠ signed16 b1 b2)) [] := by
  intro concentration air config
  have first : (if field8 [0, v, a1, a2, b1, b2] 1 = 0 then CurveName.a else CurveName.b) = if v = 0 then .a else .b :=
    if_congr (BitVec.toNat_inj (x := v) (y := 0)) rfl rfl
  rw [loopSetGroup_cons]
  show loopSetGlycol l [0, v, a1, a2, b1, b2] s = _
  simp only [loopSetGlycol, undefinedCode_of_lt [0, v, a1, a2, b1, b2] 1 2 v rfl defined, clampField_value,
    clampSigned_value, first, fieldSigned_eq, field16_eq, List.getD_cons_succ, List.getD_cons_zero, List.length_cons,
    List.length_nil, ne_eq, not_true_eq_false, Bool.false_eq_true, if_false]
  refine okClamped_eq _ _ _ ?_
  rw [Bool.or_eq_true, clampField_changed_iff, clampSigned_changed_iff]

/-- Settles O16: the owner's verdict, and `State.becomeSet_eq` for an UNSET loop. -/
theorem glycolSetsOrChangesALoop : Obligations.GlycolSetsOrChangesALoop := by
  intro s dt l v a1 a2 b1 b2 taking defined r tenths concentration air config status command duty
  have owner := loopSetGlycol_eq l a1 a2 b1 b2 (s.atTake dt) defined
  refine ⟨fun isSet => ?_, fun unset => ?_⟩
  · rw [exec_loopSet rfl taking, owner, State.atTake_loopRec, if_pos isSet]
    rfl
  · rw [exec_loopSet rfl taking, owner, State.atTake_loopRec, if_neg (Bool.eq_false_iff.mp unset), State.becomeSet_eq, Channel.enable_eq]
    rfl

end Sys2Proof.Machine
end

section
/-! PROOF. LOOP SET of every group (R68, R70, R71). -/

namespace Sys2Proof.Machine

open Sys2Proof

/-! ### The checks of the payload -/

/-- The enumerated fields of the groups of LOOP SET: the group, the place of the field and the count of its codes
(R68). -/
theorem loopSetGroup_of_undefined (l : LoopId) (g : Byte) (q : List Byte) (s : State)
    (undefined : 6 ≤ g.toNat ∨ ∃ x ∈ [(0, 1, 2), (3, 5, 2)],
      g.toNat = x.1 ∧ x.2.1 < (g :: q).length ∧ x.2.2 ≤ field8 (g :: q) x.2.1) :
    loopSetGroup l (g :: q) s = .no .badKind := by
  rw [loopSetGroup_cons]
  rcases undefined with beyond | ⟨x, member, group, code⟩
  · rw [List.getD_eq_default _ _ beyond]
  · rw [← undefinedCode_iff] at code
    rw [group]
    simp only [List.mem_cons, List.not_mem_nil, or_false] at member
    rcases member with rfl | rfl
    · exact if_pos code
    · exact if_pos code

theorem loopSetGroup_of_length (l : LoopId) (g : Byte) (q : List Byte) (s : State)
    (defined : ¬ (6 ≤ g.toNat ∨ ∃ x ∈ [(0, 1, 2), (3, 5, 2)],
      g.toNat = x.1 ∧ x.2.1 < (g :: q).length ∧ x.2.2 ≤ field8 (g :: q) x.2.1))
    (wrong : (g :: q).length ≠ [6, 7, 7, 6, 12, 1].getD g.toNat 0) :
    loopSetGroup l (g :: q) s = .no .badLength := by
  obtain ⟨within, codes⟩ := not_or.mp defined
  have code (x : Nat × Nat × Nat) (member : x ∈ [(0, 1, 2), (3, 5, 2)]) (group : g.toNat = x.1) :
      undefinedCode (g :: q) x.2.1 x.2.2 ≠ true := fun undefined =>
    codes ⟨x, member, group, (undefinedCode_iff _ _ _).mp undefined⟩
  rw [loopSetGroup_cons]
  generalize g.toNat = k at *
  rcases k with _ | _ | _ | _ | _ | _ | k
  · exact (if_neg (code (0, 1, 2) (by decide) rfl)).trans (if_pos wrong)
  · exact if_pos wrong
  · exact if_pos wrong
  · exact (if_neg (code (3, 5, 2) (by decide) rfl)).trans (if_pos wrong)
  · exact if_pos wrong
  · exact if_pos wrong
  · omega

/-! ### UNSET loops -/

/-- REGIME, PUMP and SEARCH of an UNSET loop, their payloads of the right length (R68). -/
theorem loopSetGroup_of_unset {l : LoopId} {s : State} (unset : (s.loopRec l).isSet = false) (g : Byte) {p : List Byte}
    (group : g = 1 ∧ p.length = 6 ∨ g = 2 ∧ p.length = 6 ∨ g = 4 ∧ p.length = 11) :
    loopSetGroup l (g :: p) s = .no .loopUnset := by
  have isSet : (!(s.loopRec l).isSet) = true := by rw [unset]; rfl
  rw [loopSetGroup_cons]
  rcases group with ⟨rfl, length⟩ | ⟨rfl, length⟩ | ⟨rfl, length⟩
  · exact (if_neg (not_not.mpr (congrArg (· + 1) length))).trans (if_pos isSet)
  · exact (if_neg (not_not.mpr (congrArg (· + 1) length))).trans (if_pos isSet)
  · exact (if_neg (not_not.mpr (congrArg (· + 1) length))).trans (if_pos isSet)

theorem loopSetLeak_of_unset {l : LoopId} {s : State} (unset : (s.loopRec l).isSet = false) {p : List Byte}
    (length : p.length = 5) (flag : field8 p 4 < 2) : loopSetGroup l (3 :: p) s = .no .loopUnset := by
  have isSet : (!(s.loopRec l).isSet) = true := by rw [unset]; rfl
  have defined : ¬ undefinedCode (3 :: p) 5 2 = true := by
    rw [undefinedCode_iff_of_lt (by simp [length])]
    exact Nat.not_le.mpr flag
  rw [loopSetGroup_cons]
  exact (if_neg defined).trans ((if_neg (not_not.mpr (congrArg (· + 1) length))).trans (if_pos isSet))

/-! ### The groups of a SET loop -/

theorem loopSetRegime_eq {l : LoopId} {s : State} (isSet : (s.loopRec l).isSet = true) (e1 e2 x1 x2 d1 d2 : Byte) :
    let entry := clampInt (-5000) 0 (signed16 e1 e2)
    let leave := clampInt (-5000) 1000 (signed16 x1 x2)
    let dwell := clampNat 0 3600 (be16 d1 d2)
    loopSetGroup l [1, e1, e2, x1, x2, d1, d2] s =
      if leave < entry + 100 then .no .order
      else
        .accept
          (s.modLoop l fun r =>
            { r with config := { r.config with frostEntry := entry, frostExit := leave, dwell := dwell } })
          (doneStatus (entry ≠ signed16 e1 e2 ∨ leave ≠ signed16 x1 x2 ∨ dwell ≠ be16 d1 d2)) [] := by
  intro entry leave dwell
  rw [loopSetGroup_cons]
  show loopSetRegime l [1, e1, e2, x1, x2, d1, d2] s = _
  simp only [loopSetRegime, isSet, clampField_value, clampSigned_value, fieldSigned_eq, field16_eq,
    List.getD_cons_succ, List.getD_cons_zero, List.length_cons, List.length_nil, ne_eq, not_true_eq_false,
    Bool.not_true, Bool.false_eq_true, if_false]
  by_cases close : leave < entry + 100
  · rw [if_pos close, if_pos close]
  · rw [if_neg close, if_neg close]
    refine okClamped_eq _ _ _ ?_
    simp only [Bool.or_eq_true, clampField_changed_iff, clampSigned_changed_iff, or_assoc]
    rfl

theorem loopSetPump_eq {l : LoopId} {s : State} (isSet : (s.loopRec l).isSet = true) (f d h u v w : Byte) :
    loopSetGroup l [2, f, d, h, u, v, w] s =
      .accept
        (((s.modLoop l fun r =>
            { r with
              config :=
                { r.config with
                  frostFloor := f.toNat, defendFloor := d.toNat, stopDuty := h.toNat,
                  riseStep := clampNat 1 64 u.toNat, fallStep := clampNat 1 64 v.toNat,
                  period := w.toNat } }).modPump l fun c => { c with stagedPeriod := w.toNat }).decidePump l)
        (doneStatus (clampNat 1 64 u.toNat ≠ u.toNat ∨ clampNat 1 64 v.toNat ≠ v.toNat)) [] := by
  rw [loopSetGroup_cons]
  show loopSetPump l [2, f, d, h, u, v, w] s = _
  simp only [loopSetPump, isSet, clampField_value, field8, List.getD_cons_succ, List.getD_cons_zero,
    List.length_cons, List.length_nil, ne_eq, not_true_eq_false, Bool.not_true, Bool.false_eq_true, if_false]
  refine okClamped_eq _ _ _ ?_
  rw [Bool.or_eq_true, clampField_changed_iff, clampField_changed_iff]

theorem loopSetLeak_eq {l : LoopId} {s : State} (isSet : (s.loopRec l).isSet = true) (w1 w2 x1 x2 : Byte) {f : Byte}
    (flag : f.toNat < 2) :
    let window := clampNat 60 3600 (be16 w1 w2)
    let suspect := clampNat 1 2000 (be16 x1 x2)
    loopSetGroup l [3, w1, w2, x1, x2, f] s =
      if suspect ≤ (s.loopRec l).config.search.quiet then .no .order
      else
        .accept
          (s.modLoop l fun r =>
            { r with config := { r.config with leakWindow := window, suspect := suspect, autoSearch := f == 0 } })
          (doneStatus (window ≠ be16 w1 w2 ∨ suspect ≠ be16 x1 x2)) [] := by
  intro window suspect
  have on : fieldOn [3, w1, w2, x1, x2, f] 5 = (f == 0) :=
    Bool.eq_iff_iff.mpr (by
      rw [fieldOn, beq_iff_eq, beq_iff_eq]
      exact BitVec.toNat_inj (x := f) (y := 0))
  rw [loopSetGroup_cons]
  show loopSetLeak l [3, w1, w2, x1, x2, f] s = _
  simp only [loopSetLeak, undefinedCode_of_lt [3, w1, w2, x1, x2, f] 5 2 f rfl flag, on, isSet, clampField_value,
    field16_eq, List.getD_cons_succ, List.getD_cons_zero, List.length_cons, List.length_nil, ne_eq,
    not_true_eq_false, Bool.not_true, Bool.false_eq_true, if_false]
  by_cases quiet : suspect ≤ (s.loopRec l).config.search.quiet
  · rw [if_pos quiet, if_pos quiet]
  · rw [if_neg quiet, if_neg quiet]
    refine okClamped_eq _ _ _ ?_
    rw [Bool.or_eq_true, clampField_changed_iff, clampField_changed_iff]

theorem loopSetSearch_eq {l : LoopId} {s : State} (isSet : (s.loopRec l).isSet = true)
    (s1 s2 o1 o2 r1 r2 q1 q2 f1 f2 c : Byte) :
    let params : SearchParams :=
      { settle := clampNat 10 600 (be16 s1 s2), observe := clampNat 30 1800 (be16 o1 o2)
        rest := clampNat 0 600 (be16 r1 r2), quiet := clampNat 0 2000 (be16 q1 q2)
        floor := clampNat 0 5000 (be16 f1 f2), restarts := clampNat 0 3 c.toNat }
    loopSetGroup l [4, s1, s2, o1, o2, r1, r2, q1, q2, f1, f2, c] s =
      if (s.loopRec l).config.suspect ≤ params.quiet then .no .order
      else
        .accept (s.modLoop l fun r => { r with config := { r.config with search := params } })
          (doneStatus
            (params.settle ≠ be16 s1 s2 ∨ params.observe ≠ be16 o1 o2 ∨ params.rest ≠ be16 r1 r2 ∨
              params.quiet ≠ be16 q1 q2 ∨ params.floor ≠ be16 f1 f2 ∨ params.restarts ≠ c.toNat)) [] := by
  intro params
  rw [loopSetGroup_cons]
  show loopSetSearch l [4, s1, s2, o1, o2, r1, r2, q1, q2, f1, f2, c] s = _
  simp only [loopSetSearch, isSet, clampField_value, field8, field16_eq, List.getD_cons_succ, List.getD_cons_zero,
    List.length_cons, List.length_nil, ne_eq, not_true_eq_false, Bool.not_true, Bool.false_eq_true, if_false]
  by_cases quiet : (s.loopRec l).config.suspect ≤ params.quiet
  · rw [if_pos quiet, if_pos quiet]
  · rw [if_neg quiet, if_neg quiet]
    refine okClamped_eq _ _ _ ?_
    simp only [Bool.or_eq_true, clampField_changed_iff, or_assoc]
    rfl

/-! ### UNSET -/

theorem State.loopHasMembers_iff (s : State) (l : LoopId) :
    s.loopHasMembers l = true ↔ ∃ n, (s.sec n).slot ≠ .vacant ∧ (s.sec n).config.loopOf = l := by
  simp only [State.loopHasMembers, List.any_eq_true, SectionRecord.memberOf, Bool.and_eq_true, beq_iff_eq,
    SlotState.enrolled_iff]
  exact ⟨fun ⟨n, _, member⟩ => ⟨n, member⟩, fun ⟨n, member⟩ => ⟨n, mem_allSlots n, member⟩⟩

theorem loopSetUnset_of_used {l : LoopId} {s : State} (isSet : (s.loopRec l).isSet = true)
    (used : s.loopHasMembers l = true ∨ s.searchIn l = true) : loopSetGroup l [5] s = .no .busy := by
  rw [loopSetGroup_cons]
  show loopSetUnset l [5] s = _
  simp only [loopSetUnset, isSet, List.length_cons, List.length_nil, Nat.zero_add, ne_eq, not_true_eq_false,
    Bool.not_true, Bool.false_eq_true, if_false]
  exact if_pos ((Bool.or_eq_true _ _).mpr used)

theorem loopSetUnset_of_free {l : LoopId} {s : State} (isSet : (s.loopRec l).isSet = true)
    (free : ¬ (s.loopHasMembers l = true ∨ s.searchIn l = true)) : loopSetGroup l [5] s = .ok (s.unsetLoop l) := by
  rw [loopSetGroup_cons]
  show loopSetUnset l [5] s = _
  simp only [loopSetUnset, isSet, List.length_cons, List.length_nil, Nat.zero_add, ne_eq, not_true_eq_false,
    Bool.not_true, Bool.false_eq_true, if_false]
  exact if_neg (mt (Bool.or_eq_true _ _).mp free)

theorem State.decidePump_eq {s : State} {l : LoopId} (isSet : (s.loopRec l).isSet = true) :
    s.decidePump l = s.modPump l fun c => { c with stagedDuty := s.pumpDuty l } := if_pos isSet

/-- Settles O17: the groups' owners, spelled above, on the part at the take. -/
theorem loopSetOfASetLoop : Obligations.LoopSetOfASetLoop := by
  intro s dt l taking j r
  refine ⟨fun c i p parts => ⟨fun beyond => ?_, fun g q subject payload => ?_⟩, ?_⟩
  · refine exec_request_of_no parts taking ?_
    show loopSetRequest i p (s.atTake dt) = _
    rw [loopSetRequest_eq, onLoop_beyond i beyond]
  · subst subject payload
    refine ⟨fun undefined => ?_, fun defined wrong => ?_⟩
    · rw [exec_loopSet parts taking, loopSetGroup_of_undefined l g q _ undefined]
      rfl
    · rw [exec_loopSet parts taking, loopSetGroup_of_length l g q _ defined wrong]
      rfl
  intro replaced
  refine ⟨fun (unset : ((s.atTake dt).loopRec l).isSet = false) c p group => ?_,
    fun (isSet : ((s.atTake dt).loopRec l).isSet = true) => ⟨fun e1 e2 x1 x2 d1 d2 => ?_, fun f d h u v w => ?_,
    fun w1 w2 x1 x2 f flag => ?_, fun s1 s2 o1 o2 r1 r2 q1 q2 f1 f2 c => ?_, fun used => ?_, fun slots search => ?_⟩,
    fun (unset : ((s.atTake dt).loopRec l).isSet = false) => ?_⟩
  · have refused (g : Byte) (shape : g = 1 ∧ p.length = 6 ∨ g = 2 ∧ p.length = 6 ∨ g = 4 ∧ p.length = 11) :=
      loopSetGroup_of_unset unset g shape
    rcases group with ⟨g, code, rfl, length⟩ | ⟨g, code, rfl, length⟩ | ⟨g, rfl, rfl, length, flag⟩ |
      ⟨g, code, rfl, length⟩
    · rw [exec_loopSet rfl taking, refused g (.inl ⟨code, length⟩)]
      rfl
    · rw [exec_loopSet rfl taking, refused g (.inr (.inl ⟨code, length⟩))]
      rfl
    · rw [exec_loopSet rfl taking, loopSetLeak_of_unset unset length flag]
      rfl
    · rw [exec_loopSet rfl taking, refused g (.inr (.inr ⟨code, length⟩))]
      rfl
  · intro entry leave dwell
    have owner := loopSetRegime_eq isSet e1 e2 x1 x2 d1 d2
    rw [exec_loopSet rfl taking, owner]
    split <;> rfl
  · have owner := loopSetPump_eq isSet f d h u v w
    rw [exec_loopSet rfl taking, owner, State.decidePump_eq]
    · refine ⟨_, rfl, ?_⟩
      unfold State.modPump
      rw [tabSet_tabSet]
      simp only [State.pump, tabGet_tabSet, if_true]
      rfl
    · rw [State.modPump_loopRec, State.modLoop_loopRec_self]
      exact isSet
  · intro window suspect
    have owner := loopSetLeak_eq isSet w1 w2 x1 x2 flag
    rw [exec_loopSet rfl taking, owner, State.atTake_loopRec]
    split <;> rfl
  · intro params
    have owner := loopSetSearch_eq isSet s1 s2 o1 o2 r1 r2 q1 q2 f1 f2 c
    rw [exec_loopSet rfl taking, owner, State.atTake_loopRec]
    split <;> rfl
  · rw [exec_loopSet rfl taking, loopSetUnset_of_used isSet]
    · rfl
    · rw [State.loopHasMembers_iff, State.searchIn_iff]
      exact used
  · rw [exec_loopSet rfl taking, loopSetUnset_of_free isSet]
    · rfl
    · rw [State.loopHasMembers_iff, State.searchIn_iff]
      rintro (⟨n, enrolled, loop⟩ | ⟨running, loop⟩)
      · exact slots n enrolled loop
      · exact search running loop
  · have owner : loopSetGroup l [5] (s.atTake dt) = .ok (s.atTake dt) := by
      rw [loopSetGroup_cons]
      exact if_pos (by rw [unset]; rfl)
    rw [exec_loopSet rfl taking, owner]
    rfl

end Sys2Proof.Machine
end

section
/-! PROOF. What a destination field that leaves FRESH does (R104, R106 to R110): the fields, the clear lines and the
bindings. -/

namespace Sys2Proof.Machine

open Sys2Proof

/-! ### One destination after another -/

theorem DestsBecome.dest {s t : State} {v : DestField → Destination} (h : DestsBecome s t v) (e : DestField) :
    t.dest e = v e := by
  obtain ⟨sections, loops⟩ := h
  cases e <;> simp only [State.dest, sections, loops]

theorem DestsBecome.trans {s u t : State} {v w : DestField → Destination} (first : DestsBecome s u v)
    (second : DestsBecome u t w) : DestsBecome s t w :=
  ⟨fun n => by rw [second.1 n, first.1 n], fun l => by rw [second.2 l, first.2 l]⟩

theorem DestsBecome.congr {s t : State} {v w : DestField → Destination} (h : DestsBecome s t v) (same : ∀ e, v e = w e) :
    DestsBecome s t w := (funext same : v = w) ▸ h

theorem LinesReleased.mask {s t : State} {among : DestField → Prop} (h : LinesReleased s t among) (k : LineId) :
    (t.line k).mask = (s.line k).mask := by
  by_cases member : ∃ n, among (.outlet n) ∧ (s.line k).mask.getLsbD (Fin.val n) = true
  · rw [(h k).1 member]
  · rw [(h k).2 fun n out => Bool.eq_false_iff.mpr fun held => member ⟨n, out, held⟩]

theorem LinesReleased.trans {s u t : State} {a b : DestField → Prop} (first : LinesReleased s u a)
    (second : LinesReleased u t b) : LinesReleased s t fun e => a e ∨ b e := by
  intro k
  obtain ⟨hold, leave⟩ := second k
  rw [first.mask k] at hold leave
  refine ⟨fun ⟨n, among, held⟩ => ?_, fun none => ?_⟩
  · by_cases released : ∃ n, b (.outlet n) ∧ (s.line k).mask.getLsbD (Fin.val n) = true
    · rw [hold released]
      by_cases before : ∃ n, a (.outlet n) ∧ (s.line k).mask.getLsbD (Fin.val n) = true
      · rw [(first k).1 before]
      · rw [(first k).2 fun n out => Bool.eq_false_iff.mpr fun held => before ⟨n, out, held⟩]
    · rw [leave fun n out => Bool.eq_false_iff.mpr fun held => released ⟨n, out, held⟩]
      rcases among with out | out
      · exact (first k).1 ⟨n, out, held⟩
      · exact absurd ⟨n, out, held⟩ released
  · rw [leave fun n out => none n (.inr out), (first k).2 fun n out => none n (.inl out)]

theorem LinesReleased.congr {s t : State} {a b : DestField → Prop} (h : LinesReleased s t a) (same : ∀ e, a e ↔ b e) :
    LinesReleased s t b := (funext fun e => propext (same e) : a = b) ▸ h

/-- A destination field replaced by one that is not FRESH: the fields, the lines, and what else (R101, R157). -/
theorem State.setDest_evalLinesOf (s : State) (d : DestField) {v : Destination} (left : v.status ≠ .fresh) :
    let t := (s.setDest d v).evalLinesOf d
    DestsBecome s t (fun e => if e = d then v else s.dest e) ∧ LinesReleased s t (· = d) ∧
      t = { s with sections := t.sections, loops := t.loops, lines := t.lines } := by
  intro t
  have lines : t = { s.setDest d v with lines := t.lines } := (s.setDest d v).evalLinesOf_frame d
  have fields : s.setDest d v = { s with sections := (s.setDest d v).sections, loops := (s.setDest d v).loops } :=
    s.setDest_frame d v
  have dests : DestsBecome s (s.setDest d v) fun e => if e = d then v else s.dest e :=
    .of_shape _ _ _ (s.setDest_dest d · v) (s.setDest_sec_shape d v) (s.setDest_loopRec_shape d v)
  have released : LinesReleased (s.setDest d v) t (· = d) := State.evalLinesOf_released _ d fun n out => by
    subst out
    exact SectionRecord.unsafe_of_outlet _ (by simpa [State.setDest] using left)
  generalize s.setDest d v = u at *
  refine ⟨?_, ?_, ?_⟩
  · rw [lines]
    exact dests
  · intro k
    have same : u.line k = s.line k := by
      rw [fields]
      rfl
    have := released k
    rwa [same] at this
  · rw [lines, fields]

/-- A destination field becomes AWAITING (R106, R107, R110). -/
theorem State.makeAwaiting_writes (s : State) (d : DestField) :
    DestsBecome s (s.makeAwaiting d) (fun e => if e = d then .awaiting else s.dest e) ∧
      LinesReleased s (s.makeAwaiting d) (· = d) ∧
      s.makeAwaiting d =
        { s with
          sections := (s.makeAwaiting d).sections, loops := (s.makeAwaiting d).loops,
          lines := (s.makeAwaiting d).lines } :=
  s.setDest_evalLinesOf d (v := .awaiting) (by decide)

/-! ### UNBIND and HOLD (R107, R108, R110) -/

theorem State.unbind_eq {s : State} {b : BindingId} {f : Binding} (bound : (s.binding b).fields = some f) :
    s.unbind b = ((s.setBinding b .empty).dropStale b).makeAwaiting f.dest := by
  rw [State.unbind, bound]

theorem Destination.hold_eq (d : Destination) (expiry : Nat) :
    d.hold expiry =
      if d.status = .fresh ∨ d.status = .stale then
        { status := .held, stored := d.stored, staleSince := none, freshTimer := none, combineTimer := none,
          holdTimer := some expiry }
      else d := by
  unfold Destination.hold
  cases status : d.status <;> simp

theorem Destination.hold_status (d : Destination) (expiry : Nat) : (d.hold expiry).status ≠ .fresh := by
  rw [Destination.hold_eq]
  split
  next => exact DestStatus.noConfusion
  next other => exact fun fresh => other (.inl fresh)

/-- The owners of UNBIND and HOLD, on a payload of the right length (R107, R108, R110). -/
theorem unbindRequest_index (b : BindingId) (s : State) : unbindRequest (indexByte b) [] s = .ok (s.unbind b) := by
  rw [unbindRequest, onBinding_index]
  rfl

theorem holdRequest_on (b : BindingId) (s : State) :
    (s.binding b = .empty → holdRequest (indexByte b) [0] s = .no .vacant) ∧
      (∀ f, s.binding b = .active f → holdRequest (indexByte b) [0] s = .ok (s.holdBinding b f)) ∧
      ∀ f, s.binding b = .held f → holdRequest (indexByte b) [0] s = .ok s := by
  rw [holdRequest, onBinding_index]
  refine ⟨fun h => ?_, fun f h => ?_, fun f h => ?_⟩ <;> simp only [h] <;> rfl

theorem holdRequest_off (b : BindingId) (s : State) :
    (s.binding b = .empty → holdRequest (indexByte b) [1] s = .no .vacant) ∧
      (∀ f, s.binding b = .active f → holdRequest (indexByte b) [1] s = .ok s) ∧
      ∀ f, s.binding b = .held f → holdRequest (indexByte b) [1] s = .ok (s.releaseBinding b f) := by
  rw [holdRequest, onBinding_index]
  refine ⟨fun h => ?_, fun f h => ?_, fun f h => ?_⟩ <;> simp only [h] <;> rfl

/-- Settles O20: each acceptance replaces one binding and writes one destination. -/
theorem unbindAndHoldActOnTheDestination : Obligations.UnbindAndHoldActOnTheDestination := by
  intro s dt b taking j
  have unbinds := unbindRequest_index b (s.atTake dt)
  obtain ⟨onEmpty, onActive, onHeld⟩ := holdRequest_on b (s.atTake dt)
  obtain ⟨offEmpty, offActive, offHeld⟩ := holdRequest_off b (s.atTake dt)
  have unbindParts : requestParts (.unbind dt j []) = some (33, dt, j, []) := rfl
  have onParts : requestParts (.holdOn dt j [0]) = some (34, dt, j, [0]) := rfl
  have offParts : requestParts (.holdOff dt j [1]) = some (34, dt, j, [1]) := rfl
  have within : j.toNat < 48 := by
    rw [indexByte_toNat b (by decide)]
    exact b.isLt
  refine ⟨fun c k i p parts kind => ⟨fun beyond => ?_, fun subject wrong => ?_, fun subject hold length code => ?_⟩,
    fun empty => ⟨?_, ?_, ?_⟩, fun f bound => ⟨?_, fun active => ⟨?_, ?_⟩, fun held => ⟨?_, ?_⟩⟩⟩
  · refine exec_request_of_no parts taking ?_
    rcases kind with rfl | rfl
    · exact (requestOwner_checksShape (33, 48, 0) (by decide) i p _).1 beyond
    · exact (requestOwner_checksShape (34, 48, 1) (by decide) i p _).1 beyond
  · subst subject
    refine exec_request_of_no parts taking ?_
    rcases kind with rfl | rfl
    · exact (requestOwner_checksShape (33, 48, 0) (by decide) j p _).2 within wrong
    · exact (requestOwner_checksShape (34, 48, 1) (by decide) j p _).2 within wrong
  · subst subject hold
    refine exec_request_of_no parts taking ?_
    show holdRequest j p (s.atTake dt) = _
    rw [holdRequest, onBinding_index, if_neg (not_not.mpr length),
      if_pos ((undefinedCode_iff_of_lt (by omega) 2).mpr code)]
  · refine exec_request_of_ok unbindParts taking (unbinds.trans ?_)
    rw [State.unbind, State.atTake_binding, empty]
    rfl
  · exact exec_request_of_no onParts taking (onEmpty empty)
  · exact exec_request_of_no offParts taking (offEmpty empty)
  · have fields : ((s.atTake dt).binding b).fields = some f := by
      rcases bound with active | held
      · rw [State.atTake_binding, active]
        rfl
      · rw [State.atTake_binding, held]
        rfl
    have owner : requestOwner 33 j [] (s.atTake dt) = _ := unbinds.trans (by rw [State.unbind_eq fields])
    obtain ⟨dests, lines, frame⟩ := (((s.atTake dt).setBinding b .empty).dropStale b).makeAwaiting_writes f.dest
    generalize (((s.atTake dt).setBinding b .empty).dropStale b).makeAwaiting f.dest = after at *
    refine ⟨_, exec_request_of_ok unbindParts taking owner, ?_, dests, lines, ?_, ?_⟩ <;> rw [frame] <;> rfl
  · exact exec_request_of_ok offParts taking (offActive f active)
  · have owner := onActive f active
    obtain ⟨dests, lines, frame⟩ := ((s.atTake dt).setBinding b (.held f)).setDest_evalLinesOf f.dest
      (Destination.hold_status ((((s.atTake dt).setBinding b (.held f))).dest f.dest)
        (((s.atTake dt).setBinding b (.held f)).expiryIn f.holdLimit))
    have held := dests.congr (w := fun e =>
      if e = f.dest ∧ ((s.dest e).status = .fresh ∨ (s.dest e).status = .stale) then
        { status := .held, stored := (s.dest e).stored, staleSince := none, freshTimer := none, combineTimer := none,
          holdTimer := some ((s.time + dt) / unitsPerTenth + 10 * f.holdLimit) }
      else s.dest e) fun e => by
        have kept : ((s.atTake dt).setBinding b (.held f)).dest e = s.dest e := by cases e <;> rfl
        by_cases same : e = f.dest
        · subst same
          rw [if_pos rfl, Destination.hold_eq, kept]
          exact if_congr (and_iff_right rfl).symm rfl rfl
        · rw [if_neg same, if_neg fun h => same h.1, kept]
    rw [State.holdBinding] at owner
    generalize State.evalLinesOf _ f.dest = after at *
    refine ⟨_, exec_request_of_ok onParts taking owner, ?_, held, lines, ?_⟩ <;> rw [frame] <;> rfl
  · exact exec_request_of_ok onParts taking (onHeld f held)
  · have owner := offHeld f held
    rw [State.releaseBinding] at owner
    obtain ⟨dests, lines, frame⟩ := ((s.atTake dt).setBinding b (.active f)).makeAwaiting_writes f.dest
    generalize ((s.atTake dt).setBinding b (.active f)).makeAwaiting f.dest = after at *
    refine ⟨_, exec_request_of_ok offParts taking owner, ?_, dests, lines, ?_⟩ <;> rw [frame] <;> rfl

end Sys2Proof.Machine
end

section
/-! PROOF. The expiries of a destination's timers (R103, R104, R109). -/

namespace Sys2Proof.Machine

open Sys2Proof

/-- The expiry of a running timer, at its moment (log entry 4). -/
theorem State.atExpiry_some (s : State) (e : Nat) (act : State → State) :
    s.atExpiry (some e) act = act { s with time := max s.time (e * unitsPerTenth) } := rfl

theorem State.occur_of_awake {s : State} (awake : s.inReset = false) (act : State → State) : s.occur act = act s := by
  rw [State.occur, awake]
  rfl

/-- STALE is posted for the binding that feeds a destination (R104). -/
def State.postStale (s : State) (d : DestField) : State :=
  match s.feeder d with
  | some b => s.post .stale b.val
  | none => s

theorem State.postStale_frame (s : State) (d : DestField) :
    s.postStale d = { s with attention := (s.postStale d).attention } := by
  unfold State.postStale
  split <;> rfl

theorem State.goStale_eq (s : State) (d : DestField) :
    s.goStale d = ((s.postStale d).setDest d ((s.dest d).toStale s.tenths)).evalLinesOf d := by
  have feeder : (s.setDest d ((s.dest d).toStale s.tenths)).feeder d = s.feeder d := by
    rw [State.setDest_frame]
    rfl
  have swap (b : BindingId) (v : Destination) :
      (s.setDest d v).post .stale b.val = (s.post .stale b.val).setDest d v := by
    cases d <;> rfl
  unfold State.goStale State.postStale
  dsimp only
  rw [feeder]
  cases s.feeder d with
  | none => rfl
  | some b => exact congrArg (State.evalLinesOf · d) (swap b _)

theorem State.mem_postStale {s : State} {d : DestField}
    (one : ∀ b c, (s.binding b).feeds d = true → (s.binding c).feeds d = true → b = c) (c : Cause) :
    c ∈ (s.postStale d).attention ↔
      c ∈ s.attention ∨
        ∃ b : BindingId, (s.binding b).feeds d = true ∧ c = { kind := .stale, subject := b.val } := by
  unfold State.postStale
  cases found : s.feeder d with
  | none =>
    have unfed := List.find?_eq_none.mp found
    exact ⟨.inl, fun h => h.resolve_right fun ⟨b, feeds, _⟩ => unfed b (mem_allBindings b) feeds⟩
  | some b =>
    have feeds : (s.binding b).feeds d = true :=
      List.find?_some (p := fun b => (s.binding b).feeds d) found
    rw [State.mem_post]
    refine or_congr Iff.rfl ⟨fun same => ⟨b, feeds, same⟩, fun ⟨x, other, same⟩ => ?_⟩
    rw [same, one x b other feeds]

/-- A destination goes STALE at a moment (R104, R109). -/
theorem State.goStale_writes {s : State} {d : DestField}
    (one : ∀ b c, (s.binding b).feeds d = true → (s.binding c).feeds d = true → b = c) :
    let t := s.goStale d
    DestsBecome s t (fun x => if x = d then (s.dest d).toStale s.tenths else s.dest x) ∧ LinesReleased s t (· = d) ∧
      (∀ c, c ∈ t.attention ↔
        c ∈ s.attention ∨
          ∃ b : BindingId, (s.binding b).feeds d = true ∧ c = { kind := .stale, subject := b.val }) ∧
      t = { s with sections := t.sections, loops := t.loops, lines := t.lines, attention := t.attention } := by
  dsimp only
  rw [State.goStale_eq]
  have posted := State.mem_postStale one
  have stale := s.postStale_frame d
  generalize s.postStale d = u at *
  have same (e : DestField) : u.dest e = s.dest e := by
    rw [stale]
    cases e <;> rfl
  obtain ⟨dests, lines, frame⟩ := u.setDest_evalLinesOf d (v := (s.dest d).toStale s.tenths) DestStatus.noConfusion
  generalize State.evalLinesOf _ d = t at *
  refine ⟨?_, ?_, ?_, ?_⟩
  · have := dests.congr (w := fun x => if x = d then (s.dest d).toStale s.tenths else s.dest x) fun e => by rw [same]
    rw [stale] at this
    exact this
  · rw [stale] at lines
    exact lines
  · rw [frame]
    exact posted
  · rw [frame, stale]

/-- Settles O24: an expiry runs the time to its moment, and there the destination goes STALE or a window stops. -/
theorem destinationTimersExpire : Obligations.DestinationTimersExpire := by
  intro s d e awake one now stale goesStale
  have at_ (x : DestField) : ({ s with time := now } : State).dest x = s.dest x := by cases x <;> rfl
  have gone (command : Instr) (run : exec command s = .next (({ s with time := now } : State).goStale d)) :
      goesStale command := by
    obtain ⟨dests, lines, causes, frame⟩ := State.goStale_writes (s := { s with time := now }) (d := d) one
    generalize ({ s with time := now } : State).goStale d = t at *
    have written := dests.congr (w := fun x => if x = d then stale else s.dest x) fun x => by
      rw [at_, at_]
      rfl
    exact ⟨t, run, written, lines, causes, frame⟩
  refine ⟨fun timer => gone _ ?_, fun timer => gone _ ?_, fun timer => ?_⟩
  · show Host.Outcome.next (s.occur fun s => s.atExpiry (s.dest d).freshTimer fun s => s.goStale d) = _
    rw [State.occur_of_awake awake, timer, State.atExpiry_some]
  · show Host.Outcome.next (s.occur fun s => s.atExpiry (s.dest d).holdTimer fun s => s.goStale d) = _
    rw [State.occur_of_awake awake, timer, State.atExpiry_some]
  · have run : exec (.combiningWindowExpiry d) s =
        .next (({ s with time := now } : State).setDest d { s.dest d with combineTimer := none }) := by
      show Host.Outcome.next (s.occur fun s => s.expireWindow d) = _
      rw [State.occur_of_awake awake, State.expireWindow, timer, State.atExpiry_some, at_]
    refine ⟨_, run, .of_shape _ _ _ (fun x => ?_) (State.setDest_sec_shape _ d _) (State.setDest_loopRec_shape _ d _),
      State.setDest_frame _ d _⟩
    rw [State.setDest_dest, at_]

end Sys2Proof.Machine
end

section
/-! PROOF. BIND: its checks in their order, its payload, and what it makes (R105, R106). -/

namespace Sys2Proof.Machine

open Sys2Proof

/-! ### The payload of BIND (R105) -/

theorem bindUndefined_iff (p : List Byte) :
    bindUndefined p = true ↔
      ∃ x ∈ [(3, 8), (4, 2), (6, if field8 p 4 = 0 then 3 else 4), (7, 2)],
        x.1 < p.length ∧ x.2 ≤ field8 p x.1 := by
  simp only [bindUndefined, fieldCodes, Bool.or_eq_true, undefinedCode_iff, List.mem_cons, List.not_mem_nil, or_false,
    exists_eq_or_imp, exists_eq_left, or_assoc]

/-- The destination a payload names, by its owner type and field code (R105). -/
theorem fieldDest_spec {p : List Byte} (owner : field8 p 4 < 2)
    (code : field8 p 6 < if field8 p 4 = 0 then 3 else 4) :
    ((if field8 p 4 = 0 then 24 else 4) ≤ field8 p 5 → fieldDest p = none) ∧
      ∀ d, fieldDest p = some d →
        (fieldKind d).code = ([[0, 1, 5], [2, 3, 4, 1]].getD (field8 p 4) []).getD (field8 p 6) 0 := by
  unfold fieldDest
  dsimp only
  generalize field8 p 4 = t at *
  generalize field8 p 6 = c at *
  obtain rfl | rfl : t = 0 ∨ t = 1 := by omega
  · refine ⟨fun beyond => dif_neg (Nat.not_lt.mpr beyond), fun d named => ?_⟩
    by_cases within : field8 p 5 < 24
    · rw [if_pos rfl, dif_pos within] at named
      obtain rfl | rfl | rfl : c = 0 ∨ c = 1 ∨ c = 2 := by
        simp only [if_true] at code
        omega
      all_goals
        cases named
        rfl
    · rw [if_pos rfl, dif_neg within] at named
      cases named
  · refine ⟨fun beyond => dif_neg (Nat.not_lt.mpr beyond), fun d named => ?_⟩
    by_cases within : field8 p 5 < 4
    · rw [if_neg Nat.one_ne_zero, dif_pos within] at named
      obtain rfl | rfl | rfl | rfl : c = 0 ∨ c = 1 ∨ c = 2 ∨ c = 3 := by
        simp only [Nat.one_ne_zero, if_false] at code
        omega
      all_goals
        cases named
        rfl
    · rw [if_neg Nat.one_ne_zero, dif_neg within] at named
      cases named

theorem bindDest_of_wrong {p : List Byte} (owner : field8 p 4 < 2)
    (code : field8 p 6 < if field8 p 4 = 0 then 3 else 4)
    (wrong : field8 p 0 ≠ ([[0, 1, 5], [2, 3, 4, 1]].getD (field8 p 4) []).getD (field8 p 6) 0 ∨ 15 < field8 p 2 ∨
      (if field8 p 4 = 0 then 24 else 4) ≤ field8 p 5) : bindDest p = none := by
  obtain ⟨beyond, kind⟩ := fieldDest_spec owner code
  unfold bindDest
  cases named : fieldDest p with
  | none => rfl
  | some d =>
    refine if_neg fun ⟨same, sub⟩ => ?_
    rcases wrong with other | large | out
    · exact other (same.trans (kind d named))
    · omega
    · rw [beyond out] at named
      cases named

/-- The payload of BIND that names a destination. -/
def bindPayload (d : DestField) (node sub care mode f1 f2 h1 h2 : Byte) : List Byte :=
  [BitVec.ofNat 8 (fieldKind d).code, node, sub, care] ++ putDest d ++ [mode, f1, f2, h1, h2]

theorem bindPayload_fields (d : DestField) (node sub care mode f1 f2 h1 h2 : Byte) :
    ∃ t i c : Byte,
      bindPayload d node sub care mode f1 f2 h1 h2 =
        [BitVec.ofNat 8 (fieldKind d).code, node, sub, care, t, i, c, mode, f1, f2, h1, h2] ∧
      t.toNat < 2 ∧ c.toNat < (if t.toNat = 0 then 3 else 4) ∧
      fieldDest [BitVec.ofNat 8 (fieldKind d).code, node, sub, care, t, i, c, mode, f1, f2, h1, h2] = some d := by
  have slot (n : Slot) : (BitVec.ofNat 8 n.val).toNat = n.val := indexByte_toNat n (by decide)
  have loop (l : LoopId) : (BitVec.ofNat 8 l.val).toNat = l.val := indexByte_toNat l (by decide)
  cases d <;> refine ⟨_, _, _, rfl, by decide, by decide, ?_⟩ <;>
    simp only [fieldDest, field8, List.getD_cons_succ, List.getD_cons_zero, slot, loop] <;>
    simp

theorem bindDest_of_payload {d : DestField} {node sub care mode f1 f2 h1 h2 t i c : Byte} (within : sub.toNat < 16)
    (named : fieldDest [BitVec.ofNat 8 (fieldKind d).code, node, sub, care, t, i, c, mode, f1, f2, h1, h2] = some d) :
    bindDest [BitVec.ofNat 8 (fieldKind d).code, node, sub, care, t, i, c, mode, f1, f2, h1, h2] = some d := by
  rw [bindDest, named]
  refine if_pos ⟨?_, Nat.le_of_lt_succ within⟩
  cases d <;> rfl

/-- The binding a payload of BIND carries (R105). -/
def bindMade (d : DestField) (node sub care mode f1 f2 h1 h2 : Byte) : Binding :=
  { kind := fieldKind d, node := node, sub := sub.toNat, careHigh := care.getLsbD 0, careLow := care.getLsbD 1,
    careSub := care.getLsbD 2, dest := d, combine := if mode = 0 then .replace else .lowest,
    freshLimit := clampNat 2 600 (be16 f1 f2), holdLimit := clampNat 60 3600 (be16 h1 h2) }

/-- The owner of BIND on a payload without undefined codes, its checks of the state in their order (R105). -/
theorem bindRequest_of_payload (b : BindingId) (s : State) {d : DestField} {node sub care mode f1 f2 h1 h2 : Byte}
    (within : sub.toNat < 16) (flags : care.toNat < 8) (modes : mode.toNat < 2) :
    bindRequest (indexByte b) (bindPayload d node sub care mode f1 f2 h1 h2) s =
      if (s.binding b).isHeld = true then .no .occupied
      else if s.outOfService d = true then .no .vacant
      else if s.fedByOther b d = true then .no .duplicateDest
      else
        .accept (s.bindTo b (bindMade d node sub care mode f1 f2 h1 h2))
          (doneStatus (clampNat 2 600 (be16 f1 f2) ≠ be16 f1 f2 ∨ clampNat 60 3600 (be16 h1 h2) ≠ be16 h1 h2)) [] := by
  obtain ⟨t, i, c, shape, owner, code, named⟩ := bindPayload_fields d node sub care mode f1 f2 h1 h2
  have dest := bindDest_of_payload within named
  rw [shape]
  have fields : bindFields [BitVec.ofNat 8 (fieldKind d).code, node, sub, care, t, i, c, mode, f1, f2, h1, h2] d =
      { value := bindMade d node sub care mode f1 f2 h1 h2
        changed := (clampField 2 600 (be16 f1 f2)).changed || (clampField 60 3600 (be16 h1 h2)).changed } := by
    have replace : (if mode.toNat = 0 then Combine.replace else .lowest) = if mode = 0 then .replace else .lowest :=
      if_congr (BitVec.toNat_inj (x := mode) (y := 0)) rfl rfl
    simp only [bindFields, bindMade, clampField_value, field8, field16_eq, List.getD_cons_succ, List.getD_cons_zero,
      replace]
  generalize bytes : [BitVec.ofNat 8 (fieldKind d).code, node, sub, care, t, i, c, mode, f1, f2, h1, h2] = p at *
  have length : p.length = 12 := by rw [← bytes]; rfl
  have defined : ¬ bindUndefined p = true := by
    have cares : field8 p 3 < 8 := by rw [← bytes]; exact flags
    have owners : field8 p 4 < 2 := by rw [← bytes]; exact owner
    have codes : field8 p 6 < if field8 p 4 = 0 then 3 else 4 := by rw [← bytes]; exact code
    have combines : field8 p 7 < 2 := by rw [← bytes]; exact modes
    rw [bindUndefined_iff]
    rintro ⟨x, member, -, undefined⟩
    simp only [List.mem_cons, List.not_mem_nil, or_false] at member
    rcases member with rfl | rfl | rfl | rfl <;> exact absurd undefined (Nat.not_le.mpr (by assumption))
  rw [bindRequest, onBinding_index, if_neg defined, if_neg (not_not.mpr length)]
  simp only [dest, fields]
  congr 3
  refine okClamped_eq _ _ _ ?_
  rw [Bool.or_eq_true, clampField_changed_iff, clampField_changed_iff]

/-! ### What BIND makes (R106) -/

theorem State.bindTo_writes {s : State} {b : BindingId} (free : ∀ f, s.binding b ≠ .held f) (f : Binding) :
    let t := s.bindTo b f
    t.bindings = tabSet s.bindings b (.active f) ∧
      DestsBecome s t
        (fun e => if e = f.dest ∨ (s.binding b).feeds e = true then .awaiting else s.dest e) ∧
      LinesReleased s t (fun e => e = f.dest ∨ (s.binding b).feeds e = true) ∧
      t.attention =
        (if s.binding b = .empty then s.attention
        else s.attention.filter fun c => !(c.kind == .stale && c.subject == b.val)) ∧
      t = { s with
            sections := t.sections, loops := t.loops, bindings := t.bindings, lines := t.lines,
            attention := t.attention } := by
  dsimp only
  cases bound : s.binding b with
  | empty =>
    have made : s.bindTo b f = (s.setBinding b (.active f)).makeAwaiting f.dest := by
      rw [State.bindTo, bound]
      rfl
    obtain ⟨dests, lines, frame⟩ := (s.setBinding b (.active f)).makeAwaiting_writes f.dest
    rw [made]
    generalize (s.setBinding b (.active f)).makeAwaiting f.dest = t at *
    have unfed (e : DestField) : BindingState.empty.feeds e = true ↔ False := ⟨Bool.noConfusion, False.elim⟩
    simp only [unfed, or_false, if_true]
    refine ⟨?_, dests, lines, ?_, ?_⟩ <;> rw [frame] <;> rfl
  | active old =>
    have made : s.bindTo b f =
        (((s.setBinding b (.active f)).dropStale b).makeAwaiting old.dest).makeAwaiting f.dest := by
      rw [State.bindTo, bound]
      rfl
    obtain ⟨dests, lines, frame⟩ := ((s.setBinding b (.active f)).dropStale b).makeAwaiting_writes old.dest
    rw [made]
    generalize ((s.setBinding b (.active f)).dropStale b).makeAwaiting old.dest = u at *
    obtain ⟨dests', lines', frame'⟩ := u.makeAwaiting_writes f.dest
    generalize u.makeAwaiting f.dest = t at *
    have fed (e : DestField) : (BindingState.active old).feeds e = true ↔ e = old.dest :=
      (beq_iff_eq (a := old.dest) (b := e)).trans eq_comm
    have occupied : BindingState.active old ≠ .empty := BindingState.noConfusion
    have both := (dests.trans dests').congr (w := fun e => if e = f.dest ∨ e = old.dest then .awaiting else s.dest e)
      fun e => by
        rw [dests.dest]
        by_cases new : e = f.dest
        · rw [if_pos new, if_pos (.inl new)]
        · rw [if_neg new]
          refine if_congr (or_iff_right new).symm rfl ?_
          cases e <;> rfl
    simp only [fed, if_neg occupied]
    refine ⟨?_, both, (lines.trans lines').congr fun e => or_comm, ?_, ?_⟩ <;> rw [frame', frame] <;> rfl
  | held f => exact absurd bound (free f)

/-- Settles O19: the checks of `bindRequest`, and `State.bindTo_writes` for what passes them. -/
theorem bindingsAreMade : Obligations.BindingsAreMade := by
  refine fun s dt b taking => ⟨fun j p beyond => ?_, fun p => ?_, fun d node sub care mode f1 f2 h1 h2 within flags modes => ?_⟩
  · refine exec_request_of_no rfl taking ?_
    show bindRequest j p (s.atTake dt) = _
    exact onBinding_beyond j beyond _
  · intro undefined kind wrong refused
    have refuse {status : Status} (verdict : bindRequest (indexByte b) p (s.atTake dt) = .no status) : refused status :=
      exec_request_of_no rfl taking verdict
    refine ⟨fun code => refuse ?_, fun codes length => refuse ?_, fun codes length out => refuse ?_⟩
    · rw [bindRequest, onBinding_index, if_pos ((bindUndefined_iff p).mpr code)]
    · rw [bindRequest, onBinding_index, if_neg (mt (bindUndefined_iff p).mp codes), if_pos length]
    · have owner : field8 p 4 < 2 := by
        by_contra h
        exact codes ⟨(4, 2), by simp, by show 4 < p.length; omega, Nat.not_lt.mp h⟩
      have code : field8 p 6 < if field8 p 4 = 0 then 3 else 4 := by
        by_contra h
        exact codes ⟨(6, if field8 p 4 = 0 then 3 else 4), by simp, by show 6 < p.length; omega, Nat.not_lt.mp h⟩
      rw [bindRequest, onBinding_index, if_neg (mt (bindUndefined_iff p).mp codes), if_neg (not_not.mpr length)]
      simp only [bindDest_of_wrong owner code out]
  · intro kind command fresh hold made held away fed
    have owner := bindRequest_of_payload b (s.atTake dt) (d := d) (node := node) (f1 := f1) (f2 := f2) (h1 := h1)
      (h2 := h2) within flags modes
    have holds : ((s.atTake dt).binding b).isHeld = true ↔ held := by
      show (s.binding b).isHeld = true ↔ ∃ f, s.binding b = .held f
      cases s.binding b <;> simp [BindingState.isHeld]
    have out : (s.atTake dt).outOfService d = true ↔ away := by
      show (match fieldSlot d with | some n => !(s.sec n).slot.inService | none => false) = true ↔
        ∃ n, fieldSlot d = some n ∧ (s.sec n).slot.inService = false
      cases fieldSlot d <;> simp
    have feeds : (s.atTake dt).fedByOther b d = true ↔ fed := by
      rw [← Bool.not_eq_false, State.fedByOther_eq_false]
      simp only [not_forall, Bool.not_eq_false, exists_prop]
      rfl
    have parts : requestParts command = some (32, dt, indexByte b, bindPayload d node sub care mode f1 f2 h1 h2) := rfl
    refine ⟨fun h => ?_, fun unheld h => ?_, fun unheld here h => ?_, fun unheld here alone => ?_⟩
    · exact exec_request_of_no parts taking (owner.trans (if_pos (holds.mpr h)))
    · exact exec_request_of_no parts taking
        (owner.trans ((if_neg (mt holds.mp unheld)).trans (if_pos (out.mpr h))))
    · exact exec_request_of_no parts taking
        (owner.trans ((if_neg (mt holds.mp unheld)).trans ((if_neg (mt out.mp here)).trans (if_pos (feeds.mpr h)))))
    · rw [if_neg (mt holds.mp unheld), if_neg (mt out.mp here), if_neg (mt feeds.mp alone)] at owner
      have written := (s.atTake dt).bindTo_writes (b := b) (fun f same => unheld ⟨f, same⟩)
        (bindMade d node sub care mode f1 f2 h1 h2)
      dsimp only at written
      generalize (s.atTake dt).bindTo b (bindMade d node sub care mode f1 f2 h1 h2) = after at *
      obtain ⟨bindings, dests, lines, causes, frame⟩ := written
      refine ⟨_, exec_request_of_accept parts taking owner, bindings, dests, lines, causes, ?_⟩
      rw [frame]
      rfl

end Sys2Proof.Machine
end

section
/-! PROOF. NEXT ATTENTION and the pin of the attention set (R162, R165, R166). -/

namespace Sys2Proof.Machine

open Sys2Proof

/-- The order of the set: kind order, then subject (R166). -/
theorem Cause.key_lt_of_order {c d : Cause} (small : c.subject < 64)
    (order : c.kind.code < d.kind.code ∨ c.kind = d.kind ∧ c.subject < d.subject) : c.key < d.key := by
  unfold Cause.key
  rcases order with kinds | ⟨same, subjects⟩
  · omega
  · rw [same]
    omega

/-- The first pair of an ordered list that satisfies a test is at or before each that does. -/
theorem find?_key_le {l : List Cause} (ordered : l.Pairwise fun a b => a.key < b.key) {p : Cause → Bool} {c x : Cause}
    (member : c ∈ l) (holds : p c = true) (found : l.find? p = some x) : x = c ∨ x.key < c.key := by
  obtain ⟨-, before, after, rfl, none⟩ := List.find?_eq_some_iff_append.mp found
  rcases List.mem_append.mp member with early | late
  · have := none c early
    rw [holds] at this
    cases this
  · rcases List.mem_cons.mp late with rfl | late
    · exact .inl rfl
    · exact .inr (List.rel_of_pairwise_cons (List.pairwise_append.mp ordered).2.1 late)

theorem State.firstCause_eq {s : State} (kept : s.attentionKept) {c : Cause} (member : c ∈ s.attention)
    (first : ∀ d ∈ s.attention, d ≠ c →
      (s.levelOf c.kind = .high ∧ s.levelOf d.kind = .low) ∨
        s.levelOf c.kind = s.levelOf d.kind ∧
          (c.kind.code < d.kind.code ∨ c.kind = d.kind ∧ c.subject < d.subject)) :
    s.firstCause = some c := by
  obtain ⟨ordered, subjects⟩ := kept
  have small : c.subject < 64 := by
    have := subjects c member
    have := c.kind.subjects_le
    omega
  have before {d : Cause} (listed : d ∈ s.attention) (other : d ≠ c) (level : s.levelOf d.kind = s.levelOf c.kind) :
      c.key < d.key := by
    rcases first d listed other with ⟨high, low⟩ | ⟨-, order⟩
    · rw [level, high] at low
      cases low
    · exact Cause.key_lt_of_order small order
  unfold State.firstCause
  cases high : s.levelOf c.kind with
  | high =>
    cases found : s.attention.find? fun d : Cause => s.levelOf d.kind == .high with
    | none => exact absurd (beq_iff_eq.mpr high) (List.find?_eq_none.mp found c member)
    | some x =>
      have level : s.levelOf x.kind = .high :=
        beq_iff_eq.mp (List.find?_some (p := fun d : Cause => s.levelOf d.kind == .high) found)
      have isHigh : (fun d : Cause => s.levelOf d.kind == .high) c = true := beq_iff_eq.mpr high
      rcases find?_key_le ordered member isHigh found with rfl | earlier
      · rfl
      · by_cases same : x = c
        · rw [same]
        · have := before (List.mem_of_find?_eq_some found) same (level.trans high.symm)
          omega
  | low =>
    have none : (s.attention.find? fun d : Cause => s.levelOf d.kind == .high) = none :=
      List.find?_eq_none.mpr fun d listed isHigh => by
        have level := beq_iff_eq.mp isHigh
        by_cases same : d = c
        · rw [same, high] at level
          cases level
        · rcases first d listed same with ⟨other, -⟩ | ⟨equal, -⟩
          · rw [high] at other
            cases other
          · rw [high, level] at equal
            cases equal
    rw [none]
    dsimp only
    cases list : s.attention with
    | nil =>
      rw [list] at member
      cases member
    | cons d rest =>
      by_cases same : d = c
      · rw [same]
        rfl
      · have listed : d ∈ s.attention := by
          rw [list]
          exact List.mem_cons_self
        have level : s.levelOf d.kind = s.levelOf c.kind := by
          rcases first d listed same with ⟨other, -⟩ | ⟨equal, -⟩
          · rw [high] at other
            cases other
          · exact equal.symm
        have late := before listed same level
        rw [list] at ordered member
        have tail : c ∈ rest := (List.mem_cons.mp member).resolve_left fun eq => same eq.symm
        have := List.rel_of_pairwise_cons ordered tail
        omega

/-- Taking a member out of a list without repeats leaves one fewer. -/
theorem length_filter_ne {l : List Cause} (nodup : l.Nodup) {c : Cause} (member : c ∈ l) :
    (l.filter fun d => !(d == c)).length = l.length - 1 := by
  have erased : l.erase c = l.filter fun d => !(d == c) := nodup.erase_eq_filter c
  rw [← erased, List.length_erase_of_mem member]

theorem nextAttentionRequest_of_some {s : State} {c : Cause} (first : s.firstCause = some c) :
    nextAttentionRequest 0 [] s =
      .answer (s.dropCauses (· == c))
        (put8 c.kind.code ++ put8 c.subject ++ put8 (s.levelOf c.kind).code ++
          put8 (s.dropCauses (· == c)).attention.length) := by
  simp [nextAttentionRequest, first]

theorem nextAttentionRequest_of_none {s : State} (empty : s.firstCause = none) :
    nextAttentionRequest 0 [] s = .answer (s.drawFree 1) (put8 0 ++ put8 0 ++ [s.freeByte 0] ++ put8 0) := by
  simp [nextAttentionRequest, empty]

/-- Settles O46: the cause before all others is `State.firstCause`. -/
theorem nextAttentionTakesTheFirstCause : Obligations.NextAttentionTakesTheFirstCause := by
  refine ⟨rfl, fun s => ?_, fun s dt taking kept => ⟨fun j p other => ?_, fun p some => ?_, fun empty => ?_,
    fun c member first => ?_⟩⟩
  · unfold State.attentionPin
    cases s.inReset <;> cases s.attention <;> simp
  · exact exec_request_of_no rfl taking (if_pos fun zero => other (BitVec.toNat_inj.mp zero))
  · refine exec_request_of_no rfl taking ((if_neg (by decide)).trans (if_pos ?_))
    simpa using some
  · have none : (s.atTake dt).firstCause = none := by
      show State.firstCause { s.atTake dt with attention := s.attention } = none
      rw [empty]
      rfl
    refine ⟨(s.atTake dt).freeByte 0, ?_⟩
    rw [exec_request_of_taking rfl taking]
    show Host.Outcome.next ((s.atTake dt).take 80 (nextAttentionRequest 0 [] (s.atTake dt))) = _
    rw [nextAttentionRequest_of_none none]
    rfl
  · have found : (s.atTake dt).firstCause = some c := State.firstCause_eq (s := s.atTake dt) kept member first
    have distinct : s.attention.Nodup := kept.1.imp fun less same => by
      rw [same] at less
      exact absurd less (Nat.lt_irrefl _)
    have left : (((s.atTake dt).dropCauses (· == c)).attention).length = s.attention.length - 1 :=
      length_filter_ne distinct member
    have others : ((s.atTake dt).dropCauses (· == c)).attention = s.attention.filter (· ≠ c) :=
      List.filter_congr fun d _ => by
        show (!(d == c)) = decide (¬ d = c)
        rw [beq_eq_decide, decide_not]
    have level : put8 ((s.atTake dt).levelOf c.kind).code = [if s.levelOf c.kind = .high then 0 else 1] := by
      show put8 (s.levelOf c.kind).code = _
      cases s.levelOf c.kind <;> rfl
    rw [exec_request_of_taking rfl taking]
    show Host.Outcome.next ((s.atTake dt).take 80 (nextAttentionRequest 0 [] (s.atTake dt))) = _
    rw [nextAttentionRequest_of_some found, left, level, ← others]
    rfl

end Sys2Proof.Machine
end

section
/-! PROOF. PART CONFIGURE (R119, R126, R127). -/

namespace Sys2Proof.Machine

open Sys2Proof

theorem bigEndian_three (v : Nat) : bigEndian 3 v = put8 (v / 65536) ++ put16 v := by
  simp [bigEndian, put16, put8]

theorem DriveConfig.bytes_eq (d : DriveConfig) :
    d.bytes =
      layout
        [(1, d.fanPrescale.val), (1, d.pumpPrescale.val), (1, [Machine.Alignment.left, .centre].idxOf d.fanAlign),
          (1, [Machine.Alignment.left, .centre].idxOf d.pumpAlign), (1, d.fanPeriod), (3, d.fanLow.toNat),
          (1, d.pumpLow.toNat)] := by
  have code (a : Alignment) : a.code = [Machine.Alignment.left, .centre].idxOf a := by cases a <;> rfl
  simp only [DriveConfig.bytes, putMask, code, layout_cons, layout_nil, bigEndian_one, bigEndian_three, List.append_assoc,
    List.append_nil]

theorem driveUndefined_iff (p : List Byte) :
    driveUndefined p = true ↔
      ∃ x ∈ [(0, 8), (1, 8), (2, 2), (3, 2), (8, 16)], x.1 < p.length ∧ x.2 ≤ field8 p x.1 := by
  simp only [driveUndefined, Bool.or_eq_true, undefinedCode_iff, List.mem_cons, List.not_mem_nil, or_false,
    exists_eq_or_imp, exists_eq_left, or_assoc]

theorem State.enrolledSlots_nonempty (s : State) :
    (!s.enrolledSlots.isEmpty) = true ↔ ∃ n, (s.sec n).slot ≠ .vacant := by
  rw [Bool.not_eq_true', ← Bool.not_eq_true, State.enrolledSlots_isEmpty]
  exact not_forall

/-- A mask field is the three bytes at its place. -/
theorem fieldMask_eq (p : List Byte) (i : Nat) :
    fieldMask p i = p.getD i 0 ++ p.getD (i + 1) 0 ++ p.getD (i + 2) 0 := by
  apply BitVec.eq_of_toNat_eq
  have high := (p.getD i 0).isLt
  have middle := (p.getD (i + 1) 0).isLt
  have low := (p.getD (i + 2) 0).isLt
  simp only [fieldMask, field8, field16_eq, be16, BitVec.toNat_ofNat, Nat.add_assoc, Nat.reduceAdd]
  rw [BitVec.toNat_append, BitVec.toNat_append]
  rw [← Nat.shiftLeft_add_eq_or_of_lt low, ← Nat.shiftLeft_add_eq_or_of_lt middle]
  simp only [Nat.shiftLeft_eq]
  omega

/-- A mask of three bytes is written as these bytes. -/
theorem putMask_append (m1 m2 m3 : Byte) : putMask (m1 ++ m2 ++ m3) = [m1, m2, m3] := by
  have value : (m1 ++ m2 ++ m3 : BitVec 24).toNat = (m1.toNat * 256 + m2.toNat) * 256 + m3.toNat := by
    rw [BitVec.toNat_append, BitVec.toNat_append, ← Nat.shiftLeft_add_eq_or_of_lt m3.isLt,
      ← Nat.shiftLeft_add_eq_or_of_lt m2.isLt]
    simp only [Nat.shiftLeft_eq]
  have := m2.isLt
  have := m3.isLt
  have first : BitVec.ofNat 8 (((m1.toNat * 256 + m2.toNat) * 256 + m3.toNat) / 65536) = m1 := by
    apply BitVec.eq_of_toNat_eq
    rw [BitVec.toNat_ofNat]
    omega
  have second : BitVec.ofNat 8 (((m1.toNat * 256 + m2.toNat) * 256 + m3.toNat) / 256) = m2 := by
    apply BitVec.eq_of_toNat_eq
    rw [BitVec.toNat_ofNat]
    omega
  have third : BitVec.ofNat 8 ((m1.toNat * 256 + m2.toNat) * 256 + m3.toNat) = m3 := by
    apply BitVec.eq_of_toNat_eq
    rw [BitVec.toNat_ofNat]
    omega
  simp only [putMask, put16, put8, value, first, second, third, List.cons_append, List.nil_append]

theorem put8_toNat (b : Byte) : put8 b.toNat = [b] := by
  rw [put8, BitVec.ofNat_toNat, BitVec.setWidth_eq]

theorem alignmentOfCode_toNat (b : Byte) : alignmentOfCode b.toNat = if b = 0 then .left else .centre := by
  rcases eq_or_ne b 0 with zero | other
  · rw [zero]; rfl
  · have : b.toNat ≠ 0 := fun zero => other (BitVec.toNat_inj.mp zero)
    rw [if_neg other]
    exact if_neg this

theorem Alignment.code_alignmentOfCode {n : Nat} (defined : n < 2) : (alignmentOfCode n).code = n := by
  rcases n with _ | _ | n
  · rfl
  · rfl
  · omega

/-- The configuration a payload of defined codes carries. -/
theorem fieldDrive_eq (fp pp fa pa period m1 m2 m3 pl : Byte) :
    fieldDrive [fp, pp, fa, pa, period, m1, m2, m3, pl] =
      { fanPrescale := ⟨fp.toNat % 8, Nat.mod_lt _ (by decide)⟩
        pumpPrescale := ⟨pp.toNat % 8, Nat.mod_lt _ (by decide)⟩
        fanAlign := if fa = 0 then .left else .centre
        pumpAlign := if pa = 0 then .left else .centre
        fanPeriod := period.toNat
        fanLow := m1 ++ m2 ++ m3
        pumpLow := pl.setWidth 4 } := by
  rw [← alignmentOfCode_toNat, ← alignmentOfCode_toNat, fieldDrive, fieldMask_eq]
  rfl

/-- A configuration of defined codes is written as the payload that carries it. -/
theorem fieldDrive_bytes {fp pp fa pa pl : Byte} (period m1 m2 m3 : Byte) (fans : fp.toNat < 8) (pumps : pp.toNat < 8)
    (fanAlign : fa.toNat < 2) (pumpAlign : pa.toNat < 2) (polarity : pl.toNat < 16) :
    (fieldDrive [fp, pp, fa, pa, period, m1, m2, m3, pl]).bytes = [fp, pp, fa, pa, period, m1, m2, m3, pl] := by
  have pumpLow : (pl.setWidth 4).toNat = pl.toNat := by
    rw [BitVec.toNat_setWidth]
    exact Nat.mod_eq_of_lt polarity
  rw [fieldDrive_eq, ← alignmentOfCode_toNat, ← alignmentOfCode_toNat]
  simp only [DriveConfig.bytes, Nat.mod_eq_of_lt fans, Nat.mod_eq_of_lt pumps, Alignment.code_alignmentOfCode fanAlign,
    Alignment.code_alignmentOfCode pumpAlign, pumpLow, put8_toNat, putMask_append, List.cons_append, List.nil_append]

/-- An enabled channel at a period boundary, with its output (R121, R124, R125). -/
theorem Channel.boundary_drive_eq {c : Channel} (enabled : c.enabled = true) (activeLow : Bool) :
    c.boundary.drive activeLow =
      { c with
        counter := 0, direction := .up, periodInForce := c.stagedPeriod,
        dutyInForce := if c.stagedPeriod = 0 then 0 else c.stagedDuty,
        compareInForce := compareOf c.stagedDuty c.stagedPeriod,
        output :=
          if compareOf c.stagedDuty c.stagedPeriod = 0 then idleLevel activeLow else activeLevel activeLow } := by
  have fresh := congrArg Channel.output (Channel.enable_eq c.stagedDuty c.stagedPeriod activeLow)
  have same : (c.boundary.drive activeLow).output = (Channel.enable c.stagedDuty c.stagedPeriod activeLow).output := by
    simp only [Channel.drive, Channel.boundary, Channel.enable, Channel.level, Channel.isActive, enabled]
  rw [fresh] at same
  simp only [Channel.drive] at same ⊢
  rw [same]
  rfl

@[simp] theorem State.configure_drive (s : State) (c : DriveConfig) : (s.configure c).drive = c := by
  have fans : (allSlots.foldl State.configureFan { s with drive := c }).drive = c :=
    foldl_keeps State.drive _ State.configureFan_drive _ _
  exact (foldl_keeps State.drive _ State.configurePump_drive _ _).trans fans

theorem State.configure_frame (s : State) (c : DriveConfig) :
    s.configure c = { s with drive := c, fans := (s.configure c).fans, pumps := (s.configure c).pumps } := by
  apply State.eq_of_fields <;> simp
  simp only [State.rest]

theorem partConfigure_refused {s : State} (dt : Nat) (taking : s.taking) {j : Byte} {p : List Byte} {status : Status}
    (verdict : partConfigureRequest j p (s.atTake dt) = .refuse status s.drive.bytes) :
    exec (.partConfigure dt j p) s = .next (s.answered dt 97 status s.drive.bytes) := by
  have parts : requestParts (.partConfigure dt j p) = some (97, dt, j, p) := rfl
  rw [exec_request_of_taking parts taking]
  show Host.Outcome.next ((s.atTake dt).take 97 (partConfigureRequest j p (s.atTake dt))) = _
  rw [verdict]
  rfl

/-- Settles O35: the checks of `partConfigureRequest`, and `State.configure` channel by channel. -/
theorem partConfigureSetsTheDrives : Obligations.PartConfigureSetsTheDrives := by
  intro s dt taking
  refine ⟨fun j p other => ?_, fun p => ⟨fun undefined => ?_, fun defined length => ?_, fun defined length used => ?_⟩,
    fun fp pp fa pa period m1 m2 m3 pl fans pumps fanAlign pumpAlign polarity vacant => ?_⟩
  · rw [← DriveConfig.bytes_eq]
    exact partConfigure_refused dt taking (if_pos fun zero => other (BitVec.toNat_inj.mp zero))
  · rw [← DriveConfig.bytes_eq]
    exact partConfigure_refused dt taking ((if_neg (by decide)).trans (if_pos ((driveUndefined_iff p).mpr undefined)))
  · rw [← DriveConfig.bytes_eq]
    exact partConfigure_refused dt taking ((if_neg (by decide)).trans
      ((if_neg (mt (driveUndefined_iff p).mp defined)).trans (if_pos length)))
  · rw [← DriveConfig.bytes_eq]
    exact partConfigure_refused dt taking ((if_neg (by decide)).trans
      ((if_neg (mt (driveUndefined_iff p).mp defined)).trans
        ((if_neg (not_not.mpr length)).trans (if_pos ((State.enrolledSlots_nonempty (s.atTake dt)).mpr used)))))
  · have defined : ¬ driveUndefined [fp, pp, fa, pa, period, m1, m2, m3, pl] = true := by
      rw [driveUndefined_iff]
      simp only [List.mem_cons, List.not_mem_nil, or_false, exists_eq_or_imp, exists_eq_left, field8,
        List.getD_cons_succ, List.getD_cons_zero]
      omega
    have idle : ¬ (!(s.atTake dt).enrolledSlots.isEmpty) = true := by
      rw [State.enrolledSlots_nonempty]
      exact fun ⟨n, used⟩ => used (vacant n)
    have verdict : partConfigureRequest 0 [fp, pp, fa, pa, period, m1, m2, m3, pl] (s.atTake dt) =
        .answer ((s.atTake dt).configure (fieldDrive [fp, pp, fa, pa, period, m1, m2, m3, pl]))
          (fieldDrive [fp, pp, fa, pa, period, m1, m2, m3, pl]).bytes :=
      (if_neg (by decide)).trans ((if_neg defined).trans ((if_neg (not_not.mpr rfl)).trans (if_neg idle)))
    have parts : requestParts (.partConfigure dt 0 [fp, pp, fa, pa, period, m1, m2, m3, pl]) =
      some (97, dt, 0, [fp, pp, fa, pa, period, m1, m2, m3, pl]) := rfl
    have taken := exec_request_of_taking parts taking
    rw [show requestOwner 97 0 [fp, pp, fa, pa, period, m1, m2, m3, pl] (s.atTake dt) = _ from verdict,
      fieldDrive_bytes period m1 m2 m3 fans pumps fanAlign pumpAlign polarity, fieldDrive_eq] at taken
    have fan (n : Slot) := State.configure_fan (s.atTake dt) (fieldDrive [fp, pp, fa, pa, period, m1, m2, m3, pl]) n
    have pump (l : LoopId) :=
      State.configure_pump (s.atTake dt) (fieldDrive [fp, pp, fa, pa, period, m1, m2, m3, pl]) l
    have drive := State.configure_drive (s.atTake dt) (fieldDrive [fp, pp, fa, pa, period, m1, m2, m3, pl])
    have frame := State.configure_frame (s.atTake dt) (fieldDrive [fp, pp, fa, pa, period, m1, m2, m3, pl])
    rw [fieldDrive_eq] at fan pump drive frame
    have polarityBit (l : LoopId) : (pl.setWidth 4).getLsbD l.val = pl.getLsbD l.val := by
      rw [BitVec.getLsbD_setWidth, decide_eq_true l.isLt, Bool.true_and]
    clear verdict
    generalize (s.atTake dt).configure _ = after at *
    refine ⟨_, taken, ?_, ?_, ?_, ?_, ?_, ?_, ?_, fan, fun l => (pump l).trans ?_, ?_⟩
    · show after.drive.fanPrescale.val = _
      rw [drive]
      exact Nat.mod_eq_of_lt fans
    · show after.drive.pumpPrescale.val = _
      rw [drive]
      exact Nat.mod_eq_of_lt pumps
    · show after.drive.fanAlign = _
      rw [drive]
    · show after.drive.pumpAlign = _
      rw [drive]
    · show after.drive.fanPeriod = _
      rw [drive]
    · show after.drive.fanLow = _
      rw [drive]
    · show after.drive.pumpLow = _
      rw [drive]
    · simp only [State.pumpActiveLow, polarityBit, State.atTake_pump]
      by_cases enabled : (s.pump l).enabled = true
      · rw [if_pos enabled, Channel.boundary_drive_eq enabled, if_pos enabled]
      · rw [if_neg enabled, if_neg enabled]
    · rw [frame]
      rfl

end Sys2Proof.Machine
end

section
/-! PROOF. The clear lines (R156 to R159). -/

namespace Sys2Proof.Machine

open Sys2Proof

theorem SectionRecord.safe_iff (r : SectionRecord) :
    r.safe = true ↔
      r.slot = .live ∧ (r.protection = .normal ∨ r.protection = .watch) ∧ r.mark = .none ∧
        r.outlet.status = .fresh ∧ r.outlet.stored.map (·.quality) = some .ok := by
  simp only [SectionRecord.safe, Bool.and_eq_true, Bool.or_eq_true, beq_iff_eq, and_assoc]

theorem State.maskSafe_iff (s : State) (mask : BitVec 24) :
    s.maskSafe mask = true ↔
      mask ≠ 0 ∧ ∀ n, mask.getLsbD (Fin.val n) = true →
        (s.sec n).slot = .live ∧ ((s.sec n).protection = .normal ∨ (s.sec n).protection = .watch) ∧
          (s.sec n).mark = .none ∧ (s.sec n).outlet.status = .fresh ∧
          (s.sec n).outlet.stored.map (·.quality) = some .ok := by
  rw [State.maskSafe, Bool.and_eq_true, bne_iff_ne, maskSlots_all]
  simp only [SectionRecord.safe_iff]

theorem delaySeconds_eq (code : Fin 8) : delaySeconds code = [0, 5, 10, 20, 40, 80, 160, 320].getD code.val 0 := by
  revert code
  decide

/-- A line evaluated, its condition before it read from the line (R158, log entry 21). -/
theorem ClearLine.act_eq (c : ClearLine) (holds : Bool) (expiry : Nat) :
    c.act holds expiry =
      if holds then
        if c.state = .asserted ∨ c.timer ≠ none then c
        else if c.delayCode = 0 then { c with state := .asserted }
        else { c with timer := some expiry }
      else { c with state := .released, timer := none } := by
  have before : c.wasTrue = true ↔ c.state = .asserted ∨ c.timer ≠ none := by
    rw [ClearLine.wasTrue, Bool.or_eq_true, beq_iff_eq, Option.isSome_iff_ne_none]
  simp only [ClearLine.act, before]

/-- The new line of CLEAR LINE SET, evaluated from RELEASED. -/
theorem State.setLine_line_self (s : State) (k : LineId) (mask : BitVec 24) (code : Fin 8) :
    (s.setLine k mask code).line k =
      ({ mask := mask, delayCode := code, timer := none, state := .released } : ClearLine).act (s.maskSafe mask)
        (s.expiryIn (delaySeconds code)) := by
  rw [State.setLine, State.evalLine_line, if_pos rfl, State.modLine_line_self]
  rfl

theorem State.evalLine_frame (s : State) (k : LineId) :
    s.evalLine k = { s with lines := tabSet s.lines k ((s.evalLine k).line k) } := by
  rw [State.evalLine_line, if_pos rfl]
  rfl

theorem State.setLine_frame (s : State) (k : LineId) (mask : BitVec 24) (code : Fin 8) :
    s.setLine k mask code = { s with lines := tabSet s.lines k ((s.setLine k mask code).line k) } := by
  refine (State.evalLine_frame _ k).trans ?_
  show { s with lines := tabSet (tabSet s.lines k _) k _ } = _
  rw [tabSet_tabSet]
  rfl

/-- CLEAR LINE SET of a line with a payload of its length and a defined code. -/
theorem clearLineSetRequest_index {s : State} (k : LineId) (m1 m2 m3 : Byte) {code : Byte} (defined : code.toNat < 8) :
    clearLineSetRequest (indexByte k) [m1, m2, m3, code] s =
      if (maskSlots (m1 ++ m2 ++ m3)).any fun n => !(s.sec n).slot.inService then .no .vacant
      else .ok (s.setLine k (m1 ++ m2 ++ m3) ⟨code.toNat % 8, Nat.mod_lt _ (by decide)⟩) := by
  have known : undefinedCode [m1, m2, m3, code] 3 8 = false := undefinedCode_of_lt _ 3 8 code rfl defined
  rw [clearLineSetRequest, onLine_index, if_neg (Bool.eq_false_iff.mp known), if_neg fun wrong : [m1, m2, m3, code].length ≠ 4 => wrong rfl,
    fieldMask_eq]
  rfl

theorem clearLineSet_refused {s : State} {dt : Nat} (taking : s.taking) {j : Byte} {p : List Byte} {status : Status}
    (verdict : clearLineSetRequest j p (s.atTake dt) = .no status) :
    exec (.clearLineSet dt j p) s = .next (s.answered dt 48 status []) :=
  exec_request_of_no rfl taking verdict

/-- Settles O44: every line evaluated is `ClearLine.act`, and CLEAR LINE SET evaluates a fresh line. -/
theorem clearLinesFollowTheirCondition : Obligations.ClearLinesFollowTheirCondition := by
  refine ⟨fun s k => ⟨s.maskSafe_iff, fun j other => ?_, ?_, fun e awake running => ?_⟩, fun s dt k taking =>
    ⟨fun j p beyond => ?_, fun p => ⟨fun reaches undefined => ?_, fun length defined => ?_⟩⟩,
    fun s dt k m1 m2 m3 code taking defined => ⟨fun ⟨n, member, out⟩ => ?_, fun members => ?_⟩⟩
  · rw [State.evalLine_line, if_neg (Ne.symm other)]
  · rw [State.evalLine_line, if_pos rfl, ClearLine.act_eq, State.expiryIn, delaySeconds_eq]
    rfl
  · show Host.Outcome.next (s.occur fun s => s.expireDelay k) = _
    rw [State.occur_of_awake awake, State.expireDelay, running, State.atExpiry_some]
    rfl
  · exact clearLineSet_refused taking (onLine_beyond j beyond _)
  · refine clearLineSet_refused taking ?_
    rw [clearLineSetRequest, onLine_index, if_pos ((undefinedCode_iff p 3 8).mpr ⟨reaches, undefined⟩)]
  · refine clearLineSet_refused taking ?_
    rw [clearLineSetRequest, onLine_index, if_neg (mt (undefinedCode_iff p 3 8).mp defined), if_pos length]
  · refine clearLineSet_refused taking ((clearLineSetRequest_index k m1 m2 m3 defined).trans (if_pos ?_))
    exact List.any_eq_true.mpr ⟨n, List.mem_filter.mpr ⟨mem_allSlots n, member⟩, by
      rw [State.atTake_sec, out]
      rfl⟩
  · have inService : ¬ ((maskSlots (m1 ++ m2 ++ m3)).any fun n => !((s.atTake dt).sec n).slot.inService) = true := by
      rw [Bool.not_eq_true, maskSlots_any_not _ fun n => ((s.atTake dt).sec n).slot.inService]
      exact members
    have verdict := (clearLineSetRequest_index (s := s.atTake dt) k m1 m2 m3 defined).trans (if_neg inService)
    have zero : code = 0 ↔ (⟨code.toNat % 8, Nat.mod_lt _ (by decide)⟩ : Fin 8) = 0 := by
      rw [← BitVec.toNat_inj, Fin.ext_iff]
      show code.toNat = 0 ↔ code.toNat % 8 = 0
      omega
    have same : (⟨code.toNat % 8, Nat.mod_lt _ (by decide)⟩ : Fin 8).val = code.toNat := Nat.mod_eq_of_lt defined
    generalize (⟨code.toNat % 8, Nat.mod_lt _ (by decide)⟩ : Fin 8) = c at *
    have line := (s.atTake dt).setLine_line_self k (m1 ++ m2 ++ m3) c
    have frame := (s.atTake dt).setLine_frame k (m1 ++ m2 ++ m3) c
    have expiry : (s.atTake dt).expiryIn (delaySeconds c) =
        (s.time + dt) / unitsPerTenth + 10 * [0, 5, 10, 20, 40, 80, 160, 320].getD code.toNat 0 := by
      rw [State.expiryIn, delaySeconds_eq, same]
      rfl
    have safe : (s.atTake dt).maskSafe (m1 ++ m2 ++ m3) = s.maskSafe (m1 ++ m2 ++ m3) := rfl
    rw [ClearLine.act_eq, expiry, safe] at line
    have parts : requestParts (.clearLineSet dt (indexByte k) [m1, m2, m3, code]) =
      some (48, dt, indexByte k, [m1, m2, m3, code]) := rfl
    have run := exec_request_of_accept parts taking verdict
    generalize (s.atTake dt).setLine k (m1 ++ m2 ++ m3) c = after at *
    refine ⟨_, run, ?_, ?_, fun unsafe_ => ?_, fun isSafe none => ?_, fun isSafe some => ?_, ?_⟩
    · show (after.line k).mask = _
      rw [line]
      split_ifs <;> rfl
    · show (after.line k).delayCode.val = _
      rw [line, ← same]
      split_ifs <;> rfl
    · show (after.line k).state = _ ∧ (after.line k).timer = _
      rw [line, unsafe_]
      exact ⟨rfl, rfl⟩
    · show (after.line k).state = _ ∧ (after.line k).timer = _
      rw [line, if_pos isSafe, if_pos (zero.mp none)]
      exact ⟨rfl, rfl⟩
    · show (after.line k).state = _ ∧ (after.line k).timer = _
      rw [line, if_pos isSafe, if_neg (mt zero.mpr some)]
      exact ⟨rfl, rfl⟩
    · show after.putReply _ = { s.answered dt 48 .done [] with lines := tabSet s.lines k (after.line k) }
      generalize after.line k = v at frame ⊢
      rw [frame]
      rfl

end Sys2Proof.Machine
end

section
/-! PROOF. RESET_N and the output pins. -/

namespace Sys2Proof.Machine

open Sys2Proof

/-! ### Commands while RESET_N is low -/

/-- The state with other input levels: what a command can change while RESET_N is held low. -/
def State.withInputs (s : State) (time : Nat) (stopLow : Bool) (link : LinkPhase) : State :=
  { s with time := time, stopLow := stopLow, link := link }

theorem State.event_of_asleep {s : State} (asleep : s.inReset = true) (dt : Nat) (act : State → State) :
    s.event dt act = s := if_pos asleep

theorem State.occur_of_asleep {s : State} (asleep : s.inReset = true) (act : State → State) :
    s.occur act = s := if_pos asleep

theorem State.endTransaction_of_asleep {s : State} (asleep : s.inReset = true) (dt : Nat) (judge : State → State) :
    ∃ link, (s.advance dt).endTransaction judge = s.withInputs (s.time + dt) s.stopLow link := by
  have still : (s.advance dt).inReset = true := asleep
  unfold State.endTransaction
  split
  · exact ⟨.idle, rfl⟩
  · exact ⟨.idle, rfl⟩
  · exact ⟨s.link, if_pos still⟩
  · exact ⟨s.link, if_pos still⟩

theorem exec_of_asleep {s : State} (asleep : s.inReset = true) {c : Instr} (running : ∀ a b d, c ≠ .powerOn a b d)
    (low : c ≠ .pinReset) (again : c ≠ .resetInputAssertion) :
    ∃ time stopLow link, exec c s = .next (s.withInputs time stopLow link) := by
  cases found : requestParts c with
  | some parts =>
    obtain ⟨k, dt, j, p⟩ := parts
    obtain ⟨link, ends⟩ := State.endTransaction_of_asleep asleep dt fun s => s.take k (requestOwner k j p s)
    exact ⟨_, _, _, (exec_of_requestParts found s).trans (congrArg _ ends)⟩
  | none =>
    have event {act : State → State} {dt : Nat} (run : exec c s = .next (s.event dt act)) :
        ∃ time stopLow link, exec c s = .next (s.withInputs time stopLow link) :=
      ⟨s.time, s.stopLow, s.link, run.trans (congrArg _ (State.event_of_asleep asleep dt act))⟩
    have occur {act : State → State} (run : exec c s = .next (s.occur act)) :
        ∃ time stopLow link, exec c s = .next (s.withInputs time stopLow link) :=
      ⟨s.time, s.stopLow, s.link, run.trans (congrArg _ (State.occur_of_asleep asleep act))⟩
    cases c with
    | powerOn a b d => exact absurd rfl (running a b d)
    | pinReset => exact absurd rfl low
    | resetInputAssertion => exact absurd rfl again
    | transactionBegin dt =>
      have still : (s.advance dt).inReset = true := asleep
      show ∃ time stopLow link, Host.Outcome.next (s.advance dt).beginTransaction = _
      unfold State.beginTransaction
      split
      · rw [if_pos still]
        exact ⟨s.time + dt, s.stopLow, .ignored, rfl⟩
      · exact ⟨s.time + dt, s.stopLow, s.link, rfl⟩
      · exact ⟨s.time + dt, s.stopLow, s.link, rfl⟩
    | brokenTransaction dt bytes extra =>
      show ∃ time stopLow link,
        Host.Outcome.next (if bytes.length = 64 ∧ extra = 0 then s else (s.advance dt).endBroken bytes) = _
      split
      · exact ⟨s.time, s.stopLow, s.link, rfl⟩
      · obtain ⟨link, ends⟩ := State.endTransaction_of_asleep asleep dt _
        exact ⟨_, _, _, congrArg _ ends⟩
    | frameRefused dt frame =>
      show ∃ time stopLow link,
        Host.Outcome.next (if frame.length = 64 then (s.advance dt).endRefused frame else s) = _
      split
      · unfold State.endRefused
        split
        · obtain ⟨link, ends⟩ := State.endTransaction_of_asleep asleep dt _
          exact ⟨_, _, _, congrArg _ ends⟩
        · exact ⟨s.time + dt, s.stopLow, s.link, rfl⟩
      · exact ⟨s.time, s.stopLow, s.link, rfl⟩
    | notReadyTransactionEnd dt =>
      show ∃ time stopLow link, Host.Outcome.next (s.endUnjudged dt) = _
      unfold State.endUnjudged
      split
      · exact ⟨s.time + dt, s.stopLow, .idle, rfl⟩
      · exact ⟨s.time + dt, s.stopLow, .idle, rfl⟩
      · exact ⟨s.time, s.stopLow, s.link, rfl⟩
      · exact ⟨s.time, s.stopLow, s.link, rfl⟩
    | stopAssertion dt => exact ⟨s.time, true, s.link, congrArg Host.Outcome.next (if_pos asleep)⟩
    | stopRelease dt => exact ⟨s.time, false, s.link, congrArg Host.Outcome.next (if_pos asleep)⟩
    | transmissionEnd dt readBack =>
      refine ⟨s.time, s.stopLow, s.link, congrArg Host.Outcome.next ?_⟩
      split
      · exact State.event_of_asleep asleep dt _
      · rfl
    | fragmentEnd | transmissionBegin | evaluationTake | periodBoundary | channelClockTick => exact event rfl
    | replyReady | evaluationTimerExpiry | refreshTimerExpiry | freshnessExpiry | combiningWindowExpiry | holdExpiry
    | fanRampExpiry | pumpRampExpiry | leakWindowExpiry | delayTimerExpiry | settleTimerExpiry
    | settleDeadlineExpiry | observeTimerExpiry | restTimerExpiry | restDeadlineExpiry => exact occur rfl
    | _ => exact nomatch found

/-! ### The falling edge of RESET_N -/

theorem State.assertReset_inReset (s : State) : s.assertReset.inReset = true := by
  show (s.resetPin.assert != .released) = true
  cases s.resetPin <;> rfl

theorem State.assertReset_fan (s : State) (n : Slot) :
    s.assertReset.fan n = { s.fan n with gen := { (s.fan n).gen with output := .low } } :=
  tabGet_map ..

theorem State.assertReset_pump (s : State) (l : LoopId) : s.assertReset.pump l = { s.pump l with output := .low } :=
  tabGet_map ..

theorem LinkPhase.abandoned_eq (link : LinkPhase) : link.abandoned = if link = .idle then .idle else .ignored := by
  cases link <;> rfl

/-- Settles O53. -/
theorem resetInputHoldsThePart : Obligations.ResetInputHoldsThePart := by
  intro s
  refine ⟨fun asleep => ?_, fun awake => ?_, ⟨rfl, rfl, rfl, rfl⟩, ⟨fun _ => rfl, fun _ => rfl⟩, fun c low => ?_, ?_,
    fun asleep c running low => ?_⟩
  · refine ⟨fun n => ?_, fun l => ?_, fun k => ?_, ?_, ?_, ?_⟩
    · simp only [State.fanPin, asleep, Bool.not_true, Bool.false_and, Bool.false_eq_true, if_false]
    · simp only [State.pumpPin, asleep, Bool.not_true, Bool.false_and, Bool.false_eq_true, if_false]
    · simp only [State.clearPin, asleep, Bool.not_true, Bool.false_and, Bool.false_eq_true, if_false]
    · simp only [State.attentionPin, asleep, Bool.not_true, Bool.false_and, Bool.false_eq_true, if_false]
    · unfold State.linkDriven
      cases s.link <;> simp only [asleep, Bool.not_true]
    · simp only [State.busDrivePin, asleep, Bool.not_true, Bool.false_and, Bool.false_eq_true, if_false]
  · refine ⟨fun n => ?_, fun l => ?_, fun k => ?_, ?_, fun i => ?_⟩
    · simp only [State.fanPin, awake, Bool.not_false, Bool.true_and, beq_iff_eq]
    · simp only [State.pumpPin, awake, Bool.not_false, Bool.true_and, beq_iff_eq]
    · simp only [State.clearPin, awake, Bool.not_false, Bool.true_and, beq_iff_eq]
    · unfold State.linkDriven
      cases s.link <;> simp [awake]
    · unfold State.shiftedOut
      cases s.link <;> simp only [awake, Bool.false_eq_true, if_false]
  · simp only [Channel.level, Channel.isActive, Bool.and_eq_true, Bool.or_eq_true, bne_iff_ne, decide_eq_true_eq,
      and_assoc]
  · exact ⟨s.assertReset, rfl, s.assertReset_inReset, s.assertReset_fan, s.assertReset_pump, s.link.abandoned_eq, rfl⟩
  · by_cases again : c = .resetInputAssertion
    · rw [again]
      refine ⟨s.assertReset, rfl, s.assertReset_inReset, fun n => ?_, fun l => ?_, rfl⟩
      · rw [State.assertReset_fan]
      · rw [State.assertReset_pump]
    · obtain ⟨time, stopLow, link, run⟩ := exec_of_asleep asleep running low again
      exact ⟨_, run, asleep, fun _ => rfl, fun _ => rfl, rfl⟩

end Sys2Proof.Machine
end

section
/-! PROOF. The release of the stop input (R134). -/

namespace Sys2Proof.Machine

open Sys2Proof

theorem fanCeiling_eq (r : SectionRecord) :
    fanCeiling r =
      if r.slot = .starting then r.active.defend
      else if r.slot = .live ∧ r.mark = .none then
        if r.protection = .normal then 255
        else if r.protection = .watch then r.active.watch
        else if r.protection = .defend then r.active.defend
        else 0
      else 0 := by
  unfold fanCeiling
  cases slot : r.slot with
  | live =>
    by_cases unmarked : r.mark = .none
    · cases r.protection <;> simp [Protection.ceiling, unmarked]
    · simp [unmarked]
  | _ => simp

/-- The pair of an even slot and the next one (R11, R12). -/
theorem State.gang_of_pair (s : State) {a b : Slot} (even : a.val % 2 = 0) (next : b.val = a.val + 1) :
    let formed :=
      (s.sec a).config.gangFlag = true ∧ ((s.sec a).slot = .starting ∨ (s.sec a).slot = .live) ∧
        ((s.sec b).slot = .starting ∨ (s.sec b).slot = .live)
    (s.gangFormed a = true ↔ formed) ∧ (s.gangFormed b = true ↔ formed) ∧
      s.partner a = (if formed then some b else none) ∧ s.partner b = (if formed then some a else none) := by
  intro formed
  have leads : leadOf a = a ∧ leadOf b = a :=
    ⟨Fin.ext (by show a.val - a.val % 2 = a.val; omega), Fin.ext (by show b.val - b.val % 2 = a.val; omega)⟩
  have followers : followerOf a = b ∧ followerOf b = b :=
    ⟨Fin.ext (by show a.val - a.val % 2 + 1 = b.val; omega), Fin.ext (by show b.val - b.val % 2 + 1 = b.val; omega)⟩
  have neighbours : neighbourOf a = b ∧ neighbourOf b = a := by
    refine ⟨(if_pos even).trans followers.1, (if_neg ?_).trans leads.2⟩
    omega
  have service (x : SlotState) : x.inService = true ↔ x = .starting ∨ x = .live := by cases x <;> simp [SlotState.inService]
  have first : s.gangFormed a = true ↔ formed := by
    rw [State.gangFormed, leads.1, followers.1, Bool.and_eq_true, Bool.and_eq_true, service, service, and_assoc]
  have second : s.gangFormed b = true ↔ formed := by
    rw [State.gangFormed, leads.2, followers.2, Bool.and_eq_true, Bool.and_eq_true, service, service, and_assoc]
  refine ⟨first, second, ?_, ?_⟩
  · simp only [State.partner, neighbours.1, first]
  · simp only [State.partner, neighbours.2, second]

theorem foldl_restageEnabled_frame (l : List Slot) (s : State) :
    l.foldl State.restageEnabled s = { s with fans := (l.foldl State.restageEnabled s).fans } := by
  induction l generalizing s with
  | nil => rfl
  | cons n l ih =>
    rw [List.foldl_cons, ih]
    unfold State.restageEnabled
    split
    · rw [State.restage_frame]
    · rfl

theorem State.releaseStop_eq (s : State) :
    s.releaseStop = (allSlots.foldl State.restageEnabled { s with stopLow := false }).decidePumps := rfl

theorem State.releaseStop_frame (s : State) :
    s.releaseStop = { s with stopLow := false, fans := s.releaseStop.fans, pumps := s.releaseStop.pumps } := by
  rw [State.releaseStop_eq, State.decidePumps_frame, foldl_restageEnabled_frame]

/-- The pump of a SET loop is decided without the stop input (R82, R134). -/
theorem State.releaseStop_pump (s : State) (l : LoopId) :
    s.releaseStop.pump l =
      if (s.loopRec l).isSet then
        { s.pump l with stagedDuty := max (s.loopRec l).ramp (s.pumpFloor l) }
      else s.pump l := by
  rw [State.releaseStop_eq, State.decidePumps_pump, foldl_restageEnabled_frame]
  rfl

/-- An enabled fan hands on what its own staged duty and its partner's make of it (R131, R134). -/
theorem State.releaseStop_handed (s : State) {n : Slot} (enabled : (s.fan n).gen.enabled = true) :
    (s.releaseStop.fan n).gen.stagedDuty =
      match s.partner n with
      | none => (s.releaseStop.fan n).ownStaged
      | some p => min (s.releaseStop.fan n).ownStaged (s.releaseStop.fan p).ownStaged := by
  have hands : (allSlots.foldl State.restageEnabled { s with stopLow := false }).handsOwn n :=
    foldl_restageEnabled_handsOwn allSlots _ n (.inl ⟨mem_allSlots n, enabled⟩)
  rw [foldl_restageEnabled_frame] at hands
  rw [State.releaseStop_eq]
  simp only [State.decidePumps_fan]
  rw [foldl_restageEnabled_frame]
  exact hands

theorem State.releaseStop_fan (s : State) (n : Slot) :
    (s.releaseStop.fan n).ownStaged =
        (if (s.fan n).gen.enabled = true then min (s.fan n).ramp (fanCeiling (s.sec n)) else (s.fan n).ownStaged) ∧
      s.releaseStop.fan n =
        { s.fan n with
          ownStaged := (s.releaseStop.fan n).ownStaged
          gen := { (s.fan n).gen with stagedDuty := (s.releaseStop.fan n).gen.stagedDuty } } := by
  obtain ⟨own, shape⟩ := foldl_restageEnabled_fan allSlots { s with stopLow := false } n
  rw [State.releaseStop_eq, State.decidePumps_fan]
  exact ⟨own.trans (if_congr (and_iff_right (mem_allSlots n)) rfl rfl), shape⟩

/-- Settles O34. -/
theorem stopRelease : Obligations.StopRelease := by
  refine ⟨fanCeiling_eq, fun s a b even next => s.gang_of_pair even next, fun s dt awake low => ?_⟩
  have run : exec (.stopRelease dt) s = .next (s.advance dt).releaseStop := by
    show Host.Outcome.next
      (if s.inReset then { s with stopLow := false } else if s.stopLow then (s.advance dt).releaseStop else s) = _
    rw [awake, low]
    rfl
  have pump := (s.advance dt).releaseStop_pump
  have fan := (s.advance dt).releaseStop_fan
  have handed (n : Slot) := State.releaseStop_handed (s.advance dt) (n := n)
  have frame := (s.advance dt).releaseStop_frame
  generalize (s.advance dt).releaseStop = t at *
  refine ⟨t, run, ?_, fun l set => (pump l).trans (if_pos set), fun l unset => (pump l).trans (if_neg ?_),
    fun n enabled => ⟨?_, fun alone => ?_, fun p pair _ => ?_⟩, fun n => (fan n).2, ?_⟩
  · rw [frame]
  · exact Bool.eq_false_iff.mp unset
  · exact (fan n).1.trans (if_pos enabled)
  · have hands := handed n enabled
    rw [show (s.advance dt).partner n = none from alone] at hands
    exact hands
  · have hands := handed n enabled
    rw [show (s.advance dt).partner n = some p from pair] at hands
    exact hands
  · rw [frame]
    rfl

end Sys2Proof.Machine
end

section
/-! PROOF. The assertion of the stop input (R132, R133, R151). -/

namespace Sys2Proof.Machine

open Sys2Proof

/-! ### What a search that ends then leaves as the stop input left it -/

/-- A channel whose generator is handed 0 and whose own staged duty and R are 0. -/
def FanChannel.atRest (f : FanChannel) : Prop := f.ramp = 0 ∧ f.ownStaged = 0 ∧ f.gen.stagedDuty = 0

theorem FanChannel.restaged_self {f : FanChannel} {own duty : Nat} (same : own = f.ownStaged)
    (handed : duty = f.gen.stagedDuty) :
    ({ f with ownStaged := own, gen := { f.gen with stagedDuty := duty } } : FanChannel) = f := by
  rw [same, handed]

/-- A channel that the stop input holds at 0 restages to itself, whichever channel restages. -/
theorem State.restage_fan_of_atRest {s : State} {n : Slot} (stop : s.stopLow = true) (rest : (s.fan n).atRest)
    (m : Slot) : (s.restage m).fan n = s.fan n := by
  obtain ⟨ramp, own, staged⟩ := rest
  by_cases self : n = m
  · subst self
    rw [State.restage_fan_self, State.handed, if_pos stop]
    exact FanChannel.restaged_self (by rw [ramp, Nat.zero_min, own]) staged.symm
  · by_cases pair : s.partner m = some n
    · rw [State.restage_fan_partner s pair, if_pos stop]
      exact FanChannel.restaged_self (own := (s.fan n).ownStaged) rfl staged.symm
    · exact State.restage_fan_other s self pair

theorem State.setMark_fan_of_atRest {s : State} {n : Slot} (stop : s.stopLow = true) (rest : (s.fan n).atRest)
    (m : Mark) (k : Slot) : (s.setMark m k).fan n = s.fan n := by
  have restaged (u : State) (low : u.stopLow = true) (fan : u.fan n = s.fan n) : (u.restage k).fan n = s.fan n := by
    rw [State.restage_fan_of_atRest low (fan.symm ▸ rest), fan]
  unfold State.setMark
  dsimp only
  rw [State.evalLines_fan]
  split
  · exact restaged _ (by simp [stop]) (by simp)
  · exact restaged _ (by simp [stop]) (by simp)

theorem searchStable_atRest {n : Slot} {f : FanChannel} (rest : f.atRest) :
    SearchStable fun s => s.stopLow = true ∧ s.fan n = f where
  mark s m k := fun ⟨stop, fan⟩ => ⟨(s.setMark_stopLow m k).trans stop,
    (State.setMark_fan_of_atRest stop (fan.symm ▸ rest) m k).trans fan⟩
  context _ _ h := h
  post _ _ _ _ h := h
  window _ _ _ _ _ h := h

/-- A cleared record stays cleared: it has no valve node and no mark. -/
theorem State.endSearch_cleared {s : State} {n : Slot} (cleared : s.sec n = .cleared) (r : SearchResult) :
    (s.endSearch r).sec n = .cleared := by
  rw [State.endSearch_sec, State.release_sec, cleared]
  split <;> rfl

/-! ### The assertion on fans, pumps and records -/

/-- The part with the stop input asserted, before a probing search ends. -/
def State.stopped (s : State) : State :=
  ((allSlots.foldl State.stopFan { s with stopLow := true }).decidePumps).post .stop 0

theorem State.assertStop_eq (s : State) :
    s.assertStop = if s.search.state.probing then s.stopped.endSearch .halted else s.stopped := by
  have search : s.stopped.search = s.search := by
    rw [State.stopped, State.post_search, State.decidePumps_search, foldl_stopFan_frame]
  rw [← search]
  rfl

theorem State.stopped_frame (s : State) :
    s.stopped =
      { s with
        stopLow := true, sections := s.stopped.sections, fans := s.stopped.fans, pumps := s.stopped.pumps,
        attention := s.stopped.attention } := by
  have fans := foldl_stopFan_frame allSlots { s with stopLow := true }
  unfold State.stopped
  generalize allSlots.foldl State.stopFan { s with stopLow := true } = u at *
  have pumps := u.decidePumps_frame
  generalize u.decidePumps = v at *
  rw [pumps, fans]
  rfl

theorem State.stopped_sec (s : State) (n : Slot) : s.stopped.sec n = (s.sec n).stopped (s.fan n).gen.enabled := by
  rw [State.stopped, State.post_sec, State.decidePumps_sec]
  exact (foldl_stopFan_slot { s with stopLow := true } n).1

theorem State.stopped_fan (s : State) (n : Slot) :
    s.stopped.fan n = (s.fan n).stopped (s.sec n) s.drive (s.fanActiveLow n) := by
  rw [State.stopped, State.post_fan, State.decidePumps_fan]
  exact (foldl_stopFan_slot { s with stopLow := true } n).2

theorem State.stopped_pump (s : State) (l : LoopId) :
    s.stopped.pump l =
      if (s.loopRec l).isSet then { s.pump l with stagedDuty := (s.loopRec l).config.stopDuty } else s.pump l := by
  rw [State.stopped, State.post_pump, State.decidePumps_pump, foldl_stopFan_frame]
  rfl

theorem State.mem_stopped (s : State) (c : Cause) :
    c ∈ s.stopped.attention ↔ c ∈ s.attention ∨ c = { kind := .stop, subject := 0 } := by
  unfold State.stopped
  rw [State.mem_post, State.decidePumps_attention, foldl_stopFan_frame]

theorem FanChannel.stopped_of_enabled {f : FanChannel} (enabled : f.gen.enabled = true) {r : SectionRecord}
    (d : DriveConfig) (activeLow : Bool) :
    f.stopped r d activeLow =
      if r.slot = .retiring ∧ r.valveDrained = true then
        { gen := Channel.disable d.fanPeriod activeLow, ramp := 0, rampTimer := none, ownStaged := 0 }
      else
        { f with
          gen :=
            { f.gen with
              dutyInForce := 0, compareInForce := 0, stagedDuty := 0, output := idleLevel activeLow }
          ramp := 0
          ownStaged := 0 } := by
  rw [FanChannel.stopped, if_pos enabled, Channel.force_eq]

theorem FanChannel.stopped_atRest {f : FanChannel} (enabled : f.gen.enabled = true) (r : SectionRecord)
    (d : DriveConfig) (activeLow : Bool) : (f.stopped r d activeLow).atRest := by
  rw [FanChannel.stopped_of_enabled enabled]
  split <;> exact ⟨rfl, rfl, rfl⟩

theorem SectionRecord.stopped_of_not_retiring {r : SectionRecord} (slot : r.slot ≠ .retiring) (enabled : Bool) :
    r.stopped enabled = r := if_neg fun h => slot h.2

theorem SectionRecord.stopped_of_retiring {r : SectionRecord} (slot : r.slot = .retiring) :
    r.stopped true = if r.valveDrained then .cleared else { r with fanDrained := true } := if_pos ⟨rfl, slot⟩

/-- Settles O33: `State.stopped` is the part before a probing search ends, and the ending leaves every fan there. -/
theorem stopAssertion : Obligations.StopAssertion := by
  intro s dt awake high
  have run : exec (.stopAssertion dt) s = .next (s.advance dt).assertStop :=
    congrArg Host.Outcome.next ((if_neg (Bool.eq_false_iff.mp awake)).trans (if_neg (Bool.eq_false_iff.mp high)))
  rw [State.assertStop_eq] at run
  have sec : ∀ n, (s.advance dt).stopped.sec n = (s.sec n).stopped (s.fan n).gen.enabled := (s.advance dt).stopped_sec
  have fan : ∀ n, (s.advance dt).stopped.fan n = (s.fan n).stopped (s.sec n) s.drive (s.fanActiveLow n) :=
    (s.advance dt).stopped_fan
  have pump := (s.advance dt).stopped_pump
  have posted := (s.advance dt).mem_stopped
  have frame := (s.advance dt).stopped_frame
  generalize (s.advance dt).stopped = u at *
  have stop : u.stopLow = true := by rw [frame]
  have search : u.search = s.search := by rw [frame]; rfl
  have loops (l : LoopId) : u.loopRec l = s.loopRec l := by rw [frame]; rfl
  have atRest (n : Slot) (enabled : (s.fan n).gen.enabled = true) : (u.fan n).atRest := by
    rw [fan]
    exact FanChannel.stopped_atRest enabled ..
  have left : ∃ t, exec (.stopAssertion dt) s = .next t ∧ t.stopLow = true ∧
      (∀ c, c ∈ t.attention ↔
        c ∈ u.attention ∨ s.search.state.probing = true ∧ c = { kind := .searchEnd, subject := 0 }) ∧
      (∀ l, t.pump l = u.pump l) ∧ (∀ n, (s.fan n).gen.enabled = true → t.fan n = u.fan n) ∧
      (∀ n, (t.sec n).slot = (u.sec n).slot ∧ (t.sec n).fanDrained = (u.sec n).fanDrained) ∧
      (∀ n, u.sec n = .cleared → t.sec n = .cleared) ∧
      (s.search.state.probing = true → SearchEnded u t .halted) ∧ (s.search.state.probing = false → t = u) := by
    cases probing : s.search.state.probing with
    | false =>
      refine ⟨u, ?_, stop, fun c => (or_iff_left fun h => Bool.noConfusion h.1).symm, fun _ => rfl, fun _ _ => rfl,
        fun _ => ⟨rfl, rfl⟩, fun _ h => h, Bool.noConfusion, fun _ => rfl⟩
      exact run.trans (congrArg _ (if_neg (Bool.eq_false_iff.mp probing)))
    | true =>
      refine ⟨u.endSearch .halted, run.trans (congrArg _ (if_pos probing)), (u.endSearch_stopLow _).trans stop,
        fun c => ?_, fun l => u.endSearch_pump _ l, fun n enabled => ?_,
        fun n => ⟨State.endSearch_keeps SectionRecord.slot (fun _ _ _ => rfl) u _ n,
          State.endSearch_keeps SectionRecord.fanDrained (fun _ _ _ => rfl) u _ n⟩,
        fun n cleared => State.endSearch_cleared cleared _, fun _ => searchEnded_endSearch u .halted,
        fun h => Bool.noConfusion h⟩
      · rw [State.endSearch_attention, mem_insertCause, eq_self_iff_true, true_and]
      · exact ((searchStable_atRest (atRest n enabled)).endSearch u .halted ⟨stop, rfl⟩).2
  obtain ⟨t, run, low, causes, pumps, fans, slots, cleared, ended, same⟩ := left
  refine ⟨t, run, low, fun c => ?_, fun l => (pumps l).trans (pump l), fun n enabled slot => ?_, fun n enabled slot => ?_,
    fun probing => ?_, fun probing => ?_⟩
  · rw [causes, posted, or_assoc]
    rfl
  · rw [fans n enabled, fan, FanChannel.stopped_of_enabled enabled, if_neg fun h => slot h.1]
  · have fanIs := (fans n enabled).trans (fan n)
    rw [FanChannel.stopped_of_enabled enabled] at fanIs
    have secIs := sec n
    rw [enabled, SectionRecord.stopped_of_retiring slot] at secIs
    cases valve : (s.sec n).valveDrained with
    | true =>
      rw [valve] at secIs fanIs
      rw [if_pos ⟨slot, rfl⟩] at fanIs
      rw [if_pos rfl, fanIs]
      exact ⟨cleared n secIs, rfl, rfl⟩
    | false =>
      rw [valve] at secIs fanIs
      rw [if_neg fun h => Bool.noConfusion h.2] at fanIs
      obtain ⟨slotIs, drained⟩ := slots n
      rw [if_neg Bool.false_ne_true, slotIs, drained, secIs, fanIs]
      exact ⟨slot, rfl, rfl⟩
  · obtain ⟨idle, _, marks, opened, monitor⟩ := ended probing
    rw [search] at idle marks opened monitor
    refine ⟨idle, fun l loop => ?_, fun n member => ⟨(marks n).trans (if_pos member), fun slot node => ?_⟩⟩
    · have window := monitor l loop
      rw [loops] at window
      exact window
    · refine opened n member ?_
      rw [sec, SectionRecord.stopped_of_not_retiring slot]
      exact node
  · rw [same probing]
    refine ⟨fun n out => ?_, fun n enabled slot valve => ?_, fun n disabled => ?_, ?_⟩
    · rw [sec]
      exact if_neg fun h => out.elim (Bool.eq_false_iff.mp · h.1) fun other => other h.2
    · rw [sec, enabled, SectionRecord.stopped_of_retiring slot, if_neg (Bool.eq_false_iff.mp valve)]
    · rw [fan]
      exact if_neg (Bool.eq_false_iff.mp disabled)
    · rw [frame]
      rfl

end Sys2Proof.Machine
end

section
/-! PROOF. The evaluation and refresh timers of a section (R28, R30, R114, R116). -/

namespace Sys2Proof.Machine

open Sys2Proof

/-- A section without an entry gets one at the tail. -/
theorem postEntry_of_absent {n : Slot} (c : ValveCommand) {l : List QueueEntry} (absent : ∀ q ∈ l, q.slot ≠ n) :
    postEntry n c l = l ++ [{ slot := n, command := c }] := by
  induction l with
  | nil => rfl
  | cons e rest ih =>
    rw [postEntry, if_neg (absent e (List.mem_cons_self ..)), ih fun q member => absent q (.tail _ member)]
    rfl

/-- A section with an entry keeps the place of its first one. -/
theorem postEntry_of_present {n : Slot} (c : ValveCommand) {before : List QueueEntry} {q : QueueEntry}
    (after : List QueueEntry) (own : q.slot = n) (first : ∀ x ∈ before, x.slot ≠ n) :
    postEntry n c (before ++ q :: after) = before ++ { slot := n, command := c } :: after := by
  induction before with
  | nil => exact if_pos own
  | cons e rest ih =>
    rw [List.cons_append, postEntry, if_neg (first e (List.mem_cons_self ..)), ih fun x member => first x (.tail _ member)]
    rfl

theorem Mark.command_eq (m : Mark) : m.command = if m = .none then .toOpen else .toClosed := by
  cases m <;> rfl

/-- Settles O36. -/
theorem sectionTimersQueueTheirWork : Obligations.SectionTimersQueueTheirWork := by
  intro s n e awake now command posted
  refine ⟨fun running => ?_, fun running => ?_⟩
  · show Host.Outcome.next (s.occur fun s => s.expireEvaluation n) = _
    rw [State.occur_of_awake awake, State.expireEvaluation, running, State.atExpiry_some]
    rfl
  · have run : exec (.refreshTimerExpiry n) s =
        .next
          { s with
            time := now
            sections := tabSet s.sections n { s.sec n with refreshTimer := some (now / unitsPerTenth + 100) }
            txQueue := postEntry n (s.sec n).mark.command s.txQueue } := by
      show Host.Outcome.next (s.occur fun s => s.expireRefresh n) = _
      rw [State.occur_of_awake awake, State.expireRefresh, running, State.atExpiry_some]
      rfl
    rw [Mark.command_eq] at run
    refine ⟨_, run, fun absent => postEntry_of_absent command absent, fun before after q queue own first => ?_, rfl⟩
    show postEntry n command s.txQueue = _
    rw [queue]
    exact postEntry_of_present command after own first

end Sys2Proof.Machine
end

section
/-! PROOF. The ramps of fan and pump channels (R81, R82, R128, R129). -/

namespace Sys2Proof.Machine

open Sys2Proof

theorem nextRamp_eq (c : SectionConfig) (value target : Nat) :
    nextRamp c value target =
      if value < target then min target (value + c.riseStep)
      else if target < value then
        if c.lowering = .drop then target else max target (value - c.fallStep)
      else value := by
  unfold nextRamp
  cases c.lowering <;> rfl

/-- Settles O29. -/
theorem rampsFollowTheirTargets : Obligations.RampsFollowTheirTargets := by
  refine ⟨fun s n e awake running => ?_, fun s l e awake running set => ?_⟩
  · intro now c v target v' moved
    have run : exec (.fanRampExpiry n) s = .next (moved.restage n) := by
      show Host.Outcome.next (s.occur fun s => s.expireFanRamp n) = _
      have moves : v' = if s.stopLow then v else nextRamp c v target := by rw [nextRamp_eq]
      rw [State.occur_of_awake awake, State.expireFanRamp, running]
      show _ =
        Host.Outcome.next
          (State.restage
            { s with
              time := now
              fans := tabSet s.fans n { s.fan n with ramp := v', rampTimer := some (now + 3000000) } } n)
      rw [moves]
      rfl
    exact ⟨_, run, .of_restage moved _ moved n (fun _ => rfl) (moved.restage_sec n) (moved.restage_stopLow n)
      fun _ => rfl, moved.restage_frame n⟩
  · intro now r v floor
    let moved : State :=
      { s with time := now, loops := tabSet s.loops l { r with ramp := v, rampTimer := some (now + 3000000) } }
    have run : exec (.pumpRampExpiry l) s = .next (moved.decidePump l) := by
      show Host.Outcome.next (s.occur fun s => s.expirePumpRamp l) = _
      rw [State.occur_of_awake awake, State.expirePumpRamp, running]
      rfl
    have record : moved.loopRec l = { r with ramp := v, rampTimer := some (now + 3000000) } :=
      (tabGet_tabSet ..).trans (if_pos rfl)
    have isSet : (moved.loopRec l).isSet = true := by
      rw [record]
      exact set
    have duty : moved.pumpDuty l = if s.stopLow then r.config.stopDuty else max v floor := by
      rw [State.pumpDuty, State.pumpFloor, record]
      rfl
    rw [run, State.decidePump_eq isSet, duty]
    rfl

end Sys2Proof.Machine
end

section
/-! PROOF. Period boundaries (R26, R124, R125). -/

namespace Sys2Proof.Machine

open Sys2Proof

theorem State.event_of_awake {s : State} (awake : s.inReset = false) (dt : Nat) (act : State → State) :
    s.event dt act = act (s.advance dt) := if_neg (Bool.eq_false_iff.mp awake)

/-- A fan channel is written and its slot's fan drain condition judged (R26, R124). -/
theorem State.checkFanDrain_modFan (s : State) (n : Slot) (f : FanChannel) :
    (s.modFan n fun _ => f).checkFanDrain n =
      if (s.sec n).slot = .retiring ∧ f.gen.dutyInForce = 0 then
        if (s.sec n).valveDrained = true then
          { s with
            fans :=
              tabSet s.fans n
                { gen := .disable s.drive.fanPeriod (s.fanActiveLow n), ramp := 0, rampTimer := none, ownStaged := 0 }
            sections := tabSet s.sections n .cleared }
        else
          { s with
            fans := tabSet s.fans n f, sections := tabSet s.sections n { s.sec n with fanDrained := true } }
      else { s with fans := tabSet s.fans n f } := by
  rw [State.checkFanDrain_eq, State.modFan_fan_self, State.modFan_sec]
  have twice (g : FanChannel) : tabSet (tabSet s.fans n f) n g = tabSet s.fans n g := tabSet_tabSet ..
  rw [← twice]
  rfl

/-- Settles O30. -/
theorem boundariesTakeTheStagedValues : Obligations.BoundariesTakeTheStagedValues := by
  intro s dt awake compare taken
  have take {c : Channel} (enabled : c.enabled = true) (activeLow : Bool) : c.boundary.drive activeLow = taken c activeLow :=
    Channel.boundary_drive_eq enabled activeLow
  have run (c : ChannelRef) : exec (.periodBoundary dt c) s = .next ((s.advance dt).boundaryOf c) :=
    congrArg Host.Outcome.next (State.event_of_awake awake dt _)
  refine ⟨fun l enabled => ?_, fun n enabled => ?_, fun n disabled => ?_, fun l disabled => ?_⟩
  · rw [run, ← take enabled]
    exact congrArg Host.Outcome.next (if_pos enabled)
  · intro f r drains
    have boundary : (s.advance dt).boundaryOf (.fan n) = ((s.advance dt).modFan n fun _ => f).checkFanDrain n := by
      refine (if_pos enabled).trans ?_
      show State.checkFanDrain
        (State.modFan (s.advance dt) n fun _ =>
          { s.fan n with gen := (s.fan n).gen.boundary.drive (s.fanActiveLow n) }) n = _
      rw [take enabled]
    rw [run, boundary, State.checkFanDrain_modFan]
    refine congrArg Host.Outcome.next ?_
    by_cases retires : drains
    · refine (if_pos retires).trans ?_
      rw [if_pos retires]
      by_cases valve : r.valveDrained = true
      · refine (if_pos valve).trans ?_
        rw [if_pos valve, if_pos ⟨retires, valve⟩]
        rfl
      · refine (if_neg valve).trans ?_
        rw [if_neg valve, if_neg fun h => valve h.2]
        rfl
    · refine (if_neg retires).trans ?_
      rw [if_neg retires, if_neg fun h => retires h.1]
      rfl
  · rw [run]
    exact congrArg Host.Outcome.next (if_neg (Bool.eq_false_iff.mp disabled))
  · rw [run]
    exact congrArg Host.Outcome.next (if_neg (Bool.eq_false_iff.mp disabled))

end Sys2Proof.Machine
end

section
/-! PROOF. Ticks of the channel clocks (R118, R121, R122, R125). -/

namespace Sys2Proof.Machine

open Sys2Proof

/-- A tick comes at the first multiple of the interval from the moment on. -/
theorem tickMoment_spec {interval : Nat} (positive : 0 < interval) (moment : Nat) :
    tickMoment moment interval % interval = 0 ∧ moment ≤ tickMoment moment interval ∧
      tickMoment moment interval < moment + interval := by
  unfold tickMoment
  have split := Nat.div_add_mod (moment + interval - 1) interval
  have below := Nat.mod_lt (moment + interval - 1) positive
  rw [Nat.mul_comm] at split
  refine ⟨Nat.mul_mod_left _ _, ?_, ?_⟩ <;> omega

/-- The fan channel and the record of a slot after a tick of the fan clock (R26, R118). -/
def tickedFan (d : DriveConfig) (activeLow : Bool) (r : SectionRecord) (f : FanChannel) : SectionRecord × FanChannel :=
  let g := f.gen.tick d.fanAlign activeLow
  if f.gen.enabled = true ∧ f.gen.boundaryNext d.fanAlign = true ∧ r.slot = .retiring ∧ g.dutyInForce = 0 then
    if r.valveDrained = true then
      (.cleared, { gen := .disable d.fanPeriod activeLow, ramp := 0, rampTimer := none, ownStaged := 0 })
    else ({ r with fanDrained := true }, { f with gen := g })
  else (r, { f with gen := g })

theorem tabSet_tabGet {α : Type} {k : Nat} (v : Vector α k) (i : Fin k) : tabSet v i (tabGet v i) = v := by
  simp [tabSet, tabGet]

theorem State.tickFan_eq (s : State) (n : Slot) :
    s.tickFan n =
      { s with
        sections := tabSet s.sections n (tickedFan s.drive (s.fanActiveLow n) (s.sec n) (s.fan n)).1
        fans := tabSet s.fans n (tickedFan s.drive (s.fanActiveLow n) (s.sec n) (s.fan n)).2 } := by
  have kept : tabSet s.sections n (s.sec n) = s.sections := tabSet_tabGet ..
  have unfolded : s.tickFan n =
      if ((s.fan n).gen.enabled && (s.fan n).gen.boundaryNext s.drive.fanAlign) = true then
        (s.modFan n fun _ =>
          { s.fan n with gen := (s.fan n).gen.tick s.drive.fanAlign (s.fanActiveLow n) }).checkFanDrain n
      else
        s.modFan n fun _ => { s.fan n with gen := (s.fan n).gen.tick s.drive.fanAlign (s.fanActiveLow n) } := rfl
  rw [unfolded, State.checkFanDrain_modFan, tickedFan]
  by_cases due : (s.fan n).gen.enabled = true ∧ (s.fan n).gen.boundaryNext s.drive.fanAlign = true
  · rw [if_pos (by rw [due.1, due.2]; rfl)]
    by_cases drains : (s.sec n).slot = .retiring ∧
        ((s.fan n).gen.tick s.drive.fanAlign (s.fanActiveLow n)).dutyInForce = 0
    · have retires := And.intro due.1 (And.intro due.2 drains)
      by_cases valve : (s.sec n).valveDrained = true
      · simp only [if_pos drains, if_pos retires, if_pos valve]
      · simp only [if_pos drains, if_pos retires, if_neg valve]
    · simp only [if_neg drains, due.1, due.2, true_and, kept]
  · rw [if_neg (by rw [Bool.and_eq_true]; exact due)]
    simp only [← and_assoc, due, false_and, if_false, kept]
    rfl

theorem foldl_tickFan_frame (l : List Slot) (s : State) :
    l.foldl State.tickFan s =
      { s with sections := (l.foldl State.tickFan s).sections, fans := (l.foldl State.tickFan s).fans } := by
  induction l generalizing s with
  | nil => rfl
  | cons n l ih => rw [List.foldl_cons, ih, State.tickFan_eq]

theorem foldl_tickFan_slot (s : State) (n : Slot) :
    ((allSlots.foldl State.tickFan s).sec n, (allSlots.foldl State.tickFan s).fan n) =
      tickedFan s.drive (s.fanActiveLow n) (s.sec n) (s.fan n) := by
  have written (t : State) (i j : Slot) :
      ((t.tickFan i).sec j, (t.tickFan i).fan j) =
        if i = j then tickedFan t.drive (t.fanActiveLow i) (t.sec i) (t.fan i) else (t.sec j, t.fan j) := by
    rw [State.tickFan_eq]
    generalize tickedFan t.drive (t.fanActiveLow i) (t.sec i) (t.fan i) = x
    show (tabGet (tabSet t.sections i x.1) j, tabGet (tabSet t.fans i x.2) j) = _
    rw [tabGet_tabSet, tabGet_tabSet]
    split <;> rfl
  have h := foldl_pointwise (fun t n => (t.sec n, t.fan n)) State.tickFan
    (fun t i j other => (written t i j).trans (if_neg (Ne.symm other)))
    (fun t => t.drive = s.drive) (fun t i drive => by rw [State.tickFan_eq]; exact drive)
    (fun n x => tickedFan s.drive (s.fanActiveLow n) x.1 x.2)
    (fun t i drive => by
      rw [written, if_pos rfl, State.fanActiveLow, drive]
      rfl)
    allSlots nodup_allSlots s rfl n
  exact h.trans (if_pos (mem_allSlots n))

theorem foldl_tickPump_frame (l : List LoopId) (s : State) :
    l.foldl State.tickPump s = { s with pumps := (l.foldl State.tickPump s).pumps } := by
  induction l generalizing s with
  | nil => rfl
  | cons n l ih => rw [List.foldl_cons, ih]; rfl

theorem foldl_tickPump_pump (s : State) (l : LoopId) :
    (allLoops.foldl State.tickPump s).pump l = (s.pump l).tick s.drive.pumpAlign (s.pumpActiveLow l) := by
  have h := foldl_pointwise (fun t l => t.pump l) State.tickPump
    (fun t i j other => by rw [State.tickPump, State.modPump_pump, if_neg (Ne.symm other)])
    (fun t => t.drive = s.drive) (fun _ _ drive => drive)
    (fun l c => c.tick s.drive.pumpAlign (s.pumpActiveLow l))
    (fun t i drive => by
      rw [State.tickPump, State.modPump_pump, if_pos rfl, State.pumpActiveLow, drive]
      rfl)
    allLoops nodup_allLoops s rfl l
  exact h.trans (if_pos (mem_allLoops l))

/-- Settles O31. -/
theorem clockTicksReachTheirGroup : Obligations.ClockTicksReachTheirGroup := by
  intro s dt awake after
  have run (g : ClockGroup) : exec (.channelClockTick dt g) s =
      .next (((s.advance dt).runTo (tickMoment (s.time + dt) (s.tickInterval g))).tickGroup g) :=
    congrArg Host.Outcome.next (State.event_of_awake awake dt _)
  have moment (code : Fin 8) {t : State} (time : t.time = max (s.time + dt) (tickMoment (s.time + dt) (2 ^ code.val * 3))) :
      after t code := by
    obtain ⟨multiple, reached, next⟩ :=
      tickMoment_spec (Nat.mul_pos (Nat.two_pow_pos code.val) (by decide : 0 < 3)) (s.time + dt)
    rw [max_eq_right reached] at time
    show t.time % (3 * 2 ^ code.val) = 0 ∧ s.time + dt ≤ t.time ∧ t.time < s.time + dt + 3 * 2 ^ code.val
    rw [time, Nat.mul_comm 3]
    exact ⟨multiple, reached, next⟩
  refine ⟨?_, ?_⟩
  · let u := (s.advance dt).runTo (tickMoment (s.time + dt) (2 ^ s.drive.pumpPrescale.val * 3))
    have ticked (l : LoopId) :
        (allLoops.foldl State.tickPump u).pump l = (s.pump l).tick s.drive.pumpAlign (s.pumpActiveLow l) :=
      foldl_tickPump_pump u l
    have frame := foldl_tickPump_frame allLoops u
    have run : exec (.channelClockTick dt .pumps) s = .next (allLoops.foldl State.tickPump u) := run .pumps
    generalize allLoops.foldl State.tickPump u = t at *
    refine ⟨t, run, ?_, ticked, ?_⟩
    · refine moment _ ?_
      rw [frame]
      rfl
    · rw [frame]
      rfl
  · let u := (s.advance dt).runTo (tickMoment (s.time + dt) (2 ^ s.drive.fanPrescale.val * 3))
    have ticked (n : Slot) : ((allSlots.foldl State.tickFan u).sec n, (allSlots.foldl State.tickFan u).fan n) =
        tickedFan s.drive (s.fanActiveLow n) (s.sec n) (s.fan n) := foldl_tickFan_slot u n
    have frame := foldl_tickFan_frame allSlots u
    have run : exec (.channelClockTick dt .fans) s = .next (allSlots.foldl State.tickFan u) := run .fans
    generalize allSlots.foldl State.tickFan u = t at *
    refine ⟨t, run, ?_, fun n => ?_, ?_⟩
    · refine moment _ ?_
      rw [frame]
      rfl
    · intro g drains
      have slot := ticked n
      rw [tickedFan] at slot
      refine ⟨fun stays => ?_, fun retires open_ => ?_, fun retires closed => ?_⟩
      · obtain ⟨sec, fan⟩ := Prod.mk.inj (slot.trans (if_neg stays))
        exact ⟨fan, sec⟩
      · obtain ⟨sec, fan⟩ := Prod.mk.inj (slot.trans ((if_pos retires).trans (if_neg (Bool.eq_false_iff.mp open_))))
        exact ⟨fan, sec⟩
      · exact Prod.mk.inj (slot.trans ((if_pos retires).trans (if_pos closed)))
    · rw [frame]
      rfl

end Sys2Proof.Machine
end

section
/-! PROOF. The receiver: which fragments store nothing (R89, R93 to R96, R100). -/

namespace Sys2Proof.Machine

open Sys2Proof

/-! ### Which fragments hold nine characters to judge (R89, R90) -/

theorem decodeFragment_of_nine {chars : List BusChar} (stops : ∀ c ∈ chars, c.stopOk = true)
    (nine : chars.length = 9) : ∃ r, decodeFragment chars = some r := by
  match chars, nine with
  | [c0, c1, c2, c3, c4, c5, c6, c7, c8], _ => exact ⟨_, if_pos (List.all_eq_true.mpr stops)⟩

theorem decodeFragment_of_stop {chars : List BusChar} (stop : ∃ c ∈ chars, c.stopOk = false) :
    decodeFragment chars = none := by
  obtain ⟨c, member, missed⟩ := stop
  exact if_neg fun all => Bool.noConfusion (missed.symm.trans (List.all_eq_true.mp all c member))

theorem decodeFragment_of_length {chars : List BusChar} (other : chars.length ≠ 9) : decodeFragment chars = none := by
  unfold decodeFragment
  split
  · split
    · next bytes =>
      have := congrArg List.length bytes
      rw [List.length_map] at this
      exact absurd this other
    · rfl
  · rfl

theorem State.hears_iff (s : State) (chars : List BusChar) :
    s.hears chars = false ↔
      s.receiverSynced = false ∧
        s.time < 2 * unitsPerChar + ((chars.length + 2) * unitsPerChar + (chars.tail.map (·.pause)).sum) := by
  have span : fragmentSpan chars =
      2 * unitsPerChar + ((chars.length + 2) * unitsPerChar + (chars.tail.map (·.pause)).sum) := by
    unfold fragmentSpan
    ring
  rw [State.hears, Bool.or_eq_false_iff, decide_eq_false_iff_not, Nat.not_le, span]

/-! ### What a telegram that arrives leaves (R93, R96, R100) -/

theorem exec_fragmentEnd {s : State} (awake : s.inReset = false) (dt : Nat) (chars : List BusChar) :
    exec (.fragmentEnd dt chars) s = .next ((s.advance dt).endFragment chars) :=
  congrArg Host.Outcome.next (State.event_of_awake awake dt _)

theorem State.endFragment_of_unheard {s : State} {chars : List BusChar}
    (unheard : s.sending = true ∨ (∃ c ∈ chars, c.own = true) ∨ s.hears chars = false) : s.endFragment chars = s.gap := by
  refine if_pos ?_
  rw [Bool.or_eq_true, Bool.or_eq_true, List.any_eq_true, Bool.not_eq_true', or_assoc]
  exact unheard

theorem State.endFragment_of_undecoded {s : State} {chars : List BusChar}
    (undecoded : ∀ x, decodeFragment chars ≠ some (.ok x)) : s.endFragment chars = s.gap := by
  unfold State.endFragment
  split
  · rfl
  · split
    · next x decoded => exact absurd decoded (undecoded x)
    · rfl
    · rfl

/-- A reading that no binding takes up leaves the part as it was (R95, R100). -/
theorem State.deliver_of_untaken {s : State} {r : Reading}
    (untaken : r.quality ≠ .fault → ∀ b, (s.binding b).matchesReading r = false) : s.deliver r = s := by
  unfold State.deliver
  split
  · next b found =>
    split
    · next f _ =>
      have matched : (s.binding b).matchesReading r = true :=
        List.find?_some (p := fun b => (s.binding b).matchesReading r) found
      have fault : r.quality = .fault := by
        by_contra taken
        exact Bool.noConfusion (matched.symm.trans (untaken taken b))
      rw [State.deliverTo, fault]
    · rfl
  · rfl

theorem State.arrive_of_command (s : State) {x : Telegram} (command : x.command = true) : s.arrive x = s :=
  if_pos command

theorem State.arrive_of_untaken {s : State} {x : Telegram} (reading : x.command = false)
    (untaken : ∀ r, readingOf x = some r → r.quality ≠ .fault → ∀ b, (s.binding b).matchesReading r = false) :
    s.arrive x = s.markSeen x.node x.kind := by
  refine (if_neg (Bool.eq_false_iff.mp reading)).trans ?_
  dsimp only
  split
  · next r read => exact State.deliver_of_untaken (untaken r read)
  · rfl

/-- Settles O22. -/
theorem fragmentsThatStoreNothing : Obligations.FragmentsThatStoreNothing := by
  intro s dt chars awake quiet took dropped
  have gap : (s.advance dt).gap = quiet := rfl
  have deaf : (s.advance dt).hears chars = false ↔
      s.receiverSynced = false ∧ s.time + dt < 2 * unitsPerChar + took := (s.advance dt).hears_iff chars
  rw [exec_fragmentEnd awake, ← gap]
  refine ⟨fun drop => congrArg _ ?_, fun heard => ?_⟩
  · rcases drop with sending | own | early | stop | length | ⟨e, error⟩
    · exact State.endFragment_of_unheard (.inl sending)
    · exact State.endFragment_of_unheard (.inr (.inl own))
    · exact State.endFragment_of_unheard (.inr (.inr (deaf.mpr early)))
    · exact State.endFragment_of_undecoded fun x ok => nomatch (decodeFragment_of_stop stop).symm.trans ok
    · exact State.endFragment_of_undecoded fun x ok => nomatch (decodeFragment_of_length length).symm.trans ok
    · exact State.endFragment_of_undecoded fun x ok => by
        rw [error] at ok
        cases ok
  · simp only [dropped, not_or, not_exists, not_and, Bool.not_eq_true, not_not, Bool.not_eq_false] at heard
    obtain ⟨silent, others, synced, stops, nine, valid⟩ := heard
    have hears : (s.advance dt).hears chars = true :=
      Bool.of_not_eq_false fun unheard => synced (deaf.mp unheard).1 (deaf.mp unheard).2
    obtain ⟨judged, decoded⟩ := decodeFragment_of_nine stops nine
    cases judged with
    | error e => exact absurd decoded (valid e)
    | ok x =>
      have run := exec_fragmentEnd_of_telegram s dt chars x awake silent others hears decoded
      rw [exec_fragmentEnd awake] at run
      refine ⟨x, decoded, fun command => ?_, fun reading untaken => ⟨_, run, ?_⟩⟩
      · rw [run, State.arrive_of_command _ command]
      · rw [State.arrive_of_untaken (s := (s.advance dt).gap) reading untaken]
        rfl

end Sys2Proof.Machine
end

section
/-! PROOF. How a telegram is read and which binding it meets (R95, R99, R100, R102, R103). -/

namespace Sys2Proof.Machine

open Sys2Proof

/-! ### The reading of a telegram (R95) -/

theorem qualityOfCode_eq (q : BitVec 2) :
    qualityOfCode q = [ReadingQuality.ok, .suspect, .fault, .fault].getD q.toNat .fault := by
  unfold qualityOfCode
  match q.toNat, q.isLt with
  | 0, _ | 1, _ | 2, _ | 3, _ => rfl

theorem readingOf_eq (x : Telegram) :
    let v := x.value.toNat
    let near : Int := max (-5000) (min 8000 x.value.toInt)
    let read (kind : Kind) (value : Int) (quality : ReadingQuality) : Reading :=
      { node := x.node, kind := kind, sub := x.sub.toNat, value := value, quality := quality }
    let q := qualityOfCode x.quality
    readingOf x =
      [some (read .outlet near q), some (read .air near q), some (read .flow (min 65000 v : Nat) q),
        some (read .pressure (min 10000 v : Nat) q), some (read .concentration (min 600 v : Nat) q),
        some (read .valve v (if 3 < v then .fault else q)), none, none].getD x.kind.toNat none := by
  intro v near read q
  unfold readingOf kindOfCode
  match x.kind.toNat, x.kind.isLt with
  | 0, _ | 1, _ | 6, _ | 7, _ => rfl
  | 2, _ | 3, _ | 4, _ => simp [readValue, read, v, q]
  | 5, _ => simp [readValue, read, v, q]

/-! ### The binding it meets (R99, R100) -/

theorem Binding.covers_iff (f : Binding) (r : Reading) :
    f.covers r = true ↔
      r.kind = f.kind ∧ (f.careHigh = true → r.node.toNat / 16 = f.node.toNat / 16) ∧
        (f.careLow = true → r.node.toNat % 16 = f.node.toNat % 16) ∧ (f.careSub = true → r.sub = f.sub) := by
  have high : r.node.extractLsb' 4 4 = f.node.extractLsb' 4 4 ↔ r.node.toNat / 16 = f.node.toNat / 16 := by
    rw [← BitVec.toNat_inj, BitVec.extractLsb'_toNat, BitVec.extractLsb'_toNat]
    have := r.node.isLt
    have := f.node.isLt
    simp only [Nat.shiftRight_eq_div_pow]
    omega
  have low : r.node.extractLsb' 0 4 = f.node.extractLsb' 0 4 ↔ r.node.toNat % 16 = f.node.toNat % 16 := by
    rw [← BitVec.toNat_inj, BitVec.extractLsb'_toNat, BitVec.extractLsb'_toNat]
    rfl
  have care (flag : Bool) (same : Bool) : (!flag || same) = true ↔ (flag = true → same = true) := by
    cases flag <;> simp
  simp only [Binding.covers, Bool.and_eq_true, care, beq_iff_eq, high, low, and_assoc]

theorem BindingState.matchesReading_iff (b : BindingState) (r : Reading) :
    b.matchesReading r = true ↔ ∃ f, b = .active f ∧ f.covers r = true := by
  cases b <;> simp [BindingState.matchesReading]

/-- The first binding a reading matches is the lowest one. -/
theorem State.matchingBinding_eq {s : State} {r : Reading} {b : BindingId}
    (matched : (s.binding b).matchesReading r = true) (lowest : ∀ c < b, (s.binding c).matchesReading r = false) :
    s.matchingBinding r = some b := by
  obtain ⟨before, after, split⟩ := List.append_of_mem (mem_allBindings b)
  have ordered : allBindings.Pairwise (· < ·) := List.pairwise_lt_finRange 48
  rw [split, List.pairwise_append] at ordered
  refine List.find?_eq_some_iff_append.mpr ⟨matched, before, after, split, fun c member => ?_⟩
  rw [lowest c (ordered.2.2 c member b (List.mem_cons_self ..))]
  rfl

/-! ### What a capture leaves of its destination (R102, R103) -/

theorem Destination.capture_eq (d : Destination) (f : Binding) (value : Int) (q : Quality) (tenths : Nat) :
    d.capture f value q (BitVec.ofNat 32 tenths) (tenths + 10 * f.freshLimit) = d.captured f value q tenths := by
  have worse (old : Quality) : (if old = .suspect ∨ q = .suspect then Quality.suspect else .ok) =
      if old = .ok ∧ q = .ok then .ok else .suspect := by
    cases old <;> cases q <;> rfl
  unfold Destination.capture Destination.captured
  cases f.combine with
  | replace => rfl
  | lowest =>
    cases timer : d.combineTimer with
    | none => rfl
    | some w =>
      cases stored : d.stored with
      | none => rfl
      | some old => simp only [worse, Option.isSome_some, if_true]

/-- A delivered reading is captured: its mark is set, its destination written, and the hand-off made (R96, R100). -/
theorem exec_fragmentEnd_of_delivers {s : State} {dt : Nat} {chars : List BusChar} {b : BindingId} {f : Binding}
    {r : Reading} {q : Quality} (delivers : Delivers s dt chars b f r q) :
    ∃ seen, exec (.fragmentEnd dt chars) s =
      .next (({ s.atGap dt with seen := seen }.setDest f.dest (s.keeps dt f r q)).handOff f.dest r.value) := by
  obtain ⟨awake, silent, others, hears, ⟨x, valid, reading, read⟩, quality, active, covers, lowest⟩ := delivers
  refine ⟨(State.markSeen (s.atGap dt) x.node x.kind).seen, ?_⟩
  rw [exec_fragmentEnd_of_telegram s dt chars x awake silent others hears valid]
  refine congrArg Host.Outcome.next ((if_neg (Bool.eq_false_iff.mp reading)).trans ?_)
  dsimp only
  rw [read]
  have first : (State.markSeen (s.advance dt).gap x.node x.kind).matchingBinding r = some b :=
    State.matchingBinding_eq ((BindingState.matchesReading_iff _ r).mpr ⟨f, active, covers⟩) lowest
  have fields : ((State.markSeen (s.advance dt).gap x.node x.kind).binding b).fields = some f := by
    show (s.binding b).fields = some f
    rw [active]
    rfl
  have captured : (State.markSeen (s.advance dt).gap x.node x.kind).deliverTo f r =
      (State.markSeen (s.advance dt).gap x.node x.kind).capture f r.value q := by
    unfold State.deliverTo
    rcases quality with ⟨is, rfl⟩ | ⟨is, rfl⟩ <;> rw [is]
  show State.deliver _ r = _
  unfold State.deliver
  rw [first]
  dsimp only
  rw [fields]
  dsimp only
  rw [captured, State.capture, State.keeps, ← Destination.capture_eq]
  have same : (State.markSeen (s.advance dt).gap x.node x.kind).dest f.dest = s.dest f.dest := by
    cases f.dest <;> rfl
  rw [same]
  rfl

end Sys2Proof.Machine
end

section
/-! PROOF. The capture of a reading and its hand-off (R10, R28, R29, R85, R102, R141). -/

namespace Sys2Proof.Machine

open Sys2Proof

/-! ### What no hand-off writes: the destination fields -/

theorem searchStable_dests (v : DestField → Destination) : SearchStable fun s : State => ∀ e, s.dest e = v e where
  mark s m n h e := by
    rw [← h e]
    cases e <;> simp only [State.dest, State.setMark_sec, State.setMark_loopRec] <;> split <;> simp_all
  context _ _ h := h
  post _ _ _ _ h := h
  window s l _ _ _ h e := by
    rw [← h e]
    cases e <;> simp only [State.dest, State.modLoop_sec, State.modLoop_loopRec] <;> split <;> simp_all

theorem SearchStable.searchValveCapture {I : State → Prop} (stable : SearchStable I) (s : State) (n : Slot) (value : Int)
    (h : I s) : I (s.searchValveCapture n value) := by
  unfold State.searchValveCapture
  split
  · split
    · split
      · exact stable.valveFault s [n] h
      · exact stable.judgeSettling s h
    · exact h
  · split
    · exact stable.valveFault s [n] h
    · exact h
  · split
    · split
      · exact stable.valveFault s [n] h
      · exact stable.judgeResting s h
    · exact h
  · split
    · split
      · exact stable.valveFault s [n] h
      · exact stable.judgeSuspended s h
    · exact h
  · exact h
  · exact h

/-- The search takes no notice of a VALVE capture that none of its waits names (R141, R144, R147). -/
theorem State.searchValveCapture_of_unawaited {s : State} {n : Slot}
    (unawaited : ¬ ((s.search.state = .settling ∨ s.search.state = .observing) ∧ n ∈ s.search.isolated ∨
      (s.search.state = .resting ∨ s.search.state = .suspended) ∧ n ∈ s.search.wait)) (value : Int) :
    s.searchValveCapture n value = s := by
  unfold State.searchValveCapture
  split
  · next state => exact if_neg fun member => unawaited (.inl ⟨.inl state, member⟩)
  · next state => exact if_neg fun h => unawaited (.inl ⟨.inr state, h.1⟩)
  · next state => exact if_neg fun member => unawaited (.inr ⟨.inl state, member⟩)
  · next state => exact if_neg fun member => unawaited (.inr ⟨.inr state, member⟩)
  · rfl
  · rfl

/-! ### OUTLET: the section becomes LIVE, its evaluation is queued, its lines are evaluated (R10, R28, R157) -/

theorem State.becomeLive_frame (s : State) (n : Slot) :
    s.becomeLive n = { s with sections := (s.becomeLive n).sections, fans := (s.becomeLive n).fans } := by
  apply State.eq_of_fields <;> simp
  simp only [State.rest]

/-- Lines evaluated where nothing has touched them yet. -/
theorem linesEvaluated_evalLines {s u : State} (lines : ∀ k, u.line k = s.line k) (n : Slot) :
    LinesEvaluated s (u.evalLines n) n := by
  have frame := u.evalLines_eq n
  have line := u.evalLines_line n
  generalize u.evalLines n = t at *
  have safe (mask : BitVec 24) : t.maskSafe mask = u.maskSafe mask := by rw [frame]; rfl
  have expiry (seconds : Nat) : t.expiryIn seconds = u.expiryIn seconds := by rw [frame]; rfl
  intro k
  rw [line, lines, safe, expiry]

/-- Past the change of state: the queue, where the section is LIVE, and the lines. -/
theorem State.handOff_outlet_frame (s : State) (n : Slot) (value : Int) :
    s.handOff (.outlet n) value =
      { s.becomeLive n with
        evalQueue :=
          if ((s.becomeLive n).sec n).slot = .live then
            (if n ∈ s.evalQueue then s.evalQueue else s.evalQueue ++ [n])
          else s.evalQueue
        lines := (s.handOff (.outlet n) value).lines } := by
  have queue : (s.becomeLive n).evalQueue = s.evalQueue := State.becomeLive_evalQueue ..
  have unfolded : s.handOff (.outlet n) value =
      State.evalLines
        (if ((s.becomeLive n).sec n).slot = .live then (s.becomeLive n).joinQueue n else s.becomeLive n) n := rfl
  rw [unfolded, ← queue]
  split
  · exact State.evalLines_eq ((s.becomeLive n).joinQueue n) n
  · exact State.evalLines_eq (s.becomeLive n) n

theorem State.handOff_outlet_lines (s : State) (n : Slot) (value : Int) :
    LinesEvaluated s (s.handOff (.outlet n) value) n := by
  refine linesEvaluated_evalLines (fun k => ?_) n
  split
  · rw [State.joinQueue_line, State.becomeLive_line]
  · rw [State.becomeLive_line]

theorem State.handOff_outlet_sec (s : State) (n : Slot) (value : Int) (m : Slot) :
    (s.handOff (.outlet n) value).sec m =
      if m = n ∧ (s.sec n).slot = .starting then { s.sec n with slot := .live } else s.sec m := by
  rw [State.handOff_outlet_frame]
  exact s.becomeLive_sec n m

/-- The channel restages where a STARTING section becomes LIVE, and stays as it is otherwise (R10). -/
theorem State.handOff_outlet_fans (s : State) (n : Slot) (value : Int) :
    ((s.sec n).slot = .starting → Restaged s (s.handOff (.outlet n) value) n) ∧
      ((s.sec n).slot ≠ .starting → (s.handOff (.outlet n) value).fans = s.fans) := by
  have sec := s.handOff_outlet_sec n value
  have frame := s.handOff_outlet_frame n value
  generalize s.handOff (.outlet n) value = t at *
  refine ⟨fun starting => ?_, fun other => ?_⟩
  · have live : s.becomeLive n = (s.modSec n fun r => { r with slot := .live }).restage n := if_pos starting
    refine .of_restage s t (s.modSec n fun r => { r with slot := .live }) n (fun _ => rfl) (fun m => ?_) ?_ fun m => ?_
    · rw [sec, State.modSec_sec]
      simp only [starting, and_true, eq_comm]
    · rw [frame, live]
      exact State.restage_stopLow ..
    · rw [frame, live]
      rfl
  · rw [frame, show s.becomeLive n = s from if_neg other]

/-! ### PRESSURE (R85, R141) -/

theorem State.pressureCapture_frame (s : State) (l : LoopId) (value : Int) :
    s.pressureCapture l value =
      { s with loops := (s.pressureCapture l value).loops, search := (s.pressureCapture l value).search } := by
  unfold State.pressureCapture
  dsimp only
  split
  · rfl
  · split <;> rfl

theorem State.pressureCapture_loopRec (s : State) (l : LoopId) (value : Int) (m : LoopId) :
    (s.pressureCapture l value).loopRec m =
      if m = l then
        { s.loopRec l with
          leakWindow :=
            if s.monitorRuns l then (s.loopRec l).leakWindow.enter { pressure := value, taken := s.partTime }
            else (s.loopRec l).leakWindow }
      else s.loopRec m := by
  unfold State.pressureCapture
  dsimp only
  cases runs : s.monitorRuns l with
  | true =>
    rw [if_pos rfl, State.modLoop_loopRec]
    simp only [eq_comm, if_true]
  | false =>
    have same : (if m = l then s.loopRec l else s.loopRec m) = s.loopRec m := by
      split
      · next at_ => rw [at_]
      · rfl
    simp only [Bool.false_eq_true, if_false, same]
    split <;> rfl

theorem State.pressureCapture_search (s : State) (l : LoopId) (value : Int) :
    (s.pressureCapture l value).search =
      if s.monitorRuns l = false ∧ s.search.state = .observing ∧ s.search.loopOf = some l then
        { s.search with window := s.search.window.enter { pressure := value, taken := s.partTime } }
      else s.search := by
  unfold State.pressureCapture
  dsimp only
  cases runs : s.monitorRuns l with
  | true => simp only [if_true, State.modLoop_search, Bool.true_eq_false, false_and, if_false]
  | false =>
    simp only [Bool.false_eq_true, if_false, true_and]
    split <;> rfl

theorem State.pressureCapture_dest (s : State) (l : LoopId) (value : Int) (e : DestField) :
    (s.pressureCapture l value).dest e = s.dest e := by
  unfold State.pressureCapture
  dsimp only
  split
  · cases e <;> simp only [State.dest, State.modLoop_sec, State.modLoop_loopRec] <;> split <;> simp_all
  · split <;> cases e <;> rfl

/-! ### Every capture -/

theorem State.handOff_dest (s : State) (d : DestField) (value : Int) (e : DestField) :
    (s.handOff d value).dest e = s.dest e := by
  cases d with
  | outlet n =>
    have sec := s.handOff_outlet_sec n value
    have loops (l : LoopId) : (s.handOff (.outlet n) value).loopRec l = s.loopRec l := by
      rw [State.handOff_outlet_frame, State.becomeLive_frame]
      rfl
    cases e <;> simp only [State.dest, sec, loops] <;> split <;> simp_all
  | valve n => exact (searchStable_dests s.dest).searchValveCapture s n value (fun _ => rfl) e
  | loopPressure l =>
    unfold State.handOff
    dsimp only
    split
    · exact State.pressureCapture_dest s l _ e
    · rfl
  | _ => rfl

theorem SlotState.inService_iff (x : SlotState) : x.inService = true ↔ x = .starting ∨ x = .live := by
  cases x <;> simp [SlotState.inService]

/-- Settles O23. -/
theorem readingsAreCaptured : Obligations.ReadingsAreCaptured := by
  refine ⟨fun x => ?_, Binding.covers_iff, BindingState.matchesReading_iff, fun s dt chars b f r q delivers => ?_⟩
  · rw [readingOf_eq, qualityOfCode_eq]
  · intro tenths kept quiet search awaited
    obtain ⟨seen, run⟩ := exec_fragmentEnd_of_delivers delivers
    let u : State := { quiet with seen := seen }
    have run : exec (.fragmentEnd dt chars) s = .next ((u.setDest f.dest kept).handOff f.dest r.value) := run
    have same (e : DestField) : u.dest e = s.dest e := by cases e <;> rfl
    have written (e : DestField) : (u.setDest f.dest kept).dest e = if e = f.dest then kept else s.dest e := by
      rw [State.setDest_dest, same]
    have dests (e : DestField) := (State.handOff_dest (u.setDest f.dest kept) f.dest r.value e).trans (written e)
    refine ⟨_, run, (dests f.dest).trans (if_pos rfl), fun e other => (dests e).trans (if_neg other),
      fun notOutlet notPressure unawaited => ?_, fun n outlet inService => ?_, fun l v pressure stored => ?_⟩
    · have untouched : (u.setDest f.dest kept).handOff f.dest r.value = u.setDest f.dest kept := by
        cases dest : f.dest with
        | outlet n => exact absurd (congrArg fieldKind dest) notOutlet
        | loopPressure l => exact absurd (congrArg fieldKind dest) notPressure
        | valve n =>
          exact State.searchValveCapture_of_unawaited (s := u.setDest (.valve n) kept) (unawaited n dest) r.value
        | _ => rfl
      rw [untouched]
      refine ⟨.of_shape _ _ _ written (u.setDest_sec_shape f.dest kept) (u.setDest_loopRec_shape f.dest kept), ?_⟩
      have frame := u.setDest_frame f.dest kept
      generalize u.setDest f.dest kept = t at *
      rw [frame]
    · rw [outlet]
      have before (m : Slot) : (u.setDest (.outlet n) kept).sec m =
          if m = n then { s.sec n with outlet := kept } else s.sec m := by
        show (u.modSec n fun r => { r with outlet := kept }).sec m = _
        rw [State.modSec_sec]
        simp only [eq_comm]
        rfl
      have slot : ((u.setDest (.outlet n) kept).sec n).slot = (s.sec n).slot := by rw [before, if_pos rfl]
      have sec := (u.setDest (.outlet n) kept).handOff_outlet_sec n r.value
      have lines := (u.setDest (.outlet n) kept).handOff_outlet_lines n r.value
      have frame := (u.setDest (.outlet n) kept).handOff_outlet_frame n r.value
      obtain ⟨restages, stays⟩ := (u.setDest (.outlet n) kept).handOff_outlet_fans n r.value
      rw [slot] at sec restages stays
      have becomes : (if n = n ∧ (s.sec n).slot = .starting then { (u.setDest (.outlet n) kept).sec n with slot := .live }
          else (u.setDest (.outlet n) kept).sec n) = { s.sec n with slot := .live, outlet := kept } := by
        rw [before, if_pos rfl]
        rcases (SlotState.inService_iff _).mp inService with starting | live
        · rw [if_pos ⟨rfl, starting⟩]
        · rw [if_neg fun h => SlotState.noConfusion (live.symm.trans h.2), ← live]
      have now : ((u.setDest (.outlet n) kept).becomeLive n).sec n = { s.sec n with slot := .live, outlet := kept } := by
        rw [State.becomeLive_sec, slot, becomes]
      rw [now, if_pos rfl, State.becomeLive_frame] at frame
      generalize (u.setDest (.outlet n) kept).becomeLive n = w at *
      generalize (u.setDest (.outlet n) kept).handOff (.outlet n) r.value = t at *
      refine ⟨(sec n).trans becomes, fun m other => ?_, ?_, restages, fun live => ?_, lines, ?_⟩
      · rw [sec, if_neg fun h => other h.1, before, if_neg other]
      · rw [frame]
        rfl
      · exact stays fun starting => SlotState.noConfusion (live.symm.trans starting)
      · rw [frame]
        rfl
    · rw [pressure]
      have record : (u.setDest (.loopPressure l) kept).loopRec l = { s.loopRec l with pressure := kept } :=
        State.modLoop_loopRec_self ..
      have captured : (u.setDest (.loopPressure l) kept).handOff (.loopPressure l) r.value =
          (u.setDest (.loopPressure l) kept).pressureCapture l v.value := by
        unfold State.handOff
        dsimp only
        rw [record]
        dsimp only
        rw [stored]
      have runs : (u.setDest (.loopPressure l) kept).monitorRuns l = s.monitorRuns l := by
        rw [State.monitorRuns, record]
        rfl
      have loops := (u.setDest (.loopPressure l) kept).pressureCapture_loopRec l v.value
      have searches := (u.setDest (.loopPressure l) kept).pressureCapture_search l v.value
      have frame := (u.setDest (.loopPressure l) kept).pressureCapture_frame l v.value
      rw [runs] at searches
      simp only [runs, record] at loops
      rw [captured]
      generalize (u.setDest (.loopPressure l) kept).pressureCapture l v.value = t at *
      refine ⟨(loops l).trans (if_pos rfl), fun m other => (loops m).trans ?_, searches, ?_⟩
      · rw [if_neg other]
        exact State.modLoop_loopRec_ne _ _ other
      · rw [frame]
        rfl

end Sys2Proof.Machine
end

section
/-! PROOF. Request frames (R168, R169, R171, R173): the frame of a request is judged well formed, and is that request. -/

namespace Sys2Proof.Machine

open Sys2Proof

/-! ### The rows of AMEND, LOOP SET and HOLD -/

theorem group_of_groupIs {n count : Nat} {p : List Byte} (group : groupIs (n + 1) count p = true) :
    p.head?.map BitVec.toNat = some (n + 1) := by
  unfold groupIs at group
  cases head : p.head? with
  | none => simp [head] at group
  | some g => simpa [head] using group

theorem group_of_groupIs_zero {count : Nat} {p : List Byte} (group : groupIs 0 count p = true) {g : Nat}
    (is : p.head?.map BitVec.toNat = some g) : g = 0 ∨ count ≤ g := by
  unfold groupIs at group
  cases head : p.head? with
  | none => simp [head] at is
  | some b =>
    simp only [head, Option.map_some, Option.some.injEq] at is
    simpa [head, is] using group

theorem amendCommand_of_first {p : List Byte} (group : groupIs 0 7 p = true) (dt : Nat) (j : Byte) :
    amendCommand dt j p = .amendFlow dt j p := by
  unfold amendCommand
  split
  case h_7 => rfl
  all_goals next is => exact absurd (group_of_groupIs_zero group is) (by decide)

theorem loopSetCommand_of_first {p : List Byte} (group : groupIs 0 6 p = true) (dt : Nat) (j : Byte) :
    loopSetCommand dt j p = .loopSetGlycol dt j p := by
  unfold loopSetCommand
  split
  case h_6 => rfl
  all_goals next is => exact absurd (group_of_groupIs_zero group is) (by decide)

theorem holdCommand_of_first {p : List Byte} (group : groupIs 0 2 p = true) (dt : Nat) (j : Byte) :
    holdCommand dt j p = .holdOn dt j p := by
  unfold holdCommand
  split
  · next is => exact absurd (group_of_groupIs_zero group is) (by decide)
  · rfl

/-! ### The row of every request -/

/-- A well-formed request has a kind code of R173 and a payload that fits, and these name it among the requests. -/
theorem requestCommand_of_wellFormed {c : Instr} (fits : c.wellFormed = true) {k dt : Nat} {j : Byte} {p : List Byte}
    (parts : requestParts c = some (k, dt, j, p)) :
    payloadFits p = true ∧ k ∈ kindCodes ∧ requestCommand dt k j p = some c := by
  have grouped {code count : Nat} (both : (payloadFits p && groupIs code count p) = true) :
      payloadFits p = true ∧ groupIs code count p = true := by rwa [Bool.and_eq_true] at both
  cases c <;> cases parts
  case amendFlow =>
    obtain ⟨length, group⟩ := grouped fits
    exact ⟨length, by decide, congrArg some (amendCommand_of_first group dt j)⟩
  case loopSetGlycol =>
    obtain ⟨length, group⟩ := grouped fits
    exact ⟨length, by decide, congrArg some (loopSetCommand_of_first group dt j)⟩
  case holdOn =>
    obtain ⟨length, group⟩ := grouped fits
    exact ⟨length, by decide, congrArg some (holdCommand_of_first group dt j)⟩
  case holdOff =>
    obtain ⟨length, group⟩ := grouped fits
    refine ⟨length, by decide, ?_⟩
    rw [requestCommand, holdCommand, group_of_groupIs group]
    rfl
  case amendThresholds | amendStaleness | amendRamp | amendValve | amendGang | amendLimits =>
    obtain ⟨length, group⟩ := grouped fits
    refine ⟨length, by decide, ?_⟩
    rw [requestCommand, amendCommand, group_of_groupIs group]
    rfl
  case loopSetRegime | loopSetPump | loopSetLeak | loopSetSearch | loopSetUnset =>
    obtain ⟨length, group⟩ := grouped fits
    refine ⟨length, by decide, ?_⟩
    rw [requestCommand, loopSetCommand, group_of_groupIs group]
    rfl
  all_goals exact ⟨fits, by decide, rfl⟩

/-! ### The frame of a request -/

theorem judgeFrame_encodeFrame {k : Nat} (known : k ∈ kindCodes) (j : Byte) {p : List Byte} (fits : p.length ≤ 60) :
    judgeFrame (encodeFrame (BitVec.ofNat 8 k) j p) = .ok { kind := k, subject := j, payload := p } := by
  let head := BitVec.ofNat 8 k :: j :: BitVec.ofNat 8 p.length :: p
  have kind : (BitVec.ofNat 8 k).toNat = k :=
    Nat.mod_eq_of_lt ((by decide : ∀ k ∈ kindCodes, k < 2 ^ 8) k known)
  have length : (BitVec.ofNat 8 p.length).toNat = p.length := Nat.mod_eq_of_lt (by omega)
  have frame : encodeFrame (BitVec.ofNat 8 k) j p = (head ++ [-(byteSum head)]) ++ List.replicate (60 - p.length) 0 := rfl
  have checked : byteSum ((encodeFrame (BitVec.ofNat 8 k) j p).take (4 + p.length)) = 0 := by
    have size : (head ++ [-(byteSum head)]).length = 4 + p.length := by
      simp only [head, List.length_append, List.length_cons, List.length_nil]
      omega
    rw [frame, ← size, List.take_left, byteSum_append, byteSum_singleton, add_neg_cancel]
  have payload : ((encodeFrame (BitVec.ofNat 8 k) j p).drop 3).take p.length = p := by
    rw [frame, List.append_assoc]
    exact List.take_left
  have third : (encodeFrame (BitVec.ofNat 8 k) j p).getD 2 0 = BitVec.ofNat 8 p.length := rfl
  have first : (encodeFrame (BitVec.ofNat 8 k) j p).getD 0 0 = BitVec.ofNat 8 k := rfl
  have second : (encodeFrame (BitVec.ofNat 8 k) j p).getD 1 0 = j := rfl
  unfold judgeFrame
  simp only [third, first, second, length, kind, payload, checked]
  rw [if_neg (by omega), if_neg (not_not.mpr rfl), if_neg (not_not.mpr known)]

/-- Settles O4. -/
theorem requestFramesDecode : Obligations.RequestFramesDecode := by
  rintro c dt f fits ⟨k, j, p, parts⟩ frame
  obtain ⟨length, known, row⟩ := requestCommand_of_wellFormed fits parts
  have short : p.length ≤ 60 := of_decide_eq_true length
  obtain rfl : encodeFrame (BitVec.ofNat 8 k) j p = f := by
    rw [frameOfCommand, parts] at frame
    exact Option.some.inj frame
  refine ⟨encodeFrame_length _ _ _ short, ?_⟩
  unfold commandOfFrame
  rw [judgeFrame_encodeFrame known j short]
  dsimp only
  rw [row]
  rfl

end Sys2Proof.Machine
end

section
/-! PROOF. Share, ratio, coupling, wall temperature and freeze point (R39 to R43). -/

namespace Sys2Proof.Machine

open Sys2Proof

/-! ### Flow, coupling and wall (R39 to R42) -/

theorem flowShare_mul_le (mark : Mark) (q w weights : Nat) : flowShare mark q w weights * weights ≤ q * w := by
  cases mark with
  | none => exact Nat.div_mul_le_self ..
  | probe => exact (Nat.zero_mul weights).trans_le (Nat.zero_le _)
  | held => exact (Nat.zero_mul weights).trans_le (Nat.zero_le _)

theorem flowRatio_eq_iff {share design : Nat} (positive : 0 < design) :
    flowRatio share design = 512 ↔ 2 * design ≤ share := by
  rw [flowRatio, min_eq_left_iff, Nat.le_div_iff_mul_le positive]
  omega

theorem one_le_wallCoupling {ratio : Nat} (duty : Nat) (ranged : ratio ≤ 512) : 1 ≤ wallCoupling duty ratio := by
  rw [wallCoupling, le_min_iff, Nat.le_div_iff_mul_le (by omega)]
  omega

theorem wallCoupling_le_wallCoupling {duty duty' ratio ratio' : Nat} (more : duty ≤ duty') (less : ratio' ≤ ratio) :
    wallCoupling duty ratio ≤ wallCoupling duty' ratio' :=
  min_le_min_left 240 (Nat.div_le_div (by omega) (by omega) (by omega))

/-- The wall lies between outlet and air: a coupling of at most 240 parts in 256 leaves room for the rounding. -/
theorem wallTemperature_between (tOut tAir : Int) {coupling : Nat} (ranged : coupling ≤ 240) :
    min tOut tAir ≤ wallTemperature tOut tAir coupling ∧ wallTemperature tOut tAir coupling ≤ max tOut tAir := by
  have upper : (coupling : Int) ≤ 240 := by exact_mod_cast ranged
  have lower : (0 : Int) ≤ coupling := Int.natCast_nonneg coupling
  unfold wallTemperature floorDiv
  rcases le_total tAir tOut with warmer | colder
  · have above : (tOut - tAir) * coupling ≤ (tOut - tAir) * 240 := mul_le_mul_of_nonneg_left upper (by omega)
    have below : 0 ≤ (tOut - tAir) * coupling := mul_nonneg (by omega) lower
    rw [min_eq_right warmer, max_eq_left warmer]
    generalize (tOut - tAir) * (coupling : Int) = x at *
    omega
  · have above : (tAir - tOut) * coupling ≤ (tAir - tOut) * 240 := mul_le_mul_of_nonneg_left upper (by omega)
    have below : 0 ≤ (tAir - tOut) * coupling := mul_nonneg (by omega) lower
    have turned : (tOut - tAir) * (coupling : Int) = -((tAir - tOut) * coupling) := by ring
    rw [min_eq_left colder, max_eq_right colder, turned]
    generalize (tAir - tOut) * (coupling : Int) = x at *
    omega

/-! ### The freeze point (R43) -/

/-- 75 times the exact interpolation of a curve at a concentration. -/
def freezeExact (curve : Vector Int 9) (c : Nat) : Int :=
  curvePoint curve (c / 75) * 75 + (curvePoint curve (c / 75 + 1) - curvePoint curve (c / 75)) * ((c % 75 : Nat) : Int)

theorem ceilDiv_75 (a : Int) : 75 * (ceilDiv a 75 - 1) < a ∧ a ≤ 75 * ceilDiv a 75 := by
  unfold ceilDiv
  omega

theorem curvePoint_val (curve : Vector Int 9) (i : Fin 9) : curvePoint curve i.val = curve[i] := dif_pos i.isLt

theorem curvePoint_of_beyond (curve : Vector Int 9) {i : Nat} (beyond : 8 ≤ i) : curvePoint curve i = curve[8] := by
  rcases Nat.lt_or_ge i 9 with eight | more
  · obtain rfl : i = 8 := by omega
    rfl
  · exact dif_neg (by omega)

theorem freezePoint_eq (curve : Vector Int 9) (c : Nat) : freezePoint curve c = ceilDiv (freezeExact curve c) 75 := by
  have whole : c - 75 * (c / 75) = c % 75 := by omega
  unfold freezePoint freezeExact
  split
  · next beyond =>
    rw [curvePoint_of_beyond curve (by omega : 8 ≤ c / 75), curvePoint_of_beyond curve (by omega : 8 ≤ c / 75 + 1),
      curvePoint_of_beyond curve (le_refl 8), sub_self, zero_mul, add_zero]
    unfold ceilDiv
    omega
  · dsimp only
    rw [whole]
    generalize (curvePoint curve (c / 75 + 1) - curvePoint curve (c / 75)) * ((c % 75 : Nat) : Int) = x
    unfold ceilDiv
    omega

theorem freezeExact_succ (curve : Vector Int 9) (c : Nat) :
    freezeExact curve (c + 1) =
      freezeExact curve c + (curvePoint curve (c / 75 + 1) - curvePoint curve (c / 75)) := by
  unfold freezeExact
  rcases Nat.lt_or_ge (c % 75 + 1) 75 with same | next
  · rw [show (c + 1) / 75 = c / 75 by omega, show (c + 1) % 75 = c % 75 + 1 by omega]
    push_cast
    ring
  · rw [show (c + 1) / 75 = c / 75 + 1 by omega, show (c + 1) % 75 = 0 by omega, show c % 75 = 74 by omega]
    push_cast
    ring

/-- The curve meets its points. -/
theorem freezePoint_at (curve : Vector Int 9) (i : Nat) : freezePoint curve (75 * i) = curvePoint curve i := by
  rw [freezePoint_eq, freezeExact, Nat.mul_div_cancel_left i (by decide), Nat.mul_mod_right]
  unfold ceilDiv
  omega

section
variable {curve : Vector Int 9} (ordered : curveOrdered curve = true)
include ordered

theorem curvePoint_bounds (i : Nat) : -6000 ≤ curvePoint curve i ∧ curvePoint curve i ≤ 0 := by
  have inRange (k : Fin 9) : -6000 ≤ tabGet curve k ∧ tabGet curve k ≤ 0 := by
    obtain ⟨ranged, -⟩ := (Bool.and_eq_true _ _).mp ordered
    simpa using List.all_eq_true.mp ranged k (List.mem_finRange k)
  rcases Nat.lt_or_ge i 9 with within | beyond
  · rw [show curvePoint curve i = tabGet curve ⟨i, within⟩ from dif_pos within]
    exact inRange _
  · rw [curvePoint_of_beyond curve (by omega)]
    exact inRange 8

theorem curvePoint_falls (i : Nat) : curvePoint curve (i + 1) ≤ curvePoint curve i := by
  rcases Nat.lt_or_ge i 8 with within | beyond
  · obtain ⟨-, falls⟩ := (Bool.and_eq_true _ _).mp ordered
    rw [show curvePoint curve (i + 1) = tabGet curve (Fin.succ ⟨i, within⟩) from dif_pos (by omega),
      show curvePoint curve i = tabGet curve (Fin.castSucc ⟨i, within⟩) from dif_pos (by omega)]
    exact of_decide_eq_true (List.all_eq_true.mp falls ⟨i, within⟩ (List.mem_finRange _))
  · rw [curvePoint_of_beyond curve (by omega), curvePoint_of_beyond curve beyond]

theorem freezePoint_antitone {c d : Nat} (le : c ≤ d) : freezePoint curve d ≤ freezePoint curve c := by
  refine antitone_nat_of_succ_le (f := freezePoint curve) (fun c => ?_) le
  have step := freezeExact_succ curve c
  have falls := curvePoint_falls ordered (c / 75)
  have now := ceilDiv_75 (freezeExact curve c)
  have next := ceilDiv_75 (freezeExact curve (c + 1))
  rw [freezePoint_eq, freezePoint_eq]
  omega

theorem freezePoint_bounds (c : Nat) : -6000 ≤ freezePoint curve c ∧ freezePoint curve c ≤ 0 := by
  have above := freezePoint_antitone ordered (Nat.zero_le c)
  have below := freezePoint_antitone ordered (show c ≤ 75 * c by omega)
  rw [freezePoint_at] at below
  rw [show freezePoint curve 0 = curvePoint curve 0 from freezePoint_at curve 0] at above
  have := curvePoint_bounds ordered 0
  have := curvePoint_bounds ordered c
  omega

end

/-- Settles O27. -/
theorem wallAndFreezePointBounds : Obligations.WallAndFreezePointBounds := by
  refine ⟨fun mark q w weights => ⟨flowShare_mul_le .., fun marked => ?_⟩,
    fun share design least => ⟨min_le_left .., flowRatio_eq_iff (by omega)⟩,
    fun duty ratio ranged => ⟨one_le_wallCoupling duty ranged, min_le_left .., fun _ _ => wallCoupling_le_wallCoupling⟩,
    fun tOut tAir coupling => wallTemperature_between tOut tAir,
    fun curve ordered => ⟨fun i => ?_, fun _ _ => freezePoint_antitone ordered, fun c => ?_, fun i r within => ?_⟩⟩
  · cases mark with
    | none => exact absurd rfl marked
    | probe => rfl
    | held => rfl
  · rw [freezePoint_at, curvePoint_val]
  · exact freezePoint_bounds ordered c
  · have exact : freezeExact curve (75 * i.val + r) =
        curve[i.castSucc] * 75 + (curve[i.succ] - curve[i.castSucc]) * r := by
      rw [freezeExact, show (75 * i.val + r) / 75 = i.val by omega, show (75 * i.val + r) % 75 = r by omega,
        ← curvePoint_val curve i.castSucc, ← curvePoint_val curve i.succ]
      rfl
    rw [freezePoint_eq, ← exact]
    exact ceilDiv_75 _

end Sys2Proof.Machine
end

section
/-! PROOF. How the replies write their fields: the bytes of the model as the numbers they carry (R171). -/

namespace Sys2Proof.Machine

open Sys2Proof

/-! ### Widths -/

theorem bigEndian_four (v : Nat) : bigEndian 4 v = put32 v := by
  simp [bigEndian, put32, put16, put8, Nat.div_div_eq_div_mul]

@[simp] theorem bigEndian_length (width v : Nat) : (bigEndian width v).length = width := by
  induction width with
  | zero => rfl
  | succ width ih => rw [bigEndian, List.length_cons, ih]

theorem bigEndian_zero_value (width : Nat) : bigEndian width 0 = List.replicate width 0 := by
  induction width with
  | zero => rfl
  | succ width ih => rw [bigEndian, ih, Nat.zero_div, List.replicate_succ]; rfl

/-- An optional field is a presence byte and the fields it holds, or as many bytes of 0. -/
theorem putOption_eq {α : Type} (widths : List Nat) (numbers : α → List Nat) {put : α → List Byte} {width : Nat}
    (size : widths.sum = width) (present : ∀ a, put a = layout (widths.zip (numbers a))) (x : Option α) :
    putOption width put x = layout (optionFields widths numbers x) := by
  have blank : layout (widths.map fun w => (w, 0)) = List.replicate widths.sum 0 := by
    clear size present
    induction widths with
    | nil => rfl
    | cons w rest ih =>
      rw [List.map_cons, layout_cons, ih, bigEndian_zero_value, List.sum_cons, List.replicate_add]
  cases x with
  | none => rw [optionFields, layout_cons, blank, size, bigEndian_one]; rfl
  | some a => rw [optionFields, layout_cons, ← present, bigEndian_one]; rfl

theorem putTimer_eq (s : State) (timer : Option Nat) :
    putOption 2 put16 (s.remaining timer) = layout (timerFields s timer) := by
  have present : putOption 2 (fun e => put16 (e - s.tenths)) timer = layout (timerFields s timer) :=
    putOption_eq [2] (fun e => [e - s.time / unitsPerTenth]) rfl (fun e => (bigEndian_two _).symm) timer
  rw [← present]
  cases timer <;> rfl

theorem putMoment_eq (timer : Option Nat) : putOption 4 put32 timer = layout (optionFields [4] (fun t => [t]) timer) :=
  putOption_eq [4] (fun t => [t]) rfl (fun t => (bigEndian_four t).symm) timer

theorem putByte_eq (b : Byte) : [b] = bigEndian 1 b.toNat := by
  rw [bigEndian_one, put8_toNat]

/-! ### Sets of slots -/

theorem testBit_bitsValue (bits : List Bool) (i : Nat) : (bitsValue bits).testBit i = bits.getD i false := by
  induction bits generalizing i with
  | nil => simp [bitsValue]
  | cons b rest ih =>
    cases i with
    | zero => cases b <;> simp [bitsValue, Nat.testBit_zero]
    | succ i =>
      have half : bitsValue (b :: rest) / 2 = bitsValue rest := by
        cases b <;> simp only [bitsValue, Bool.toNat_true, Bool.toNat_false] <;> omega
      rw [List.getD_cons_succ, ← ih, Nat.testBit_succ, half]

theorem slotMask_getLsbD (slots : List Slot) (n : Slot) : (slotMask slots).getLsbD n.val = slots.contains n := by
  induction slots with
  | nil => simp [slotMask]
  | cons k rest ih =>
    have bit : (1#24 <<< k.val).getLsbD n.val = (n == k) := by
      clear ih
      revert n k
      decide
    rw [slotMask, List.foldr_cons, ← slotMask, BitVec.getLsbD_or, ih, bit, List.contains_cons, Bool.or_comm]

theorem slotMask_toNat (slots : List Slot) : (slotMask slots).toNat = slotsValue fun n => slots.contains n := by
  apply Nat.eq_of_testBit_eq
  intro i
  rw [BitVec.testBit_toNat, slotsValue, testBit_bitsValue]
  rcases Nat.lt_or_ge i 24 with within | beyond
  · rw [slotMask_getLsbD slots ⟨i, within⟩]
    simp [allSlots, within]
  · rw [BitVec.getLsbD_of_ge _ _ beyond]
    simp [allSlots, beyond]

theorem putMask_eq (m : BitVec 24) : putMask m = bigEndian 3 m.toNat := (bigEndian_three _).symm

/-! ### Codes -/

theorem SlotState.code_eq (x : SlotState) : x.code = [SlotState.vacant, .starting, .live, .retiring].idxOf x := by
  cases x <;> rfl

theorem Protection.code_eq (x : Protection) : x.code = [Protection.normal, .watch, .defend, .tripped].idxOf x := by
  cases x <;> rfl

theorem Mark.code_eq (x : Mark) : x.code = [Mark.none, .probe, .held].idxOf x := by cases x <;> rfl

theorem Lowering.code_eq (x : Lowering) : x.code = [Lowering.drop, .slew].idxOf x := by cases x <;> rfl

theorem CurveName.code_eq (x : CurveName) : x.code = [CurveName.a, .b].idxOf x := by cases x <;> rfl

theorem Regime.code_eq (x : Regime) : x.code = [Regime.mild, .frost].idxOf x := by cases x <;> rfl

theorem AutoOutcome.code_eq (x : AutoOutcome) :
    x.code = [AutoOutcome.none, .started, .noCandidates, .searchBusy].idxOf x := by cases x <;> rfl

theorem Kind.code_eq (x : Kind) :
    x.code = [Kind.outlet, .air, .flow, .pressure, .concentration, .valve].idxOf x := by cases x <;> rfl

theorem Combine.code_eq (x : Combine) : x.code = [Combine.replace, .lowest].idxOf x := by cases x <;> rfl

theorem DestStatus.code_eq (x : DestStatus) : x.code = [DestStatus.awaiting, .fresh, .stale, .held].idxOf x := by
  cases x <;> rfl

theorem Quality.code_eq (x : Quality) : x.code = [Quality.ok, .suspect].idxOf x := by cases x <;> rfl

theorem SearchState.code_eq (x : SearchState) :
    x.code = [SearchState.idle, .settling, .observing, .resting, .suspended, .held].idxOf x := by cases x <;> rfl

theorem Phase.code_eq (x : Phase) : x.code = [Phase.probe, .confirm].idxOf x := by cases x <;> rfl

theorem SearchResult.code_eq (x : SearchResult) :
    x.code = [SearchResult.none, .found, .inconclusive, .preempted, .valveFault, .noPressure, .stopped, .halted].idxOf x := by
  cases x <;> rfl

theorem LineState.code_eq (x : LineState) : x.code = [LineState.asserted, .released].idxOf x := by cases x <;> rfl

theorem ResetCause.code_eq (x : ResetCause) : x.code = [ResetCause.power, .pin, .request].idxOf x := by cases x <;> rfl

/-! ### Groups of fields -/

theorem putLimits_eq (m : LimitSet) : putLimits m = layout (limitFields m) := by
  simp only [limitFields, layout_cons, layout_nil, bigEndian_one, bigEndian_two, List.append_nil, putLimits,
    List.append_assoc]

theorem SearchParams.bytes_eq (p : SearchParams) : p.bytes = layout (paramFields p) := by
  simp only [paramFields, layout_cons, layout_nil, bigEndian_one, bigEndian_two, List.append_nil, SearchParams.bytes,
    List.append_assoc]

theorem putDest_eq (d : DestField) : putDest d = layout (destFields d) := by
  cases d <;>
    simp only [destFields, layout_cons, layout_nil, bigEndian_one, List.append_nil, putDest, List.append_assoc]

theorem SubstFlags.byte_eq (f : SubstFlags) :
    f.byte = bitsValue
      [f.outletHeld, f.outletDegraded, f.airSubstituted, f.flowHeld, f.flowZeroed, f.concentrationDeclared] := by
  simp only [SubstFlags.byte, bitsValue]
  omega

theorem Binding.careByte_eq (f : Binding) : f.careByte = bitsValue [f.careHigh, f.careLow, f.careSub] := by
  simp only [Binding.careByte, bitsValue]
  omega

end Sys2Proof.Machine
end

section
/-! PROOF. The lookups (R21, R72, R111, R155, R160, R179). -/

namespace Sys2Proof.Machine

open Sys2Proof

/-! ### The views of a section (R21) -/

theorem onCode_eq (on : Bool) : onCode on = if on then 0 else 1 := rfl

theorem State.configView_eq (s : State) (n : Slot) :
    let r := s.sec n
    let c := r.config
    s.configView n =
      layout
        ([(1, [SlotState.vacant, .starting, .live, .retiring].idxOf r.slot), (1, c.loopOf.val), (2, c.designFlow),
          (1, c.weight), (2, c.hardFloor),
          (4, c.iWatch), (4, c.iDefend), (4, c.iTrip), (1, c.penalty), (2, c.grace), (1, c.emax),
          (1, [Lowering.drop, .slew].idxOf c.lowering), (1, c.riseStep), (1, c.fallStep)] ++
          optionFields [1] (fun b : Byte => [b.toNat]) c.valveNode ++ [(1, if c.gangFlag then 0 else 1)] ++
          limitFields c.mild ++ limitFields c.frost ++ [(1, (s.gangFormed n).toNat)]) := by
  intro r c
  have node : putOption 1 (fun b : Byte => [b]) c.valveNode =
      layout (optionFields [1] (fun b : Byte => [b.toNat]) c.valveNode) :=
    putOption_eq [1] (fun b : Byte => [b.toNat]) rfl (fun b => putByte_eq b) c.valveNode
  simp only [State.configView, SlotState.code_eq, Lowering.code_eq, putLimits_eq, onCode_eq, putBool, layout_append,
    layout_cons, layout_nil, bigEndian_one, bigEndian_two, bigEndian_four, List.append_assoc, List.append_nil,
    ← node, r, c]

theorem EvalRecord.bytes_eq (e : EvalRecord) :
    e.bytes =
      layout
        ([4, 2, 2, 2, 1, 2, 2, 1, 2, 2, 2].zip
          [e.taken.toNat, e.elapsed, twos16 e.tOut, twos16 e.tAir,
            bitsValue
              [e.flags.outletHeld, e.flags.outletDegraded, e.flags.airSubstituted, e.flags.flowHeld,
                e.flags.flowZeroed, e.flags.concentrationDeclared],
            e.share, e.ratio, e.coupling, twos16 e.tWall, twos16 e.tFreeze, twos16 e.margin]) := by
  simp only [EvalRecord.bytes, List.zip_cons_cons, List.zip_nil_right, layout_cons, layout_nil, bigEndian_one,
    ← bigEndian_two, bigEndian_four, SubstFlags.byte_eq, putSigned_eq_bigEndian, List.append_assoc, List.append_nil]

theorem State.liveView_eq (s : State) (n : Slot) :
    let r := s.sec n
    s.liveView n =
      layout
        ([(1, [SlotState.vacant, .starting, .live, .retiring].idxOf r.slot)] ++ limitFields r.active ++
          [(1, r.hostDemand),
            (1, [Protection.normal, .watch, .defend, .tripped].idxOf r.protection), (4, r.integrator),
            (1, [Mark.none, .probe, .held].idxOf r.mark), (1, (s.fan n).ramp),
            (1, (s.fan n).gen.stagedDuty), (1, (s.fan n).gen.dutyInForce)] ++
          timerFields s r.evalTimer ++
          optionFields [4, 2, 2, 2, 1, 2, 2, 1, 2, 2, 2]
            (fun e : EvalRecord =>
              [e.taken.toNat, e.elapsed, twos16 e.tOut, twos16 e.tAir,
                bitsValue
                  [e.flags.outletHeld, e.flags.outletDegraded, e.flags.airSubstituted, e.flags.flowHeld,
                    e.flags.flowZeroed, e.flags.concentrationDeclared],
                e.share, e.ratio, e.coupling, twos16 e.tWall, twos16 e.tFreeze, twos16 e.margin])
            r.lastEval) := by
  intro r
  have record : putOption 22 EvalRecord.bytes r.lastEval = _ :=
    putOption_eq [4, 2, 2, 2, 1, 2, 2, 1, 2, 2, 2] _ rfl EvalRecord.bytes_eq r.lastEval
  simp only [State.liveView, record, SlotState.code_eq, Protection.code_eq, Mark.code_eq, putLimits_eq, putTimer_eq, layout_append,
    layout_cons, layout_nil, bigEndian_one, bigEndian_four, List.append_assoc, List.append_nil, r]

/-! ### The views of a loop (R72) -/

theorem LoopRecord.configView_eq (r : LoopRecord) :
    let c := r.config
    r.configView =
      layout
        ([(1, r.isSet.toNat), (1, [CurveName.a, .b].idxOf c.curve), (2, c.concentration),
          (2, twos16 c.frostAir), (2, twos16 c.frostEntry), (2, twos16 c.frostExit), (2, c.dwell),
          (1, c.frostFloor), (1, c.defendFloor), (1, c.stopDuty), (1, c.riseStep), (1, c.fallStep),
          (1, c.period), (2, c.leakWindow), (2, c.suspect), (1, if c.autoSearch then 0 else 1)] ++
          paramFields c.search) := by
  intro c
  simp only [LoopRecord.configView, LoopRecord.stateCode, CurveName.code_eq, onCode_eq, SearchParams.bytes_eq,
    putSigned_eq_bigEndian, layout_append, layout_cons, layout_nil, bigEndian_one, ← bigEndian_two,
    List.append_assoc, List.append_nil, c]

theorem PressureCapture.bytes_eq (x : PressureCapture) :
    x.bytes = layout ([2, 4].zip [twos16 x.pressure, x.taken.toNat]) := by
  simp only [PressureCapture.bytes, List.zip_cons_cons, List.zip_nil_right, layout_cons, layout_nil, bigEndian_four,
    putSigned_eq_bigEndian, List.append_nil]

theorem State.countMembers_eq (s : State) (l : LoopId) (p : SectionRecord → Bool) :
    s.countMembers l p =
      (allSlots.filter fun n =>
        (s.sec n).slot != .vacant && (s.sec n).config.loopOf == l && p (s.sec n)).length := by
  have enrolled (x : SlotState) : x.enrolled = (x != .vacant) := by cases x <;> rfl
  simp only [State.countMembers, SectionRecord.memberOf, enrolled]

theorem State.loopLiveView_eq (s : State) (l : LoopId) :
    let r := s.loopRec l
    let count (p : SectionRecord → Bool) :=
      (1, (allSlots.filter fun n =>
        (s.sec n).slot != .vacant && (s.sec n).config.loopOf == l && p (s.sec n)).length)
    let capture (x : PressureCapture) := [twos16 x.pressure, x.taken.toNat]
    s.loopLiveView l =
      layout
        ([(1, r.isSet.toNat), (1, [Regime.mild, .frost].idxOf r.regime), (4, r.regimeEntry.toNat)] ++
          optionFields [2] (fun z => [twos16 z]) r.coldest ++
          [(1, r.hostDemand), (1, r.ramp), (1, (s.pump l).stagedDuty), (1, (s.pump l).dutyInForce),
            count (·.slot == .starting), count (·.slot == .live), count (·.slot == .retiring),
            count (·.protection == .defend), count (·.protection == .tripped),
            (2, r.leakWindow.count)] ++
          optionFields [2, 4] capture r.leakWindow.first ++ optionFields [2, 4] capture r.leakWindow.last ++
          optionFields [4] (fun t => [t]) r.leakTimer ++
          (match r.lastResult with
            | .none => [(1, 0), (4, 0)]
            | .invalid => [(1, 1), (4, 0)]
            | .rate v => [(1, 2), (4, v)]) ++
          [(1, [AutoOutcome.none, .started, .noCandidates, .searchBusy].idxOf r.autoOutcome)]) := by
  intro r count capture
  have coldest : putOption 2 putSigned r.coldest = layout (optionFields [2] (fun z => [twos16 z]) r.coldest) :=
    putOption_eq [2] (fun z => [twos16 z]) rfl putSigned_eq_bigEndian r.coldest
  have captured (x : Option PressureCapture) :
      putOption 6 PressureCapture.bytes x = layout (optionFields [2, 4] capture x) :=
    putOption_eq [2, 4] capture rfl PressureCapture.bytes_eq x
  have result : r.lastResult.bytes =
      layout
        (match r.lastResult with
          | .none => [(1, 0), (4, 0)]
          | .invalid => [(1, 1), (4, 0)]
          | .rate v => [(1, 2), (4, v)]) := by
    cases r.lastResult <;>
      simp only [WindowResult.bytes, layout_cons, layout_nil, bigEndian_one, bigEndian_four, List.append_nil]
  simp only [State.loopLiveView, LoopRecord.stateCode, Regime.code_eq, AutoOutcome.code_eq, State.countMembers_eq,
    putMoment_eq, coldest, captured, result, layout_append, layout_cons, layout_nil, bigEndian_one, bigEndian_two,
    bigEndian_four, List.append_assoc, List.append_nil, r, count]

end Sys2Proof.Machine
end

section
/-! PROOF. The views of bindings, clear lines and the search, and the lookups that answer them. -/

namespace Sys2Proof.Machine

open Sys2Proof

/-! ### The view of a binding (R111) -/

theorem State.destView_eq (s : State) (d : Destination) :
    s.destView d =
      layout
        ([(1, [DestStatus.awaiting, .fresh, .stale, .held].idxOf d.status)] ++
          optionFields [2, 1] (fun v : Stored => [twos16 v.value, [Quality.ok, .suspect].idxOf v.quality])
            d.stored ++
          optionFields [4] (fun v : Stored => [v.captured.toNat]) d.stored ++
          optionFields [4] (fun t => [t]) d.staleSince ++ timerFields s d.freshTimer ++
          timerFields s d.combineTimer ++ timerFields s d.holdTimer) := by
  have value (v : Stored) :
      v.bytes = layout ([2, 1].zip [twos16 v.value, [Quality.ok, .suspect].idxOf v.quality]) := by
    simp only [Stored.bytes, Quality.code_eq, putSigned_eq_bigEndian, List.zip_cons_cons, List.zip_nil_right,
      layout_cons, layout_nil, bigEndian_one, List.append_nil]
  have stored : putOption 3 Stored.bytes d.stored =
      layout (optionFields [2, 1] (fun v => [twos16 v.value, [Quality.ok, .suspect].idxOf v.quality]) d.stored) :=
    putOption_eq [2, 1] (fun v : Stored => [twos16 v.value, [Quality.ok, .suspect].idxOf v.quality]) rfl value d.stored
  have captured : putOption 4 (fun v : Stored => put32 v.captured.toNat) d.stored =
      layout (optionFields [4] (fun v : Stored => [v.captured.toNat]) d.stored) :=
    putOption_eq [4] (fun v : Stored => [v.captured.toNat]) rfl (fun v => (bigEndian_four v.captured.toNat).symm) d.stored
  simp only [State.destView, stored, captured, putMoment_eq, putTimer_eq, DestStatus.code_eq, layout_append,
    layout_cons, layout_nil, bigEndian_one, List.append_nil, List.append_assoc]

theorem Binding.bytes_eq (f : Binding) :
    f.bytes =
      layout
        ([(1, [Kind.outlet, .air, .flow, .pressure, .concentration, .valve].idxOf f.kind),
          (1, f.node.toNat), (1, f.sub), (1, bitsValue [f.careHigh, f.careLow, f.careSub])] ++
          destFields f.dest ++
          [(1, [Combine.replace, .lowest].idxOf f.combine), (2, f.freshLimit), (2, f.holdLimit)]) := by
  simp only [Binding.bytes, Kind.code_eq, Combine.code_eq, putDest_eq, Binding.careByte_eq, putByte_eq, layout_append,
    layout_cons, layout_nil, bigEndian_one, bigEndian_two, List.append_nil, List.append_assoc]

theorem State.bindingView_eq (s : State) {b : BindingId} {f : Binding}
    (bound : s.binding b = .active f ∨ s.binding b = .held f) :
    s.bindingView b =
      layout [(1, if s.binding b = .active f then 1 else 2)] ++ f.bytes ++ s.destView (s.dest f.dest) := by
  rcases bound with active | held
  · rw [State.bindingView, active, if_pos rfl]
    rfl
  · rw [State.bindingView, held, if_neg nofun]
    rfl

/-! ### The view of a clear line (R160) -/

theorem State.lineView_eq (s : State) (k : LineId) :
    let c := s.line k
    s.lineView k =
      layout
        ([(3, c.mask.toNat), (1, c.delayCode.val), (1, [LineState.asserted, .released].idxOf c.state),
          (1, (s.maskSafe c.mask).toNat)] ++ timerFields s c.timer ++
          [(3, slotsValue fun n => c.mask.getLsbD n.val && !(s.sec n).safe)]) := by
  intro c
  have failing (n : Slot) : (s.failingSet c.mask).contains n = (c.mask.getLsbD n.val && !(s.sec n).safe) := by
    rw [Bool.eq_iff_iff]
    simp only [State.failingSet, maskSlots, List.contains_iff_mem, List.mem_filter, mem_allSlots, true_and,
      Bool.and_eq_true]
  simp only [State.lineView, putMask_eq, slotMask_toNat, failing, LineState.code_eq, putBool, putTimer_eq, layout_append,
    layout_cons, layout_nil, bigEndian_one, List.append_nil, List.append_assoc, c]

/-! ### The view of the search (R155) -/

theorem CaptureWindow.view_eq (w : CaptureWindow) :
    w.view =
      layout
        [(2, w.count), (2, twos16 (pressureOf w.first)), (2, twos16 (pressureOf w.last)), (2, w.span)] := by
  simp only [CaptureWindow.view, putSigned_eq_bigEndian, layout_cons, layout_nil, bigEndian_two, List.append_nil,
    List.append_assoc]

theorem SearchContext.listView_eq (c : SearchContext) :
    c.listView =
      layout
        [(1, c.candidates.length), (3, slotsValue fun n => c.candidates.any (·.lead == n)),
          (3, slotsValue fun n => c.candidates.any (·.follower == some n))] := by
  have leads (n : Slot) : (c.candidates.map (·.lead)).contains n = c.candidates.any (·.lead == n) := by
    rw [Bool.eq_iff_iff]
    simp only [List.contains_iff_mem, List.mem_map, List.any_eq_true, beq_iff_eq]
  have followers (n : Slot) :
      (c.candidates.filterMap (·.follower)).contains n = c.candidates.any (·.follower == some n) := by
    rw [Bool.eq_iff_iff]
    simp only [List.contains_iff_mem, List.mem_filterMap, List.any_eq_true, beq_iff_eq]
  simp only [SearchContext.listView, putMask_eq, slotMask_toNat, leads, followers, layout_cons, layout_nil,
    bigEndian_one, List.append_nil, List.append_assoc]

/-- The eleven bytes where the parameters stand: free ones while the search holds none. -/
def State.freeParams (s : State) : List Byte := (List.range 11).map s.freeByte

theorem State.searchView_eq (s : State) :
    let c := s.search
    s.searchView =
      layout
          ([(1, [SearchState.idle, .settling, .observing, .resting, .suspended, .held].idxOf c.state)] ++
            optionFields [1] (fun p => [[Phase.probe, .confirm].idxOf p]) c.phase ++
            optionFields [1] (fun l : LoopId => [l.val]) c.loopOf) ++
        (match c.params with
          | some p => layout (paramFields p)
          | none => s.freeParams) ++
        layout
          [(1, c.candidates.length), (3, slotsValue fun n => c.candidates.any (·.lead == n)),
            (3, slotsValue fun n => c.candidates.any (·.follower == some n))] ++
        (if c.rangeLo < c.rangeHi then layout [(1, c.rangeLo), (1, c.rangeHi)]
          else [s.freeByte 11, s.freeByte 12]) ++
        layout
          ([(3, slotsValue fun n => c.isolated.contains n), (3, slotsValue fun n => c.wait.contains n),
            (1, c.steps), (1, c.repeats), (1, c.preemptions), (1, c.restartsUsed)] ++
            timerFields s c.phaseTimer ++ timerFields s c.deadline ++
            [(2, c.window.count), (2, twos16 (pressureOf c.window.first)),
              (2, twos16 (pressureOf c.window.last)), (2, c.window.span)] ++
            optionFields [4] (fun v => [v]) c.lastRate ++
            [(3, slotsValue fun n => c.heldUnit.any fun u => u.members.contains n),
              (1, [SearchResult.none, .found, .inconclusive, .preempted, .valveFault, .noPressure,
                .stopped, .halted].idxOf c.result)]) := by
  intro c
  have phase : putOption 1 (fun p : Phase => put8 p.code) c.phase =
      layout (optionFields [1] (fun p => [[Phase.probe, .confirm].idxOf p]) c.phase) :=
    putOption_eq [1] (fun p => [[Phase.probe, .confirm].idxOf p]) rfl
      (fun p => by rw [Phase.code_eq, ← bigEndian_one]; rfl) c.phase
  have loop : putOption 1 (fun l : LoopId => put8 l.val) c.loopOf =
      layout (optionFields [1] (fun l : LoopId => [l.val]) c.loopOf) :=
    putOption_eq [1] (fun l : LoopId => [l.val]) rfl (fun l => (bigEndian_one l.val).symm) c.loopOf
  have params : s.paramsView =
      match c.params with
      | some p => layout (paramFields p)
      | none => s.freeParams := by
    unfold State.paramsView
    simp only [SearchParams.bytes_eq]
    rfl
  have range : s.rangeView =
      if c.rangeLo < c.rangeHi then layout [(1, c.rangeLo), (1, c.rangeHi)]
      else [s.freeByte 11, s.freeByte 12] := by
    simp only [State.rangeView, layout_cons, layout_nil, bigEndian_one, List.append_nil, c]
  have held (n : Slot) : c.heldSlots.contains n = c.heldUnit.any fun u => u.members.contains n := by
    unfold SearchContext.heldSlots
    cases c.heldUnit <;> rfl
  have view : s.searchView =
      put8 c.state.code ++ putOption 1 (fun p => put8 p.code) c.phase ++
        putOption 1 (fun l => put8 l.val) c.loopOf ++ s.paramsView ++ c.listView ++ s.rangeView ++
        putMask (slotMask c.isolated) ++ putMask (slotMask c.wait) ++ put8 c.steps ++ put8 c.repeats ++
        put8 c.preemptions ++ put8 c.restartsUsed ++ putOption 2 put16 (s.remaining c.phaseTimer) ++
        putOption 2 put16 (s.remaining c.deadline) ++ c.window.view ++ putOption 4 put32 c.lastRate ++
        putMask (slotMask c.heldSlots) ++ put8 c.result.code := rfl
  rw [view, phase, loop, params, range]
  simp only [SearchState.code_eq, SearchResult.code_eq, SearchContext.listView_eq, CaptureWindow.view_eq, putMask_eq,
    slotMask_toNat, held, putTimer_eq, putMoment_eq, layout_append, layout_cons, layout_nil, bigEndian_one,
    List.append_nil, List.append_assoc]

@[simp] theorem layout_length (fields : List (Nat × Nat)) : (layout fields).length = (fields.map (·.1)).sum := by
  induction fields with
  | nil => rfl
  | cons field rest ih => rw [layout_cons, List.length_append, bigEndian_length, ih, List.map_cons, List.sum_cons]

/-- The search's view has 58 bytes, whatever of it is absent. -/
theorem State.searchView_length (s : State) : s.searchView.length = 58 := by
  have params : (match s.search.params with
      | some p => layout (paramFields p)
      | none => s.freeParams).length = 11 := by
    cases s.search.params with
    | none => simp [State.freeParams]
    | some p => simp [paramFields]
  have range : (if s.search.rangeLo < s.search.rangeHi then layout [(1, s.search.rangeLo), (1, s.search.rangeHi)]
      else [s.freeByte 11, s.freeByte 12]).length = 2 := by
    split <;> simp
  have option {α : Type} (w : Nat) (numbers : α → Nat) (x : Option α) :
      (layout (optionFields [w] (fun a => [numbers a]) x)).length = 1 + w := by
    cases x <;> simp [optionFields]
  rw [State.searchView_eq]
  simp only [List.length_append, params, range, layout_append, option, timerFields, layout_length, List.map_cons,
    List.map_nil, List.sum_cons, List.sum_nil, Nat.reduceAdd]

end Sys2Proof.Machine
end

section
/-! PROOF. The lookups answer their views (R21, R72, R111, R155, R160, R179). -/

namespace Sys2Proof.Machine

open Sys2Proof

theorem field8_zero_iff (v : Byte) : field8 [v] 0 = 0 ↔ v = 0 := (BitVec.toNat_inj (y := 0)).trans Iff.rfl

theorem exec_lookup_of_enrolled {s : State} (taking : s.taking) (dt : Nat) {n : Slot} {v : Byte}
    (enrolled : (s.sec n).slot ≠ .vacant) (defined : v.toNat < 2) :
    exec (.lookup dt (indexByte n) [v]) s =
      .next (s.answered dt 3 .done (if v = 0 then (s.atTake dt).configView n else (s.atTake dt).liveView n)) := by
  have parts : requestParts (.lookup dt (indexByte n) [v]) = some (3, dt, indexByte n, [v]) := rfl
  have known : ¬ undefinedCode [v] 0 2 = true := by
    rw [undefinedCode_iff]
    exact fun ⟨_, beyond⟩ => absurd beyond (Nat.not_le.mpr defined)
  refine exec_request_of_answer parts taking ?_
  change lookupRequest _ _ _ = _
  have zero : field8 [v] 0 = 0 ↔ v = 0 := field8_zero_iff v
  rw [lookupRequest, onSlot_index, if_neg (fun h => h rfl), if_neg known, State.atTake_sec, if_neg enrolled]
  simp only [zero]
  split <;> rfl

theorem exec_loopLookup {s : State} (taking : s.taking) (dt : Nat) (l : LoopId) (v : Byte) :
    exec (.loopLookup dt (indexByte l) [v]) s =
      .next
        (if 2 ≤ v.toNat then s.answered dt 17 .badKind []
        else
          s.answered dt 17 .done
            (if (s.loopRec l).isSet = false then [0]
            else if v = 0 then (s.loopRec l).configView
            else (s.atTake dt).loopLiveView l)) := by
  have parts : requestParts (.loopLookup dt (indexByte l) [v]) = some (17, dt, indexByte l, [v]) := rfl
  have owner : requestOwner 17 (indexByte l) [v] (s.atTake dt) =
      loopLookupRequest (indexByte l) [v] (s.atTake dt) := rfl
  have code : undefinedCode [v] 0 2 = true ↔ 2 ≤ v.toNat :=
    undefinedCode_iff_of_lt (p := [v]) Nat.zero_lt_one 2
  have zero : field8 [v] 0 = 0 ↔ v = 0 := field8_zero_iff v
  rw [loopLookupRequest, onLoop_index, if_neg (fun h => h rfl)] at owner
  simp only [code, zero, State.atTake_loopRec] at owner
  split
  next undefined => exact exec_request_of_no parts taking (owner.trans (if_pos undefined))
  next defined =>
    refine exec_request_of_answer parts taking ((owner.trans (if_neg defined)).trans ?_)
    cases set : (s.loopRec l).isSet with
    | false =>
      simp only [Bool.not_false, if_true, LoopRecord.stateCode, set]
      rfl
    | true =>
      simp only [Bool.not_true, Bool.false_eq_true, Bool.true_eq_false, if_false]
      split <;> rfl

theorem exec_bindingLookup {s : State} (taking : s.taking) (dt : Nat) (b : BindingId) :
    exec (.bindingLookup dt (indexByte b) []) s =
      .next (s.answered dt 35 .done (if s.binding b = .empty then [0] else (s.atTake dt).bindingView b)) := by
  have parts : requestParts (.bindingLookup dt (indexByte b) []) = some (35, dt, indexByte b, []) := rfl
  have view : (if s.binding b = .empty then [0] else (s.atTake dt).bindingView b) = (s.atTake dt).bindingView b := by
    split
    next empty =>
      rw [State.bindingView, State.atTake_binding, empty]
      rfl
    next => rfl
  rw [view]
  refine exec_request_of_answer parts taking ?_
  change bindingLookupRequest _ _ _ = _
  rw [bindingLookupRequest, onBinding_index]
  rfl

theorem exec_clearLineLookup {s : State} (taking : s.taking) (dt : Nat) (k : LineId) :
    exec (.clearLineLookup dt (indexByte k) []) s = .next (s.answered dt 49 .done ((s.atTake dt).lineView k)) := by
  have parts : requestParts (.clearLineLookup dt (indexByte k) []) = some (49, dt, indexByte k, []) := rfl
  refine exec_request_of_answer parts taking ?_
  change clearLineLookupRequest _ _ _ = _
  rw [clearLineLookupRequest, onLine_index]
  rfl

/-- SEARCH LOOKUP draws thirteen free bytes, for the parameters and the range that may be absent. -/
theorem exec_searchLookup {s : State} (taking : s.taking) (dt : Nat) :
    exec (.searchLookup dt 0 []) s =
      .next { s.answered dt 66 .done (s.atTake dt).searchView with freeCount := s.freeCount + 13 } := by
  have parts : requestParts (.searchLookup dt 0 []) = some (66, dt, 0, []) := rfl
  have owner : requestOwner 66 0 [] (s.atTake dt) =
      .accept ((s.atTake dt).drawFree 13) .done (s.atTake dt).searchView := rfl
  rw [exec_request_of_accept parts taking owner]
  rfl

theorem put32_toNat (t : BitVec 32) :
    put32 t.toNat = [t.extractLsb' 24 8, t.extractLsb' 16 8, t.extractLsb' 8 8, t.extractLsb' 0 8] := by
  have part (k : Nat) : BitVec.ofNat 8 (t.toNat / 2 ^ k) = t.extractLsb' k 8 := by
    apply BitVec.eq_of_toNat_eq
    rw [BitVec.extractLsb'_toNat, Nat.shiftRight_eq_div_pow, BitVec.toNat_ofNat]
  rw [← part 24, ← part 16, ← part 8, ← part 0]
  simp [put32, put16, put8, Nat.div_div_eq_div_mul]

theorem exec_partStatus {s : State} (taking : s.taking) (dt : Nat) :
    exec (.partStatus dt 0 []) s =
      .next
        (s.answered dt 96 .done
          [68, 1, BitVec.ofNat 8 ([ResetCause.power, .pin, .request].idxOf s.resetCause),
            if s.stopLow then 1 else 0,
            BitVec.ofNat 8 s.attention.length, BitVec.ofNat 8 s.evalQueue.length,
            BitVec.ofNat 8 s.txQueue.length,
            BitVec.ofNat 8
              ([SearchState.idle, .settling, .observing, .resting, .suspended, .held].idxOf s.search.state),
            BitVec.ofNat 8 (allSlots.filter fun n => (s.sec n).slot != .vacant).length,
            (s.atTake dt).partTime.extractLsb' 24 8, (s.atTake dt).partTime.extractLsb' 16 8,
            (s.atTake dt).partTime.extractLsb' 8 8, (s.atTake dt).partTime.extractLsb' 0 8]) := by
  have parts : requestParts (.partStatus dt 0 []) = some (96, dt, 0, []) := rfl
  have owner : requestOwner 96 0 [] (s.atTake dt) = .answer (s.atTake dt) (s.atTake dt).statusView := rfl
  have enrolled (x : SlotState) : x.enrolled = (x != .vacant) := by cases x <;> rfl
  have stop : putBool s.stopLow = [if s.stopLow then 1 else 0] := by cases s.stopLow <;> rfl
  rw [exec_request_of_answer parts taking owner]
  congr 2
  have view : (s.atTake dt).statusView =
      put8 68 ++ put8 1 ++ put8 s.resetCause.code ++ putBool s.stopLow ++ put8 s.attention.length ++
        put8 s.evalQueue.length ++ put8 s.txQueue.length ++ put8 s.search.state.code ++
        put8 (allSlots.filter fun n => (s.sec n).slot.enrolled).length ++ put32 (s.atTake dt).partTime.toNat := rfl
  rw [view, put32_toNat, stop]
  simp only [ResetCause.code_eq, SearchState.code_eq, enrolled]
  rfl

/-- Settles O15: each lookup answers its view without a change, and each view is the layout of its fields. -/
theorem lookupsOnlyAnswer : Obligations.LookupsOnlyAnswer := by
  refine ⟨fun s dt taking => ⟨fun n v enrolled defined => exec_lookup_of_enrolled taking dt enrolled defined,
    exec_loopLookup taking dt, exec_bindingLookup taking dt, exec_clearLineLookup taking dt,
    exec_searchLookup taking dt, State.searchView_length _, exec_partStatus taking dt⟩, fun s => ⟨fun n =>
    ⟨s.configView_eq n, s.liveView_eq n⟩, fun l => ⟨(s.loopRec l).configView_eq, s.loopLiveView_eq l⟩,
    fun b f bound => ?_, s.lineView_eq, ?_⟩⟩
  · intro d
    rw [s.bindingView_eq bound, Binding.bytes_eq, State.destView_eq]
    simp only [layout_append, layout_cons, layout_nil, List.append_nil, List.append_assoc, d]
  · exact ⟨s.freeParams, [s.freeByte 11, s.freeByte 12], by simp [State.freeParams], rfl, s.searchView_eq⟩

end Sys2Proof.Machine
end

section
/-! PROOF. The waits of the search as the statements read them, and what they read of the state before. -/

namespace Sys2Proof.Machine

open Sys2Proof

/-! ### What the statements about the search read of the state before -/

/-- The marks, protection states and configurations of the sections and the configurations of the loops agree. -/
structure SameUnits (s u : State) : Prop where
  mark : ∀ n, (u.sec n).mark = (s.sec n).mark
  protection : ∀ n, (u.sec n).protection = (s.sec n).protection
  config : ∀ n, (u.sec n).config = (s.sec n).config
  loop : ∀ l, (u.loopRec l).config = (s.loopRec l).config

theorem SameUnits.of_sections {s u : State} (sections : u.sections = s.sections) (loops : u.loops = s.loops) :
    SameUnits s u := by
  have sec (n : Slot) : u.sec n = s.sec n := by rw [State.sec, sections]; rfl
  have loop (l : LoopId) : u.loopRec l = s.loopRec l := by rw [State.loopRec, loops]; rfl
  exact ⟨fun n => by rw [sec], fun n => by rw [sec], fun n => by rw [sec], fun l => by rw [loop]⟩

theorem SameUnits.openPosted {s u t : State} (same : SameUnits s u) {slots : List Slot}
    (opened : OpenPosted u t slots) : OpenPosted s t slots := by
  intro n member
  rw [← same.config n]
  exact opened n member

theorem SameUnits.monitorBegins {s u t : State} (same : SameUnits s u) {loopOf : Option LoopId}
    (begins : MonitorBegins u t loopOf) : MonitorBegins s t loopOf := by
  intro l is
  rw [← same.loop l]
  exact begins l is

/-- An ending seen from a state whose search differs in nothing that an ending keeps. -/
theorem SameUnits.searchEnded {s u t : State} (same : SameUnits s u) {result : SearchResult}
    (context : u.search.ended result = s.search.ended result) (isolated : u.search.isolated = s.search.isolated)
    (h : SearchEnded u t result) : SearchEnded s t result := by
  obtain ⟨ended, posted, marks, opened, monitor⟩ := h
  have loopOf : u.search.loopOf = s.search.loopOf := by
    show (u.search.ended result).loopOf = (s.search.ended result).loopOf
    rw [context]
  rw [isolated] at marks opened
  rw [loopOf] at monitor
  exact ⟨ended.trans context, posted, fun n => by rw [marks n, same.mark n], same.openPosted opened,
    same.monitorBegins monitor⟩

theorem SameUnits.isolationMade {s u t : State} (same : SameUnits s u) {c : SearchContext} {p : SearchParams}
    {tenths : Nat} (made : IsolationMade u t c p tenths fun n => (u.sec n).mark) :
    IsolationMade s t c p tenths fun n => (s.sec n).mark := by
  have marks : (fun n => (u.sec n).mark) = fun n => (s.sec n).mark := funext same.mark
  rw [marks] at made
  exact isolationMade_congr s u t c p tenths _ (fun n => ⟨(same.protection n).symm, by rw [same.config n]⟩)
    (fun l => by rw [same.loop l]) made

/-! ### The settling wait (R140) -/

theorem State.allRead_iff (s : State) (slots : List Slot) (v : Int) :
    s.allRead slots v = true ↔ ∀ n ∈ slots, (s.sec n).valve.reads v = true := List.all_eq_true

/-- The context of a search that begins to observe. -/
def SearchContext.observing (c : SearchContext) (p : SearchParams) (tenths : Nat) : SearchContext :=
  { c with
    state := .observing, deadline := none, window := .empty,
    phaseTimer := some (tenths + 10 * p.observe) }

theorem State.judgeSettling_of_met {s : State} {p : SearchParams} (params : s.search.params = some p)
    (timer : s.search.phaseTimer = none) (closed : ∀ n ∈ s.search.isolated, (s.sec n).valve.reads 1 = true) :
    s.judgeSettling = { s with search := s.search.observing p s.tenths } := by
  refine (if_pos ⟨timer, (s.allRead_iff _ 1).mpr closed⟩).trans ?_
  have observe : s.search.param (·.observe) = p.observe := by rw [SearchContext.param, params]
  rw [State.modSearch, observe]
  rfl

theorem State.judgeSettling_of_unmet {s : State}
    (unmet : ¬ (s.search.phaseTimer = none ∧ ∀ n ∈ s.search.isolated, (s.sec n).valve.reads 1 = true)) :
    s.judgeSettling = s :=
  if_neg fun met => unmet ⟨met.1, (s.allRead_iff _ 1).mp met.2⟩

/-! ### The rest wait and the resumption (R144, R147) -/

theorem isolationMade_newStep {s : State} {p : SearchParams} (params : s.search.params = some p) :
    IsolationMade s s.newStep { s.search with steps := min 255 (s.search.steps + 1) } p s.tenths
      fun n => (s.sec n).mark :=
  SameUnits.isolationMade (SameUnits.of_sections rfl rfl)
    (isolationMade_isolate (s.modSearch fun c => { c with steps := min 255 (c.steps + 1) }) p params)

theorem State.judgeResting_of_met {s : State} {p : SearchParams} (params : s.search.params = some p)
    (timer : s.search.phaseTimer = none) (opened : ∀ n ∈ s.search.wait, (s.sec n).valve.reads 0 = true) :
    IsolationMade s s.judgeResting
      { s.search with deadline := none, wait := [], steps := min 255 (s.search.steps + 1) } p s.tenths
      fun n => (s.sec n).mark := by
  have step : s.judgeResting = (s.modSearch fun c => { c with deadline := none, wait := [] }).newStep :=
    if_pos ⟨timer, (s.allRead_iff _ 0).mpr opened⟩
  rw [step]
  exact SameUnits.isolationMade (SameUnits.of_sections rfl rfl)
    (isolationMade_newStep (s := s.modSearch fun c => { c with deadline := none, wait := [] }) params)

theorem State.judgeResting_of_unmet {s : State}
    (unmet : ¬ (s.search.phaseTimer = none ∧ ∀ n ∈ s.search.wait, (s.sec n).valve.reads 0 = true)) :
    s.judgeResting = s :=
  if_neg fun met => unmet ⟨met.1, (s.allRead_iff _ 0).mp met.2⟩

theorem State.judgeSuspended_of_met {s : State} {p : SearchParams} (params : s.search.params = some p)
    (timer : s.search.phaseTimer = none) (normal : ∀ n ∈ s.search.wait, (s.sec n).protection = .normal)
    (opened : ∀ n ∈ s.search.wait, (s.sec n).valve.reads 0 = true) :
    IsolationMade s s.judgeSuspended { s.search with wait := [] } p s.tenths fun n => (s.sec n).mark := by
  have calm : (s.search.wait.all fun n => (s.sec n).protection == .normal) = true := by
    simpa only [List.all_eq_true, beq_iff_eq] using normal
  have met := And.intro timer (And.intro calm ((s.allRead_iff _ 0).mpr opened))
  have step : s.judgeSuspended = (s.modSearch fun c => { c with wait := [] }).isolate := if_pos met
  rw [step]
  exact SameUnits.isolationMade (SameUnits.of_sections rfl rfl)
    (isolationMade_isolate (s.modSearch fun c => { c with wait := [] }) p params)

theorem State.judgeSuspended_of_unmet {s : State}
    (unmet : ¬ (s.search.phaseTimer = none ∧ (∀ n ∈ s.search.wait, (s.sec n).protection = .normal) ∧
      ∀ n ∈ s.search.wait, (s.sec n).valve.reads 0 = true)) :
    s.judgeSuspended = s := by
  refine if_neg fun met => unmet ⟨met.1, ?_, (s.allRead_iff _ 0).mp met.2.2⟩
  simpa only [List.all_eq_true, beq_iff_eq] using met.2.1

/-! ### The expiries of the search's two timers -/

/-- The part at the expiry of the phase timer, which has stopped. -/
def State.phaseExpired (s : State) (e : Nat) : State :=
  { s with time := max s.time (e * unitsPerTenth), search := { s.search with phaseTimer := none } }

/-- The part at the expiry of the deadline, which has stopped. -/
def State.deadlineExpired (s : State) (e : Nat) : State :=
  { s with time := max s.time (e * unitsPerTenth), search := { s.search with deadline := none } }

theorem State.phaseExpired_same (s : State) (e : Nat) : SameUnits s (s.phaseExpired e) :=
  SameUnits.of_sections rfl rfl

theorem State.deadlineExpired_same (s : State) (e : Nat) : SameUnits s (s.deadlineExpired e) :=
  SameUnits.of_sections rfl rfl

theorem State.mem_notReading {s : State} {slots : List Slot} {v : Int} {n : Slot} (member : n ∈ slots)
    (reads : (s.sec n).valve.reads v = false) : n ∈ s.notReading slots v := by
  simp [State.notReading, member, reads]

/-! ### Captures of a VALVE reading -/

/-- A state after a VALVE reading of a section is captured and before the search is told. -/
structure ValveKept (s u : State) (dt : Nat) (n : Slot) (kept : Destination) : Prop where
  same : SameUnits s u
  search : u.search = s.search
  tenths : u.tenths = (s.time + dt) / unitsPerTenth
  valve : ∀ m, (u.sec m).valve = if m = n then kept else (s.sec m).valve

theorem ValveKept.reads_iff {s u : State} {dt : Nat} {n : Slot} {kept : Destination} (h : ValveKept s u dt n kept)
    (slots : List Slot) (position : Int) :
    (∀ m ∈ slots, (u.sec m).valve.reads position = true) ↔ s.readsAfter kept n slots position := by
  simp only [h.valve, State.readsAfter]

theorem valveKept_setDest (s : State) (dt : Nat) (seen : Vector Byte 256) (n : Slot) (kept : Destination) :
    ValveKept s ({ s.atGap dt with seen := seen }.setDest (.valve n) kept) dt n kept := by
  have sec (m : Slot) : ({ s.atGap dt with seen := seen }.setDest (.valve n) kept).sec m =
      if m = n then { s.sec n with valve := kept } else s.sec m := by
    rw [State.setDest, State.modSec_sec_eq]
    rfl
  refine ⟨⟨fun m => ?_, fun m => ?_, fun m => ?_, fun _ => rfl⟩, rfl, rfl, fun m => ?_⟩
  all_goals rw [sec]; split <;> simp_all

/-- A delivered VALVE reading is captured and the search told; whatever the search makes of it, the destination
holds what was captured. -/
theorem exec_fragmentEnd_of_valve {s : State} {dt : Nat} {chars : List BusChar} {b : BindingId} {f : Binding}
    {r : Reading} {q : Quality} (delivers : Delivers s dt chars b f r q) {n : Slot} (dest : f.dest = .valve n) :
    ∃ u, ValveKept s u dt n (s.keeps dt f r q) ∧
      exec (.fragmentEnd dt chars) s = .next (u.searchValveCapture n r.value) ∧
      ((u.searchValveCapture n r.value).sec n).valve = s.keeps dt f r q := by
  obtain ⟨seen, run⟩ := exec_fragmentEnd_of_delivers delivers
  rw [dest] at run
  have kept := valveKept_setDest s dt seen n (s.keeps dt f r q)
  refine ⟨_, kept, run, ?_⟩
  have dests := (searchStable_dests _).searchValveCapture
    ({ s.atGap dt with seen := seen }.setDest (.valve n) (s.keeps dt f r q)) n r.value (fun _ => rfl)
  exact (dests (.valve n)).trans ((kept.valve n).trans (if_pos rfl))

/-- The ending at a capture that names its section. -/
theorem ValveKept.fault {s u : State} {dt : Nat} {n : Slot} {kept : Destination} (h : ValveKept s u dt n kept) :
    SearchEnded s (u.valveFault [n]) .valveFault ∧
      { kind := .valveFault, subject := n.val } ∈ (u.valveFault [n]).attention :=
  ⟨h.same.searchEnded (by rw [h.search]) (by rw [h.search]) (searchEnded_valveFault u [n]),
    State.mem_valveFault u [n] n (List.mem_singleton_self n)⟩

end Sys2Proof.Machine
end

section
/-! PROOF. SETTLING (R140). -/

namespace Sys2Proof.Machine

open Sys2Proof

theorem exec_settleTimerExpiry {s : State} (awake : s.inReset = false) (state : s.search.state = .settling) {e : Nat}
    (timer : s.search.phaseTimer = some e) :
    exec .settleTimerExpiry s = .next (s.phaseExpired e).judgeSettling := by
  change Host.Outcome.next (s.occur State.expireSettle) = _
  rw [State.occur_of_awake awake, State.expireSettle, if_pos state, timer]
  rfl

theorem exec_settleDeadlineExpiry {s : State} (awake : s.inReset = false) (state : s.search.state = .settling)
    {e : Nat} (timer : s.search.deadline = some e) :
    exec .settleDeadlineExpiry s =
      .next
        (if (s.deadlineExpired e).settlingMet then (s.deadlineExpired e).judgeSettling
        else (s.deadlineExpired e).valveFault ((s.deadlineExpired e).notReading s.search.isolated 1)) := by
  change Host.Outcome.next (s.occur State.expireSettleDeadline) = _
  rw [State.occur_of_awake awake, State.expireSettleDeadline, if_pos state, timer]
  rfl

theorem State.settlingMet_iff (s : State) :
    s.settlingMet = true ↔
      s.search.phaseTimer = none ∧ ∀ n ∈ s.search.isolated, (s.sec n).valve.reads 1 = true := by
  rw [State.settlingMet, Bool.and_eq_true, Option.isNone_iff_eq_none, State.allRead_iff]

/-- The capture of an isolated section's VALVE reading in SETTLING. -/
theorem State.searchValveCapture_of_settling {s : State} (state : s.search.state = .settling) {n : Slot}
    (member : n ∈ s.search.isolated) (value : Int) :
    s.searchValveCapture n value = if value = 3 then s.valveFault [n] else s.judgeSettling := by
  unfold State.searchValveCapture
  rw [state]
  exact if_pos member

theorem settling_capture {s u : State} {p : SearchParams} {dt : Nat} {n : Slot} {kept : Destination}
    (h : ValveKept s u dt n kept) (state : s.search.state = .settling) (params : s.search.params = some p)
    (member : n ∈ s.search.isolated) (value : Int) :
    let c := s.search
    let t := u.searchValveCapture n value
    (value = 3 →
      SearchEnded s t .valveFault ∧ { kind := .valveFault, subject := n.val } ∈ t.attention) ∧
    (value ≠ 3 →
      (∀ m, (t.sec m).mark = (s.sec m).mark) ∧
      (c.phaseTimer = none ∧ s.readsAfter kept n c.isolated 1 →
        t.search = c.observing p ((s.time + dt) / unitsPerTenth)) ∧
      (¬ (c.phaseTimer = none ∧ s.readsAfter kept n c.isolated 1) → t.search = c)) := by
  intro c t
  have step : t = if value = 3 then u.valveFault [n] else u.judgeSettling :=
    State.searchValveCapture_of_settling (h.search ▸ state) (h.search ▸ member) value
  rw [step]
  refine ⟨fun fault => ?_, fun sound => ?_⟩
  · rw [if_pos fault]
    exact h.fault
  · rw [if_neg sound]
    have closed_iff := h.reads_iff u.search.isolated 1
    rw [← h.tenths, show c = u.search from h.search.symm, ← closed_iff]
    by_cases met : u.search.phaseTimer = none ∧ ∀ m ∈ u.search.isolated, (u.sec m).valve.reads 1 = true
    · rw [State.judgeSettling_of_met (h.search ▸ params) met.1 met.2]
      exact ⟨h.same.mark, fun _ => rfl, fun unmet => absurd met unmet⟩
    · rw [State.judgeSettling_of_unmet met]
      exact ⟨h.same.mark, fun now => absurd now met, fun _ => rfl⟩

/-- Settles O40: the timer, the deadline and each capture judge the same wait. -/
theorem settlingWaitsForClosedValves : Obligations.SettlingWaitsForClosedValves := by
  intro s p state params c closed observing
  refine ⟨fun e awake => ?_, fun dt chars b f r q n delivers dest member => ?_⟩
  · intro now observed
    refine ⟨fun timer => ⟨fun met => ?_, fun unmet => ?_⟩, fun deadline => ⟨fun timer met => ?_, fun unmet => ?_⟩⟩
    · exact (exec_settleTimerExpiry awake state timer).trans
        (congrArg Host.Outcome.next (State.judgeSettling_of_met params rfl met))
    · exact (exec_settleTimerExpiry awake state timer).trans
        (congrArg Host.Outcome.next (State.judgeSettling_of_unmet fun met => unmet met.2))
    · refine (exec_settleDeadlineExpiry awake state deadline).trans (congrArg Host.Outcome.next ?_)
      exact (if_pos ((State.settlingMet_iff _).mpr ⟨timer, met⟩)).trans (State.judgeSettling_of_met params timer met)
    · refine ⟨_, exec_settleDeadlineExpiry awake state deadline, ?_⟩
      have waits : ¬ (s.deadlineExpired e).settlingMet = true := fun met => unmet ((State.settlingMet_iff _).mp met)
      rw [if_neg waits]
      exact ⟨(s.deadlineExpired_same e).searchEnded rfl rfl (searchEnded_valveFault _ _), fun n member reads =>
        State.mem_valveFault _ _ n (State.mem_notReading member reads)⟩
  · obtain ⟨u, kept, run, valve⟩ := exec_fragmentEnd_of_valve delivers dest
    exact ⟨_, run, valve, settling_capture kept state params member r.value⟩

end Sys2Proof.Machine
end

section
/-! PROOF. RESTING and SUSPENDED (R144, R147). -/

namespace Sys2Proof.Machine

open Sys2Proof

theorem exec_restTimerExpiry {s : State} (awake : s.inReset = false)
    (state : s.search.state = .resting ∨ s.search.state = .suspended) {e : Nat} (timer : s.search.phaseTimer = some e) :
    exec .restTimerExpiry s = .next (s.phaseExpired e).judgeWait := by
  change Host.Outcome.next (s.occur State.expireRest) = _
  rw [State.occur_of_awake awake, State.expireRest, if_pos state, timer]
  rfl

theorem exec_restDeadlineExpiry {s : State} (awake : s.inReset = false) (state : s.search.state = .resting) {e : Nat}
    (timer : s.search.deadline = some e) :
    exec .restDeadlineExpiry s =
      .next
        (if (s.deadlineExpired e).restMet then (s.deadlineExpired e).judgeResting
        else (s.deadlineExpired e).valveFault ((s.deadlineExpired e).notReading s.search.wait 0)) := by
  change Host.Outcome.next (s.occur State.expireRestDeadline) = _
  rw [State.occur_of_awake awake, State.expireRestDeadline, if_pos state, timer]
  rfl

theorem State.restMet_iff (s : State) :
    s.restMet = true ↔ s.search.phaseTimer = none ∧ ∀ n ∈ s.search.wait, (s.sec n).valve.reads 0 = true := by
  rw [State.restMet, Bool.and_eq_true, Option.isNone_iff_eq_none, State.allRead_iff]

theorem State.judgeWait_of_resting {s : State} (state : s.search.state = .resting) : s.judgeWait = s.judgeResting := by
  unfold State.judgeWait
  rw [state]

theorem State.judgeWait_of_suspended {s : State} (state : s.search.state = .suspended) :
    s.judgeWait = s.judgeSuspended := by
  unfold State.judgeWait
  rw [state]

/-- The wait of RESTING or SUSPENDED is met: the phase timer has expired, every awaited section reads open, and in
SUSPENDED every one is in NORMAL. -/
def State.waitMet (s : State) : Prop :=
  s.search.phaseTimer = none ∧ (∀ n ∈ s.search.wait, (s.sec n).valve.reads 0 = true) ∧
    (s.search.state = .suspended → ∀ n ∈ s.search.wait, (s.sec n).protection = .normal)

theorem State.judgeWait_of_unmet {s : State} (unmet : ¬ s.waitMet) : s.judgeWait = s := by
  cases state : s.search.state with
  | resting =>
    rw [State.judgeWait_of_resting state]
    exact State.judgeResting_of_unmet fun met => unmet ⟨met.1, met.2, fun other => by simp [state] at other⟩
  | suspended =>
    rw [State.judgeWait_of_suspended state]
    exact State.judgeSuspended_of_unmet fun met => unmet ⟨met.1, met.2.2, fun _ => met.2.1⟩
  | _ => simp only [State.judgeWait, state]

/-- The context of the isolation that a met wait makes: a new step after RESTING, the same one after SUSPENDED. -/
def SearchContext.resumed (c : SearchContext) : SearchContext :=
  if c.state = .resting then
    { c with phaseTimer := none, wait := [], deadline := none, steps := min 255 (c.steps + 1) }
  else { c with phaseTimer := none, wait := [] }

theorem State.judgeWait_of_met {s : State} {p : SearchParams} (params : s.search.params = some p)
    (state : s.search.state = .resting ∨ s.search.state = .suspended) (met : s.waitMet) :
    IsolationMade s s.judgeWait s.search.resumed p s.tenths fun n => (s.sec n).mark := by
  obtain ⟨timer, opened, normal⟩ := met
  rcases state with resting | suspended
  · rw [State.judgeWait_of_resting resting, SearchContext.resumed, if_pos resting]
    exact State.judgeResting_of_met params timer opened
  · rw [State.judgeWait_of_suspended suspended, SearchContext.resumed, if_neg (by simp [suspended])]
    exact State.judgeSuspended_of_met params timer (normal suspended) opened

/-- The capture of an awaited section's VALVE reading. -/
theorem State.searchValveCapture_of_waiting {s : State}
    (state : s.search.state = .resting ∨ s.search.state = .suspended) {n : Slot} (member : n ∈ s.search.wait)
    (value : Int) : s.searchValveCapture n value = if value = 3 then s.valveFault [n] else s.judgeWait := by
  unfold State.searchValveCapture State.judgeWait
  rcases state with state | state <;> rw [state] <;> exact if_pos member

theorem waiting_capture {s u : State} {p : SearchParams} {dt : Nat} {n : Slot} {kept : Destination}
    (h : ValveKept s u dt n kept) (state : s.search.state = .resting ∨ s.search.state = .suspended)
    (params : s.search.params = some p) (member : n ∈ s.search.wait) (value : Int) :
    let c := s.search
    let t := u.searchValveCapture n value
    let met :=
      c.phaseTimer = none ∧ s.readsAfter kept n c.wait 0 ∧
        (c.state = .suspended → ∀ m ∈ c.wait, (s.sec m).protection = .normal)
    (value = 3 → SearchEnded s t .valveFault ∧ { kind := .valveFault, subject := n.val } ∈ t.attention) ∧
      (value ≠ 3 → ¬ met → t.search = c ∧ ∀ m, (t.sec m).mark = (s.sec m).mark) ∧
      (value ≠ 3 → met →
        IsolationMade s t c.resumed p ((s.time + dt) / unitsPerTenth) fun m => (s.sec m).mark) := by
  intro c t met
  have step : t = if value = 3 then u.valveFault [n] else u.judgeWait :=
    State.searchValveCapture_of_waiting (h.search ▸ state) (h.search ▸ member) value
  have met_iff : u.waitMet ↔ met := by
    simp only [State.waitMet, h.search, h.reads_iff, h.same.protection, met, c]
  rw [step]
  refine ⟨fun fault => ?_, fun sound unmet => ?_, fun sound now => ?_⟩
  · rw [if_pos fault]
    exact h.fault
  · rw [if_neg sound, State.judgeWait_of_unmet (met_iff.not.mpr unmet)]
    exact ⟨h.search, h.same.mark⟩
  · rw [if_neg sound, ← h.tenths, show c = u.search from h.search.symm]
    exact h.same.isolationMade (State.judgeWait_of_met (h.search ▸ params) (h.search ▸ state) (met_iff.mpr now))

/-- Settles O42: the timer, the deadline and each capture judge the same wait. -/
theorem restingWaitsForOpenValves : Obligations.RestingWaitsForOpenValves := by
  intro s p params c marks opened normal stopped stepped
  refine ⟨fun e awake => ?_, fun dt chars b f r q n delivers dest member => ?_⟩
  · intro now tenths
    have same := s.phaseExpired_same e
    refine ⟨fun state timer unmet => ?_, fun resting timer opens => ?_, fun suspended timer opens calm => ?_,
      fun resting timer unmet => ?_, fun resting timer phase opens => ?_⟩
    · refine (exec_restTimerExpiry awake state timer).trans (congrArg Host.Outcome.next (State.judgeWait_of_unmet ?_))
      rintro ⟨-, opens, calm⟩
      exact unmet.elim (fun closed => closed opens) fun cold => cold.2 (calm cold.1)
    · refine ⟨_, exec_restTimerExpiry awake (.inl resting) timer, ?_⟩
      rw [State.judgeWait_of_resting (s := s.phaseExpired e) resting]
      exact same.isolationMade (State.judgeResting_of_met (s := s.phaseExpired e) params rfl opens)
    · refine ⟨_, exec_restTimerExpiry awake (.inr suspended) timer, ?_⟩
      rw [State.judgeWait_of_suspended (s := s.phaseExpired e) suspended]
      exact same.isolationMade (State.judgeSuspended_of_met (s := s.phaseExpired e) params rfl calm opens)
    · have waits : ¬ (s.deadlineExpired e).restMet = true := fun met => unmet ((State.restMet_iff _).mp met)
      refine ⟨_, exec_restDeadlineExpiry awake resting timer, ?_⟩
      rw [if_neg waits]
      exact ⟨(s.deadlineExpired_same e).searchEnded rfl rfl (searchEnded_valveFault _ _), fun n member reads =>
        State.mem_valveFault _ _ n (State.mem_notReading member reads)⟩
    · have met : (s.deadlineExpired e).restMet = true := (State.restMet_iff _).mpr ⟨phase, opens⟩
      refine ⟨_, exec_restDeadlineExpiry awake resting timer, ?_⟩
      rw [if_pos met]
      exact (s.deadlineExpired_same e).isolationMade
        (State.judgeResting_of_met (s := s.deadlineExpired e) params phase opens)
  · intro tenths kept met state
    obtain ⟨u, keeps, run, valve⟩ := exec_fragmentEnd_of_valve delivers dest
    exact ⟨_, run, valve, waiting_capture keeps state params member r.value⟩

end Sys2Proof.Machine
end

section
/-! PROOF. OBSERVING (R141 to R145). -/

namespace Sys2Proof.Machine

open Sys2Proof

/-! ### Captures (R141) -/

theorem observing_capture {s u : State} {dt : Nat} {n : Slot} {kept : Destination} (h : ValveKept s u dt n kept)
    (state : s.search.state = .observing) (member : n ∈ s.search.isolated) (value : Int) :
    let t := u.searchValveCapture n value
    (value ≠ 1 → SearchEnded s t .valveFault ∧ { kind := .valveFault, subject := n.val } ∈ t.attention) ∧
      (value = 1 → t.search = s.search ∧ ∀ m, (t.sec m).mark = (s.sec m).mark) := by
  intro t
  have step : t = if n ∈ u.search.isolated ∧ value ≠ 1 then u.valveFault [n] else u := by
    simp only [t, State.searchValveCapture, h.search, state]
  rw [step]
  refine ⟨fun wrong => ?_, fun closed => ?_⟩
  · rw [if_pos ⟨h.search ▸ member, wrong⟩]
    exact h.fault
  · rw [if_neg fun wrong => wrong.2 closed]
    exact ⟨h.search, h.same.mark⟩

/-! ### The release into RESTING (R143) -/

/-- The context of a search that rests, but for the rest timer. -/
def SearchContext.resting (c : SearchContext) (p : SearchParams) (tenths : Nat) : SearchContext :=
  { c with
    state := .resting, isolated := [], wait := c.isolated, phaseTimer := none
    deadline := some (tenths + 10 * (p.rest + 60)) }

/-- The part at its release into RESTING, before a rest time of 0 is judged. -/
def State.rested (s : State) (p : SearchParams) : State :=
  { s.release with
    search :=
      { s.search.resting p s.tenths with
        phaseTimer := if p.rest = 0 then none else some (s.tenths + 10 * p.rest) } }

theorem State.enterResting_eq {s : State} {p : SearchParams} (params : s.search.params = some p) :
    s.enterResting = if p.rest = 0 then (s.rested p).judgeResting else s.rested p := by
  have timer : s.restTimer = if p.rest = 0 then none else some (s.tenths + 10 * p.rest) := by
    rw [State.restTimer, params]
    rfl
  have rest : s.release.search.param (·.rest) = p.rest := by
    rw [State.release_search, SearchContext.param, params]
  have rested : (s.release.modSearch fun c =>
      { c with
        state := .resting, wait := s.search.isolated, phaseTimer := s.restTimer,
        deadline := some (s.expiryIn (c.param (·.rest) + 60)) }) = s.rested p := by
    rw [State.modSearch, timer, rest, State.release_search]
    rfl
  have expired : (s.rested p).search.phaseTimer = none ↔ p.rest = 0 := by
    simp only [State.rested]
    split <;> simp_all
  rw [State.enterResting, rested]
  simp only [expired]

theorem State.rested_mark (s : State) (p : SearchParams) (n : Slot) :
    ((s.rested p).sec n).mark = if n ∈ s.search.isolated then .none else (s.sec n).mark := s.release_mark n

theorem State.rested_keeps {β : Type} (g : SectionRecord → β) (blind : MarkBlind g) (s : State) (p : SearchParams)
    (n : Slot) : g ((s.rested p).sec n) = g (s.sec n) := s.release_keeps g blind n

/-- What a release into RESTING leaves, by the rest time and, where it is 0, by the valves. -/
theorem State.enterResting_rests {s : State} {p : SearchParams} (params : s.search.params = some p) :
    let c := s.search
    let t := s.enterResting
    let marks (n : Slot) := if n ∈ c.isolated then .none else (s.sec n).mark
    let opened := (∀ n, (t.sec n).mark = marks n) ∧ OpenPosted s t c.isolated
    let open0 := ∀ n ∈ c.isolated, (s.sec n).valve.reads 0 = true
    (p.rest ≠ 0 →
      t.search = { c.resting p s.tenths with phaseTimer := some (s.tenths + 10 * p.rest) } ∧ opened ∧
        t.attention = s.attention) ∧
    (p.rest = 0 → ¬ open0 → t.search = c.resting p s.tenths ∧ opened ∧ t.attention = s.attention) ∧
    (p.rest = 0 → open0 →
      IsolationMade s t { c.resting p s.tenths with steps := min 255 (c.steps + 1) } p s.tenths marks) := by
  intro c t marks opened open0
  have enters : t = if p.rest = 0 then (s.rested p).judgeResting else s.rested p := State.enterResting_eq params
  have valves (n : Slot) : ((s.rested p).sec n).valve = (s.sec n).valve :=
    s.rested_keeps SectionRecord.valve (fun _ _ _ => rfl) p n
  have posted : OpenPosted s (s.rested p) c.isolated := openPosted_release s
  have attention : (s.rested p).attention = s.attention := by
    show s.release.attention = s.attention
    simp
  have wait : (s.rested p).search.wait = c.isolated := rfl
  refine ⟨fun later => ?_, fun zero shut => ?_, fun zero opens => ?_⟩
  · rw [if_neg later] at enters
    simp only [opened, enters]
    exact ⟨by rw [State.rested, if_neg later], ⟨s.rested_mark p, posted⟩, attention⟩
  · rw [if_pos zero, State.judgeResting_of_unmet (by simpa only [wait, valves, not_and] using fun _ => shut)] at enters
    simp only [opened, enters]
    exact ⟨by rw [State.rested, if_pos zero]; rfl, ⟨s.rested_mark p, posted⟩, attention⟩
  · rw [if_pos zero] at enters
    have timer : (s.rested p).search.phaseTimer = none := by rw [State.rested, if_pos zero]
    have made := State.judgeResting_of_met (s := s.rested p) params timer (by simpa only [wait, valves] using opens)
    have marks_eq : (fun n => ((s.rested p).sec n).mark) = marks := funext (s.rested_mark p)
    have tenths : (s.rested p).tenths = s.tenths := by
      show s.release.tenths = s.tenths
      simp [State.tenths]
    rw [marks_eq, tenths, ← enters] at made
    refine isolationMade_congr s (s.rested p) t _ p s.tenths marks (fun n => ⟨?_, ?_⟩) (fun l => ?_) made
    · exact (s.rested_keeps SectionRecord.protection (fun _ _ _ => rfl) p n).symm
    · exact (s.rested_keeps (fun r => r.config.valveNode) (fun _ _ _ => rfl) p n).symm
    · show _ = (s.release.loopRec l).config.leakWindow
      simp

/-! ### The unit is held (R145) -/

theorem State.holdUnit_holds (s : State) :
    let c := s.search
    let t := s.holdUnit
    t.search =
        { c with
          state := .held, result := .found, heldUnit := c.range.head?, phaseTimer := none, deadline := none,
          window := .empty } ∧
      (∀ n, (t.sec n).mark = if n ∈ c.isolated then .held else (s.sec n).mark) ∧
      { kind := .searchEnd, subject := 0 } ∈ t.attention ∧
      (∀ n ∈ c.isolated,
        { kind := .leakHeld, subject := n.val } ∈ t.attention ∧
          ((s.sec n).config.valveNode ≠ none → { slot := n, command := .toClosed } ∈ t.txQueue)) ∧
      MonitorBegins s t c.loopOf := by
  intro c t
  refine ⟨?_, fun n => ?_, ?_, fun n member => ⟨?_, fun node => ?_⟩, ?_⟩
  · simp [t, State.holdUnit, c]
  · simp only [t, State.holdUnit, State.resumeMonitor_sec, State.post_sec, State.postAll_sec, State.modSearch_sec]
    exact State.setMarks_mark .held c.isolated s n
  · simp only [t, State.holdUnit, State.resumeMonitor_attention, State.mem_post, or_true]
  · simp only [t, State.holdUnit, State.resumeMonitor_attention, State.mem_post, State.mem_postAll]
    exact .inl (.inr ⟨n, member, rfl⟩)
  · simp only [t, State.holdUnit, State.resumeMonitor_txQueue, State.post_txQueue, State.postAll_txQueue,
      State.modSearch_txQueue]
    exact State.setMarks_posts .held c.isolated s n member (Option.isSome_iff_ne_none.mpr node)
  · intro l is
    unfold t State.holdUnit State.resumeMonitor
    simp [is, c, State.beginWindow, State.expiryIn, State.tenths, CaptureWindow.empty]

/-! ### The window is judged (R142) -/

theorem exec_observeTimerExpiry {s : State} (awake : s.inReset = false) (state : s.search.state = .observing) {e : Nat}
    (timer : s.search.phaseTimer = some e) :
    exec .observeTimerExpiry s = .next (s.phaseExpired e).judgeObservation := by
  change Host.Outcome.next (s.occur State.expireObserve) = _
  rw [State.occur_of_awake awake, State.expireObserve, if_pos state, timer]
  rfl

/-- The part with a range of suspects and a rate found in the search's context. -/
def State.decided (s : State) (lo hi rate : Nat) : State :=
  { s with
    search := { s.search with rangeLo := lo, rangeHi := hi, lastRate := some rate, phaseTimer := none } }

theorem CaptureWindow.valid_iff (w : CaptureWindow) (seconds : Nat) :
    w.valid seconds = true ↔ 3 ≤ w.count ∧ 5 * seconds ≤ w.span := by
  simp only [CaptureWindow.valid, Bool.and_eq_true, decide_eq_true_eq]

section
variable {s : State} {p : SearchParams} (params : s.search.params = some p)
include params

theorem State.judgeObservation_of_invalid
    (invalid : ¬ (3 ≤ s.search.window.count ∧ 5 * p.observe ≤ s.search.window.span)) :
    s.judgeObservation =
      if s.search.repeats < 2 then
        { s with
          search :=
            { s.search with
              repeats := s.search.repeats + 1, window := .empty,
              phaseTimer := some (s.tenths + 10 * p.observe) } }
      else s.endSearch .noPressure := by
  have observe : s.search.param (·.observe) = p.observe := by rw [SearchContext.param, params]
  unfold State.judgeObservation
  simp only [observe, CaptureWindow.valid_iff, if_neg invalid]
  split
  · rw [State.modSearch, observe]
    rfl
  · rfl

theorem State.judgeObservation_of_valid
    (valid : 3 ≤ s.search.window.count ∧ 5 * p.observe ≤ s.search.window.span) :
    let c := s.search
    let rate := c.window.rate
    let quiet := decide (rate ≤ p.quiet)
    let rated := s.decided c.rangeLo c.rangeHi rate
    s.judgeObservation = if c.phase = some .confirm then rated.decideConfirm quiet else rated.decideProbe quiet := by
  intro c rate quiet rated
  have observe : c.param (·.observe) = p.observe := by simp only [SearchContext.param, c, params]
  have limit : c.param (·.quiet) = p.quiet := by simp only [SearchContext.param, c, params]
  unfold State.judgeObservation
  simp only [show s.search = c from rfl, observe, limit]
  rw [if_pos ((CaptureWindow.valid_iff _ _).mpr valid)]
  cases c.phase with
  | none => rfl
  | some phase => cases phase <;> rfl

end

/-- The half of the suspect range that a valid window of a PROBE step keeps (R143). -/
theorem State.decideProbe_eq (s : State) (rate limit : Nat) :
    let c := s.search
    let hi := if rate ≤ limit then c.rangeLo + c.probed else c.rangeHi
    let lo := if rate ≤ limit then c.rangeLo else c.rangeLo + c.probed
    (s.decided c.rangeLo c.rangeHi rate).decideProbe (decide (rate ≤ limit)) =
      if hi ≤ lo then (s.decided lo hi rate).endSearch .inconclusive else (s.decided lo hi rate).enterResting := by
  intro c hi lo
  by_cases quiet : rate ≤ limit
  · simp only [hi, lo, if_pos quiet, decide_eq_true quiet]
    rfl
  · simp only [hi, lo, if_neg quiet, decide_eq_false quiet]
    rfl

theorem State.decideConfirm_eq {s : State} {p : SearchParams} (params : s.search.params = some p) (rate : Nat) :
    let c := s.search
    let rated := s.decided c.rangeLo c.rangeHi rate
    rated.decideConfirm (decide (rate ≤ p.quiet)) =
      if rate ≤ p.quiet then rated.holdUnit
      else if c.restartsUsed < p.restarts then
        (State.decided { s with search := { c with restartsUsed := c.restartsUsed + 1 } } 0 c.candidates.length
          rate).enterResting
      else rated.endSearch .inconclusive := by
  intro c rated
  have restarts : rated.search.param (·.restarts) = p.restarts := by
    show c.param _ = _
    simp only [SearchContext.param, c, params]
  unfold State.decideConfirm
  simp only [decide_eq_true_eq, restarts]
  rfl

/-- Settles O41: an invalid window is repeated or ends the search, and a valid one decides its step. -/
theorem observationDecidesTheSearch : Obligations.ObservationDecidesTheSearch := by
  intro s p state params c
  refine ⟨fun dt chars b f r q n delivers dest member => ?_, fun e awake timer => ?_⟩
  · obtain ⟨u, kept, run, valve⟩ := exec_fragmentEnd_of_valve delivers dest
    exact ⟨_, run, valve, observing_capture kept state member r.value⟩
  intro now tenths valid rate hi lo marks opened rests
  have run := exec_observeTimerExpiry awake state timer
  have judged (is : valid) := State.judgeObservation_of_valid (s := s.phaseExpired e) params is
  have repeated (is : ¬ valid) := State.judgeObservation_of_invalid (s := s.phaseExpired e) params is
  have probes (is : valid) (phase : c.phase ≠ some .confirm) :=
    ((judged is).trans (if_neg phase)).trans ((s.phaseExpired e).decideProbe_eq rate p.quiet)
  have confirms (is : valid) (phase : c.phase = some .confirm) :=
    ((judged is).trans (if_pos phase)).trans (State.decideConfirm_eq (s := s.phaseExpired e) params rate)
  refine ⟨fun is few => ?_, fun is many => ?_, fun is phase empty => ?_, fun is phase left => ?_, fun is phase quiet => ?_,
    fun is phase loud again => ?_, fun is phase loud spent => ?_⟩
  · exact run.trans (congrArg Host.Outcome.next ((repeated is).trans (if_pos few)))
  · refine ⟨_, run.trans (congrArg Host.Outcome.next ((repeated is).trans (if_neg (Nat.not_lt.mpr many)))), ?_⟩
    exact (s.phaseExpired_same e).searchEnded rfl rfl (searchEnded_endSearch _ _)
  · obtain ⟨ended, posted, marked, opens, begins⟩ :=
      searchEnded_endSearch ((s.phaseExpired e).decided lo hi rate) .inconclusive
    exact ⟨_, run.trans (congrArg Host.Outcome.next ((probes is phase).trans (if_pos empty))), ⟨marked, opens⟩, ended,
      posted, begins⟩
  · exact ⟨_, run.trans (congrArg Host.Outcome.next ((probes is phase).trans (if_neg (Nat.not_le.mpr left)))),
      State.enterResting_rests (s := (s.phaseExpired e).decided lo hi rate) params⟩
  · exact ⟨_, run.trans (congrArg Host.Outcome.next ((confirms is phase).trans (if_pos quiet))),
      ((s.phaseExpired e).decided c.rangeLo c.rangeHi rate).holdUnit_holds⟩
  · refine ⟨_, run.trans (congrArg Host.Outcome.next ((confirms is phase).trans
      ((if_neg (Nat.not_le.mpr loud)).trans (if_pos again)))), ?_⟩
    exact State.enterResting_rests (p := p) params
  · obtain ⟨ended, posted, marked, opens, begins⟩ :=
      searchEnded_endSearch ((s.phaseExpired e).decided c.rangeLo c.rangeHi rate) .inconclusive
    exact ⟨_, run.trans (congrArg Host.Outcome.next ((confirms is phase).trans
      ((if_neg (Nat.not_le.mpr loud)).trans (if_neg (Nat.not_lt.mpr spent))))), ⟨marked, opens⟩, ended, posted, begins⟩

end Sys2Proof.Machine
end

section
/-! PROOF. The candidate list (R138). -/

namespace Sys2Proof.Machine

open Sys2Proof

theorem State.lead_of_unitOf {s : State} {n : Slot} {u : SearchUnit} (unit : s.unitOf n = some u) : u.lead = n := by
  unfold State.unitOf at unit
  split at unit
  · split at unit
    · injection unit with is
      rw [← is]
    · cases unit
  · injection unit with is
    rw [← is]

/-- A unit is a formed gang, named by its lead, or a section in none. -/
theorem State.unitOf_lead_iff (s : State) (u : SearchUnit) :
    s.unitOf u.lead = some u ↔
      if s.gangFormed u.lead then u.lead = leadOf u.lead ∧ u.follower = some (followerOf u.lead)
      else u.follower = none := by
  obtain ⟨lead, follower⟩ := u
  unfold State.unitOf
  by_cases gang : s.gangFormed lead = true
  · rw [if_pos gang, if_pos gang]
    by_cases leads : lead = leadOf lead
    · rw [if_pos leads]
      simpa [leads.symm] using eq_comm
    · rw [if_neg leads]
      simp [leads]
  · rw [if_neg gang, if_neg gang]
    simpa using eq_comm

theorem Destination.reads_iff (d : Destination) (v : Int) :
    d.reads v = true ↔ d.status = .fresh ∧ d.stored.map (·.value) = some v := by
  rw [Destination.reads, Bool.and_eq_true, beq_iff_eq, beq_iff_eq]

theorem candidateMember_iff (r : SectionRecord) (floor : Nat) :
    candidateMember r floor = true ↔
      r.slot = .live ∧ r.protection = .normal ∧ r.config.valveNode ≠ none ∧ r.valve.status = .fresh ∧
        r.valve.stored.map (·.value) = some 0 ∧ ∃ e, r.lastEval = some e ∧ (floor : Int) ≤ e.margin := by
  have margin : (match r.lastEval with
      | some e => decide ((floor : Int) ≤ e.margin)
      | none => false) = true ↔ ∃ e, r.lastEval = some e ∧ (floor : Int) ≤ e.margin := by
    cases r.lastEval <;> simp
  unfold candidateMember
  simp only [Bool.and_eq_true, beq_iff_eq, Destination.reads_iff, Option.isSome_iff_ne_none, and_assoc]
  exact Iff.rfl.and (Iff.rfl.and (Iff.rfl.and (Iff.rfl.and (Iff.rfl.and margin))))

theorem State.mem_candidateList {s : State} {l : LoopId} {u : SearchUnit} :
    u ∈ s.candidateList l ↔
      s.unitOf u.lead = some u ∧
        ∀ n ∈ u.members,
          (s.sec n).config.loopOf = l ∧ candidateMember (s.sec n) (s.loopRec l).config.search.floor = true := by
  have units : u ∈ allSlots.filterMap s.unitOf ↔ s.unitOf u.lead = some u := by
    rw [List.mem_filterMap]
    constructor
    · rintro ⟨n, -, unit⟩
      rwa [State.lead_of_unitOf unit]
    · exact fun unit => ⟨u.lead, mem_allSlots _, unit⟩
  rw [State.candidateList, List.mem_filter, units, List.all_eq_true]
  simp only [Bool.and_eq_true, beq_iff_eq]

theorem State.candidateList_pairwise (s : State) (l : LoopId) :
    (s.candidateList l).Pairwise fun a b => a.lead < b.lead := by
  refine List.Pairwise.filter _ ((List.pairwise_filterMap).mpr ?_)
  refine (List.pairwise_lt_finRange 24).imp fun {n m} before a is b is' => ?_
  rwa [State.lead_of_unitOf is, State.lead_of_unitOf is']

/-- The units of a list of candidates contain the gangs of their members. -/
theorem State.partner_mem_of_unit {s : State} {u : SearchUnit} (unit : s.unitOf u.lead = some u) {n k : Slot}
    (member : n ∈ u.members) (pair : s.partner n = some k) : k ∈ u.members := by
  obtain ⟨lead, follower⟩ := u
  have shape := (s.unitOf_lead_iff _).mp unit
  obtain ⟨formed, rfl⟩ := State.partner_eq_some pair
  simp only [SearchUnit.members, List.mem_cons, Option.mem_toList] at member ⊢
  dsimp only at shape
  by_cases gang : s.gangFormed lead = true
  · rw [if_pos gang] at shape
    obtain ⟨leads, follows⟩ := shape
    rw [follows] at member ⊢
    have pairing : n = lead ∨ some (followerOf lead) = some n → lead = leadOf lead →
        neighbourOf n = lead ∨ some (followerOf lead) = some (neighbourOf n) := by
      clear formed pair follows gang unit leads member
      revert n lead
      decide
    exact pairing member leads
  · rw [if_neg gang] at shape
    rw [shape] at member
    have alone : n = lead := by simpa using member
    rw [alone] at formed
    exact absurd formed gang

end Sys2Proof.Machine
end

section
/-! PROOF. A search begins (R137, R139). -/

namespace Sys2Proof.Machine

open Sys2Proof

/-! ### Marking several sections: their lines and their queue entries -/

/-- A change of mark before the section's fan and its clear lines follow: the record and the queued command. -/
def State.remarked (s : State) (m : Mark) (n : Slot) : State :=
  let s := s.modSec n fun r => { r with mark := m }
  if (s.sec n).config.valveNode.isSome then
    (s.postValve n m.command).modSec n fun r => { r with refreshTimer := some (s.expiryIn 10) }
  else s

theorem State.setMark_eq (s : State) (m : Mark) (n : Slot) :
    s.setMark m n = ((s.remarked m n).restage n).evalLines n := rfl

/-- A change to a mark releases every line that holds the section. -/
theorem State.setMark_line_of_marked (s : State) {m : Mark} (marked : m ≠ .none) (n : Slot) (k : LineId) :
    (s.setMark m n).line k =
      if (s.line k).mask.getLsbD n.val then { s.line k with state := .released, timer := none } else s.line k := by
  have line : ((s.remarked m n).restage n).line k = s.line k := by
    rw [State.restage_line, State.remarked]
    split <;> rfl
  have mark : (((s.remarked m n).restage n).sec n).mark = m := by
    have sec := s.setMark_sec m n n
    rw [if_pos rfl, State.setMark_eq, State.evalLines_sec] at sec
    rw [sec]
  rw [State.setMark_eq, State.evalLines_line, line]
  generalize (s.remarked m n).restage n = u at mark
  split
  next held =>
    have failing : u.maskSafe (s.line k).mask = false := by
      rw [Bool.eq_false_iff]
      intro safe
      exact marked (mark ▸ (((State.maskSafe_iff _ _).mp safe).2 n held).2.2.1)
    rw [ClearLine.act_eq, failing]
    rfl
  next => rfl

theorem State.setMarks_line_of_marked {m : Mark} (marked : m ≠ .none) (l : List Slot) (s : State) (k : LineId) :
    (s.setMarks m l).line k =
      if ∃ n ∈ l, (s.line k).mask.getLsbD (Fin.val n) = true then
        { s.line k with state := .released, timer := none }
      else s.line k := by
  induction l generalizing s with
  | nil => simp [State.setMarks]
  | cons n l ih =>
    show ((s.setMark m n).setMarks m l).line k = _
    rw [ih, State.setMark_mask, State.setMark_line_of_marked s marked]
    by_cases first : (s.line k).mask.getLsbD n.val = true
    · have held : ∃ j ∈ n :: l, (s.line k).mask.getLsbD (Fin.val j) = true := ⟨n, List.mem_cons_self, first⟩
      rw [if_pos first, if_pos held]
      split <;> rfl
    · have rest : (∃ j ∈ n :: l, (s.line k).mask.getLsbD (Fin.val j) = true) ↔
          ∃ j ∈ l, (s.line k).mask.getLsbD (Fin.val j) = true := by
        simp only [List.mem_cons, exists_eq_or_imp, first, Bool.false_eq_true, false_or]
      rw [if_neg first]
      simp only [rest]

/-- The queue holds one entry a section, and so the marked sections' entries hold the command of their mark. -/
theorem State.setMarks_command {s : State} (kept : s.entriesKept) {m : Mark} {l : List Slot}
    (nodes : ∀ n ∈ l, (s.sec n).config.valveNode ≠ none) {e : QueueEntry} (entry : e ∈ (s.setMarks m l).txQueue)
    (member : e.slot ∈ l) : e.command = m.command := by
  have posted := State.setMarks_posts m l s e.slot member (Option.isSome_iff_ne_none.mpr (nodes _ member))
  have same : e = { slot := e.slot, command := m.command } :=
    List.inj_on_of_nodup_map (setMarks_entriesKept m l s kept) entry posted rfl
  rw [same]

/-! ### The start -/

/-- The context of a search that has just begun in a loop. -/
def State.begunSearch (s : State) (l : LoopId) : SearchContext :=
  let p := (s.loopRec l).config.search
  let list := s.candidateList l
  let half := (list.length + 1) / 2
  { state := .settling, phase := some (if list.length = 1 then .confirm else .probe),
    loopOf := some l, params := some p, candidates := list, rangeLo := 0,
    rangeHi := list.length, probed := half, isolated := (list.take half).flatMap SearchUnit.members, wait := [],
    steps := 1, repeats := 0, preemptions := 0, restartsUsed := 0,
    phaseTimer := some (s.tenths + 10 * p.settle),
    deadline := some (s.tenths + 10 * (p.settle + 60)), window := .empty,
    lastRate := none, heldUnit := none, result := .none }

/-- The sections of the first half of a loop's candidates, rounded up. -/
def State.firstHalf (s : State) (l : LoopId) : List Slot :=
  ((s.candidateList l).take (((s.candidateList l).length + 1) / 2)).flatMap SearchUnit.members

theorem State.candidate_of_firstHalf {s : State} {l : LoopId} {n : Slot} (member : n ∈ s.firstHalf l) :
    ∃ u ∈ s.candidateList l, n ∈ u.members ∧ ∀ k ∈ u.members, k ∈ s.firstHalf l := by
  obtain ⟨u, half, within⟩ := List.mem_flatMap.mp member
  exact ⟨u, List.mem_of_mem_take half, within, fun k also => List.mem_flatMap.mpr ⟨u, half, also⟩⟩

theorem State.fit_of_firstHalf {s : State} {l : LoopId} {n : Slot} (member : n ∈ s.firstHalf l) :
    (s.sec n).slot = .live ∧ (s.sec n).protection = .normal ∧ (s.sec n).config.valveNode ≠ none := by
  obtain ⟨u, listed, within, -⟩ := State.candidate_of_firstHalf member
  obtain ⟨live, normal, node, -⟩ := (candidateMember_iff _ _).mp ((State.mem_candidateList.mp listed).2 n within).2
  exact ⟨live, normal, node⟩

theorem State.partner_of_firstHalf {s : State} {l : LoopId} {n k : Slot} (member : n ∈ s.firstHalf l)
    (pair : s.partner n = some k) : k ∈ s.firstHalf l := by
  obtain ⟨u, listed, within, half⟩ := State.candidate_of_firstHalf member
  exact half k (State.partner_mem_of_unit (State.mem_candidateList.mp listed).1 within pair)

/-- The part at a start, before the first half is marked. -/
def State.starting (s : State) (l : LoopId) : State :=
  { s.abandonWindow l with
    search :=
      { s.search with
        loopOf := some l, params := some (s.loopRec l).config.search, result := .none, steps := 1,
        repeats := 0, preemptions := 0, restartsUsed := 0, lastRate := none, heldUnit := none,
        window := .empty, candidates := s.candidateList l, rangeLo := 0, rangeHi := (s.candidateList l).length,
        isolated := [], wait := [], phase := some (if (s.candidateList l).length = 1 then .confirm else .probe),
        probed := ((s.candidateList l).length + 1) / 2 } }

/-- An isolation whose members are all in NORMAL and have valve nodes. -/
theorem State.isolate_of_fit {s : State} {members : List Slot}
    (half : (s.search.range.take ((s.search.range.length + 1) / 2)).flatMap SearchUnit.members = members)
    (fit : ∀ n ∈ members, (s.sec n).protection = .normal ∧ (s.sec n).config.valveNode ≠ none) :
    let phased : State :=
      { s with
        search :=
          { s.search with
            phase := some (if s.search.range.length = 1 then .confirm else .probe)
            probed := (s.search.range.length + 1) / 2 } }
    s.isolate =
      { phased.setMarks .probe members with
        search :=
          { phased.search with
            state := .settling, isolated := members, wait := [], repeats := 0, window := .empty,
            phaseTimer := some (s.expiryIn (s.search.param (·.settle))),
            deadline := some (s.expiryIn (s.search.param (·.settle) + 60)) } } := by
  intro phased
  have calm : (members.any fun n => (phased.sec n).protection != .normal) = false := by
    rw [List.any_eq_false]
    intro n member
    have normal : (phased.sec n).protection = .normal := (fit n member).1
    rw [normal]
    exact Bool.false_ne_true
  have valved : (members.any fun n => (phased.sec n).config.valveNode.isNone) = false := by
    rw [List.any_eq_false]
    intro n member absent
    exact (fit n member).2 (Option.isNone_iff_eq_none.mp absent)
  subst half
  unfold State.isolate
  refine (if_neg (Bool.eq_false_iff.mp calm)).trans ((if_neg (Bool.eq_false_iff.mp valved)).trans ?_)
  rw [State.modSearch, State.setMarks_search]
  rfl

/-- A start marks the first half of the candidates. -/
theorem State.startSearch_eq (s : State) (l : LoopId) :
    s.startSearch l = { (s.starting l).setMarks .probe (s.firstHalf l) with search := s.begunSearch l } := by
  have range : (s.starting l).search.range = s.candidateList l := by
    show (((s.candidateList l).take (s.candidateList l).length).drop 0) = s.candidateList l
    rw [List.take_length, List.drop_zero]
  have half : ((s.starting l).search.range.take (((s.starting l).search.range.length + 1) / 2)).flatMap
      SearchUnit.members = s.firstHalf l := by rw [range]; rfl
  have isolated := State.isolate_of_fit half fun n member => (State.fit_of_firstHalf member).2
  rw [range] at isolated
  exact isolated

theorem State.handed_of_zero {s : State} {n : Slot} {own : Slot → Nat} (zero : own n = 0) : s.handed n own = 0 := by
  unfold State.handed
  split
  · rfl
  · split <;> simp [zero]

/-- A start does all that `SearchBegun` lists. -/
theorem searchBegun_startSearch (s : State) (l : LoopId) : SearchBegun s (s.startSearch l) l s.tenths := by
  have marked := State.setMarks_sec .probe (s.firstHalf l) (s.starting l)
  have ceiling (n : Slot) (member : n ∈ s.firstHalf l) :
      fanCeiling (((s.starting l).setMarks .probe (s.firstHalf l)).sec n) = 0 := by
    rw [marked, if_pos member, fanCeiling_eq]
    have live : ((s.starting l).sec n).slot = .live := (State.fit_of_firstHalf member).1
    simp [live]
  rw [s.startSearch_eq l]
  refine ⟨rfl, fun n => (marked n).trans ?_, fun n member => ⟨?_, ceiling n member⟩, fun kept e entry member => ?_, ?_,
    fun n => ?_, State.setMarks_line_of_marked (by decide) (s.firstHalf l) (s.starting l)⟩
  · by_cases member : n ∈ s.firstHalf l
    · have node : ((s.starting l).sec n).config.valveNode ≠ none := (State.fit_of_firstHalf member).2.2
      rw [if_pos member, if_neg node]
      exact (if_pos member).symm
    · rw [if_neg member]
      exact (if_neg member).symm
  · exact State.setMarks_posts .probe (s.firstHalf l) (s.starting l) n member
      (Option.isSome_iff_ne_none.mpr (State.fit_of_firstHalf member).2.2)
  · exact State.setMarks_command (s := s.starting l) (m := .probe) (l := s.firstHalf l) kept
      (fun n member => (State.fit_of_firstHalf member).2.2) entry member
  · have drops (e : QueueEntry) (member : e.slot ∈ s.firstHalf l) : decide (e.slot ∉ s.firstHalf l) = false :=
      decide_eq_false (not_not_intro member)
    exact State.setMarks_filter_txQueue .probe (s.firstHalf l) (s.starting l) _ drops
  · have staged := State.setMarks_fan .probe (s.firstHalf l) (s.starting l) n
      (fun k => if k ∈ s.firstHalf l then 0 else (s.fan k).ownStaged) fun k => by
        split
        · next member => rw [ceiling k member, Nat.min_zero]
        · rfl
    have reached : (n ∈ s.firstHalf l ∨ ∃ k ∈ s.firstHalf l, (s.starting l).partner k = some n) ↔ n ∈ s.firstHalf l :=
      or_iff_left_of_imp fun ⟨k, member, pair⟩ => State.partner_of_firstHalf member pair
    simp only [reached] at staged
    refine staged.trans ?_
    by_cases member : n ∈ s.firstHalf l
    · rw [if_pos member, State.handed_of_zero (if_pos member), if_pos member]
      exact (if_pos member).symm
    · rw [if_neg member]
      exact (if_neg member).symm

/-- What a start leaves unchanged. -/
theorem State.startSearch_frame (s : State) (l : LoopId) :
    let t := s.startSearch l
    t = { s with
          sections := t.sections, fans := t.fans,
          loops := tabSet s.loops l { s.loopRec l with leakTimer := none, leakLength := 0, leakWindow := .empty },
          txQueue := t.txQueue, lines := t.lines, search := t.search } := by
  intro t
  have loops : t.loops =
      tabSet s.loops l { s.loopRec l with leakTimer := none, leakLength := 0, leakWindow := .empty } := by
    simp only [t, s.startSearch_eq l, State.setMarks_loops]
    rfl
  have attention : t.attention = s.attention := by
    simp only [t, s.startSearch_eq l, State.setMarks_attention]
    rfl
  have rest : t.rest = s.rest := s.startSearch_rest l
  rw [← loops]
  apply State.eq_of_fields
  case attention => exact attention
  case rest =>
    rw [rest]
    simp only [State.rest]
  all_goals simp [t]

theorem State.candidateList_congr {s u : State} (sections : u.sections = s.sections) (l : LoopId)
    (config : (u.loopRec l).config = (s.loopRec l).config) : u.candidateList l = s.candidateList l := by
  have sec (n : Slot) : u.sec n = s.sec n := by rw [State.sec, sections]; rfl
  have gang (n : Slot) : u.gangFormed n = s.gangFormed n := by simp only [State.gangFormed, sec]
  have unit : u.unitOf = s.unitOf := by
    funext n
    simp only [State.unitOf, gang]
  simp only [State.candidateList, sec, unit, config]

/-- Of the state before it, `SearchBegun` looks at the sections, the fans, the lines, the transmit queue and the
configuration of the loop. -/
theorem searchBegun_congr {s u t : State} {l : LoopId} {tenths : Nat} (sections : u.sections = s.sections)
    (fans : u.fans = s.fans) (lines : u.lines = s.lines) (queue : u.txQueue = s.txQueue)
    (config : (u.loopRec l).config = (s.loopRec l).config) (begun : SearchBegun u t l tenths) :
    SearchBegun s t l tenths := by
  have sec (n : Slot) : u.sec n = s.sec n := by rw [State.sec, sections]; rfl
  have fan (n : Slot) : u.fan n = s.fan n := by rw [State.fan, fans]; rfl
  have line (k : LineId) : u.line k = s.line k := by rw [State.line, lines]; rfl
  simpa only [SearchBegun, State.entriesKept, sec, fan, line, queue, config,
    State.candidateList_congr sections l config] using begun

theorem searchStartRequest_index (l : LoopId) (s : State) :
    searchStartRequest (indexByte l) [] s =
      if !(s.loopRec l).isSet then .no .loopUnset
      else if s.search.state ≠ .idle then .no .busy
      else if (s.candidateList l).isEmpty then .no .noCandidates
      else .accept (s.startSearch l) .accepted [] :=
  onLoop_index l fun l =>
    if !(s.loopRec l).isSet then .no .loopUnset
    else if s.search.state ≠ .idle then .no .busy
    else if (s.candidateList l).isEmpty then .no .noCandidates
    else .accept (s.startSearch l) .accepted []

/-- Settles O39: the list by its units, and the request by its checks in their order. -/
theorem searchStartIsolatesTheFirstHalf : Obligations.SearchStartIsolatesTheFirstHalf := by
  refine ⟨fun s l => ⟨s.candidateList_pairwise l, fun u => ?_⟩, fun s dt l taking => ?_⟩
  · rw [State.mem_candidateList, State.unitOf_lead_iff]
    simp only [candidateMember_iff, and_left_comm]
  intro command r list
  have parts : requestParts command = some (64, dt, indexByte l, []) := rfl
  have owner : requestOwner 64 (indexByte l) [] (s.atTake dt) =
      if !r.isSet then .no .loopUnset
      else if s.search.state ≠ .idle then .no .busy
      else if list.isEmpty then .no .noCandidates
      else .accept ((s.atTake dt).startSearch l) .accepted [] := searchStartRequest_index l (s.atTake dt)
  have isSet (set : r.isSet = true) : ¬ (!r.isSet) = true := by simp [set]
  refine ⟨fun unset => ?_, fun set busy => ?_, fun set idle none => ?_, fun set idle some => ?_⟩
  · exact exec_request_of_no parts taking (owner.trans (if_pos (by simp [unset])))
  · exact exec_request_of_no parts taking (owner.trans ((if_neg (isSet set)).trans (if_pos busy)))
  · exact exec_request_of_no parts taking (owner.trans ((if_neg (isSet set)).trans
      ((if_neg (not_not_intro idle)).trans (if_pos (List.isEmpty_iff.mpr none)))))
  · have accepts := owner.trans ((if_neg (isSet set)).trans
      ((if_neg (not_not_intro idle)).trans (if_neg fun empty => some (List.isEmpty_iff.mp empty))))
    have frame := (s.atTake dt).startSearch_frame l
    have loops := congrArg State.loops frame
    have begun : SearchBegun s ((s.atTake dt).startSearch l) l ((s.time + dt) / unitsPerTenth) :=
      searchBegun_startSearch (s.atTake dt) l
    refine ⟨_, exec_request_of_accept parts taking accepts, ?_, loops, ?_⟩
    · exact begun
    · rw [State.putReply, frame]
      rfl

end Sys2Proof.Machine
end

section
/-! PROOF. The judgement of a leak window (R84, R86, R87). -/

namespace Sys2Proof.Machine

open Sys2Proof

theorem CaptureWindow.rate_eq {w : CaptureWindow} {a b : PressureCapture} (first : w.first = some a)
    (last : w.last = some b) :
    w.span = (b.taken - a.taken).toNat ∧
      (w.rate : Int) = max 0 ((a.pressure - b.pressure) * 36000 / (w.span : Int)) := by
  refine ⟨by simp only [CaptureWindow.span, first, last, partSpan], ?_⟩
  simp only [CaptureWindow.rate, first, last, floorDiv, Int.toNat_eq_max]
  exact max_comm _ _

/-- The part at a moment with another record of one loop and another attention set: all that the judgement of a leak
window writes before it starts a search. -/
def State.judging (s : State) (now : Nat) (l : LoopId) (r : LoopRecord) (causes : List Cause) : State :=
  { s with time := now, loops := tabSet s.loops l r, attention := causes }

theorem State.judging_modLoop (s : State) (now : Nat) (l : LoopId) (r : LoopRecord) (causes : List Cause)
    (f : LoopRecord → LoopRecord) : (s.judging now l r causes).modLoop l f = s.judging now l (f r) causes := by
  simp only [State.judging, State.modLoop, tabGet_tabSet, if_true, tabSet_tabSet]

theorem State.judging_loopRec (s : State) (now : Nat) (l : LoopId) (r : LoopRecord) (causes : List Cause) :
    (s.judging now l r causes).loopRec l = r := by
  simp only [State.judging, State.loopRec, tabGet_tabSet, if_true]

theorem State.judging_monitorRuns (s : State) (now : Nat) (l : LoopId) {r : LoopRecord} (causes : List Cause)
    (isSet : r.isSet = (s.loopRec l).isSet) : (s.judging now l r causes).monitorRuns l = s.monitorRuns l := by
  rw [State.monitorRuns, State.judging_loopRec, isSet]
  rfl

theorem State.judging_same (s : State) (now : Nat) (l : LoopId) :
    { s with time := now } = s.judging now l (s.loopRec l) s.attention := by
  rw [State.judging, State.loopRec, tabSet_tabGet]

theorem exec_leakWindowExpiry {s : State} (awake : s.inReset = false) {l : LoopId} {e : Nat}
    (timer : (s.loopRec l).leakTimer = some e) :
    let judged :=
      (s.judging (max s.time (e * unitsPerTenth)) l (s.loopRec l) s.attention).judgeWindow l
    exec (.leakWindowExpiry l) s = .next (if judged.monitorRuns l then judged.beginWindow l else judged) := by
  intro judged
  change Host.Outcome.next (s.occur fun s => s.expireLeakWindow l) = _
  rw [State.occur_of_awake awake, State.expireLeakWindow, timer, State.atExpiry_some, State.judging_same]

/-- A new window begins after a judgement that leaves the monitor running. -/
theorem State.judging_beginWindow (s : State) (now : Nat) (l : LoopId) (r : LoopRecord) (causes : List Cause) :
    (s.judging now l r causes).beginWindow l =
      s.judging now l
        { r with
          leakTimer := some (now / unitsPerTenth + 10 * r.config.leakWindow)
          leakLength := r.config.leakWindow
          leakWindow := .empty }
        causes := by
  rw [State.beginWindow, State.judging_modLoop]
  rfl

section
variable {s : State} {l : LoopId} {e : Nat} (awake : s.inReset = false) (runs : s.monitorRuns l = true)
  (timer : (s.loopRec l).leakTimer = some e)
include awake runs timer

/-- A judgement that starts no search: a new window begins. -/
theorem exec_leakWindowExpiry_of_judged {r : LoopRecord} {causes : List Cause}
    (judged : (s.judging (max s.time (e * unitsPerTenth)) l (s.loopRec l) s.attention).judgeWindow l =
      s.judging (max s.time (e * unitsPerTenth)) l r causes)
    (isSet : r.isSet = (s.loopRec l).isSet) :
    exec (.leakWindowExpiry l) s =
      .next
        { s with
          time := max s.time (e * unitsPerTenth)
          loops :=
            tabSet s.loops l
              { r with
                leakTimer := some (max s.time (e * unitsPerTenth) / unitsPerTenth + 10 * r.config.leakWindow)
                leakLength := r.config.leakWindow
                leakWindow := .empty }
          attention := causes } := by
  rw [exec_leakWindowExpiry awake timer, judged, State.judging_monitorRuns s _ l causes isSet, if_pos runs,
    State.judging_beginWindow]
  rfl

end

/-- The judgement of the window's rate (R86). -/
theorem State.judgeWindow_eq (s : State) (now : Nat) (l : LoopId) :
    let r := s.loopRec l
    let w := r.leakWindow
    let rated := { r with lastResult := .rate w.rate }
    (s.judging now l r s.attention).judgeWindow l =
      if 3 ≤ w.count ∧ 5 * r.leakLength ≤ w.span then
        if r.config.suspect < w.rate then (s.judging now l rated s.attention).suspectLeak l
        else s.judging now l rated s.attention
      else s.judging now l { r with lastResult := .invalid } s.attention := by
  intro r w rated
  unfold State.judgeWindow
  simp only [State.judging_loopRec, State.judging_modLoop, CaptureWindow.valid_iff]
  rfl

/-- The attention set of a suspected leak (R87). -/
def State.leakCauses (s : State) (l : LoopId) : List Cause :=
  insertCause { kind := .leakSuspect, subject := l.val } s.attention

theorem State.mem_leakCauses (s : State) (l : LoopId) (c : Cause) :
    c ∈ s.leakCauses l ↔ c ∈ s.attention ∨ c = { kind := .leakSuspect, subject := l.val } := mem_insertCause _ _ _

theorem State.suspectLeak_eq (s : State) (now : Nat) (l : LoopId) (r : LoopRecord) :
    (s.judging now l r s.attention).suspectLeak l =
      if r.config.autoSearch then (s.judging now l r (s.leakCauses l)).autoStart l
      else s.judging now l r (s.leakCauses l) := by
  have posted : (s.judging now l r s.attention).post .leakSuspect l.val = s.judging now l r (s.leakCauses l) := rfl
  simp only [State.suspectLeak, posted, State.judging_loopRec]

theorem State.judging_candidateList (s : State) (now : Nat) (l : LoopId) {r : LoopRecord} (causes : List Cause)
    (config : r.config = (s.loopRec l).config) : (s.judging now l r causes).candidateList l = s.candidateList l :=
  State.candidateList_congr (s := s) (u := s.judging now l r causes) rfl l (by rw [State.judging_loopRec, config])

theorem State.autoStart_eq (s : State) (now : Nat) (l : LoopId) {r : LoopRecord} (causes : List Cause)
    (config : r.config = (s.loopRec l).config) :
    (s.judging now l r causes).autoStart l =
      if s.search.state ≠ .idle then s.judging now l { r with autoOutcome := .searchBusy } causes
      else if s.candidateList l = [] then s.judging now l { r with autoOutcome := .noCandidates } causes
      else ((s.judging now l r causes).startSearch l).modLoop l fun r => { r with autoOutcome := .started } := by
  have search : (s.judging now l r causes).search = s.search := rfl
  simp only [State.autoStart, State.judging_modLoop, search, State.judging_candidateList s now l causes config,
    List.isEmpty_iff]

/-- The monitor of a loop in which a search has just begun is paused. -/
theorem State.monitorRuns_startSearch (s : State) (l : LoopId) (f : LoopRecord → LoopRecord) :
    ((s.startSearch l).modLoop l f).monitorRuns l = false := by
  have search : ((s.startSearch l).modLoop l f).search = s.begunSearch l := (searchBegun_startSearch s l).1
  rw [State.monitorRuns, search]
  simp [State.begunSearch, SearchState.probing]

/-- A suspected leak that starts a search. -/
theorem exec_leakWindowExpiry_of_started {s : State} {l : LoopId} {e : Nat} (awake : s.inReset = false)
    (timer : (s.loopRec l).leakTimer = some e) {r : LoopRecord} (config : r.config = (s.loopRec l).config)
    (judged : (s.judging (max s.time (e * unitsPerTenth)) l (s.loopRec l) s.attention).judgeWindow l =
      ((s.judging (max s.time (e * unitsPerTenth)) l r (s.leakCauses l)).startSearch l).modLoop l fun r =>
        { r with autoOutcome := .started }) :
    ∃ t, exec (.leakWindowExpiry l) s = .next t ∧ t.attention = s.leakCauses l ∧
      SearchBegun s t l (max s.time (e * unitsPerTenth) / unitsPerTenth) ∧
      t.loops =
        tabSet s.loops l
          { r with leakTimer := none, leakLength := 0, leakWindow := .empty, autoOutcome := .started } ∧
      t = { s with
            time := max s.time (e * unitsPerTenth), sections := t.sections, fans := t.fans, loops := t.loops,
            txQueue := t.txQueue, lines := t.lines, search := t.search, attention := t.attention } := by
  have run := exec_leakWindowExpiry awake timer
  dsimp only at run
  rw [judged, State.monitorRuns_startSearch, if_neg Bool.false_ne_true] at run
  have record := s.judging_loopRec (max s.time (e * unitsPerTenth)) l r (s.leakCauses l)
  have begun : SearchBegun s _ l (max s.time (e * unitsPerTenth) / unitsPerTenth) :=
    searchBegun_congr (s := s) (u := s.judging (max s.time (e * unitsPerTenth)) l r (s.leakCauses l)) rfl rfl rfl rfl
      (by rw [record, config]) (searchBegun_startSearch _ l)
  have frame := State.startSearch_frame (s.judging (max s.time (e * unitsPerTenth)) l r (s.leakCauses l)) l
  have loops : (State.startSearch (s.judging _ l r (s.leakCauses l)) l).loops = _ := congrArg State.loops frame
  rw [record] at frame loops
  refine ⟨_, run, ?_, begun, ?_, ?_⟩
  · exact congrArg State.attention frame
  · have base : (s.judging (max s.time (e * unitsPerTenth)) l r (s.leakCauses l)).loops = tabSet s.loops l r := rfl
    simp only [State.modLoop, loops, base, tabSet_tabSet, tabGet_tabSet, if_true]
  · rw [State.modLoop, frame]
    rfl

/-- Settles O38: the window by its captures, its rate by the threshold, the automatic start by the search. -/
theorem leakWindowsAreJudged : Obligations.LeakWindowsAreJudged := by
  intro s l e awake runs timer now r w valid judged suspect
  have window := s.judgeWindow_eq now l
  have suspected (is : valid) (above : r.config.suspect < w.rate) :=
    (window.trans ((if_pos is).trans (if_pos above))).trans (s.suspectLeak_eq now l _)
  have started (is : valid) (above : r.config.suspect < w.rate) (auto : r.config.autoSearch = true) :=
    ((suspected is above).trans (if_pos auto)).trans (s.autoStart_eq now l (s.leakCauses l) rfl)
  refine ⟨fun a b first last => CaptureWindow.rate_eq first last, fun invalid => ?_, fun is low => ?_,
    fun is above => ⟨fun manual => ?_, fun auto busy => ?_, fun auto idle none => ?_, fun auto idle some => ?_⟩⟩
  · exact exec_leakWindowExpiry_of_judged awake runs timer (window.trans (if_neg invalid)) rfl
  · exact exec_leakWindowExpiry_of_judged awake runs timer
      (window.trans ((if_pos is).trans (if_neg (Nat.not_lt.mpr low)))) rfl
  · have off : ¬ r.config.autoSearch = true := by simp [manual]
    exact ⟨_, exec_leakWindowExpiry_of_judged awake runs timer ((suspected is above).trans (if_neg off)) rfl,
      s.mem_leakCauses l, rfl⟩
  · exact ⟨_, exec_leakWindowExpiry_of_judged awake runs timer ((started is above auto).trans (if_pos busy)) rfl,
      s.mem_leakCauses l, rfl⟩
  · exact ⟨_, exec_leakWindowExpiry_of_judged awake runs timer
      ((started is above auto).trans ((if_neg (not_not_intro idle)).trans (if_pos none))) rfl, s.mem_leakCauses l, rfl⟩
  · obtain ⟨t, run, attention, begun, loops, frame⟩ := exec_leakWindowExpiry_of_started
      (r := { r with lastResult := .rate w.rate }) awake timer rfl
      ((started is above auto).trans ((if_neg (not_not_intro idle)).trans (if_neg some)))
    exact ⟨t, run, fun c => by rw [attention, State.mem_leakCauses], begun, loops, frame⟩

end Sys2Proof.Machine
end

section
/-! PROOF. Transmissions of valve commands (R113, R115). -/

namespace Sys2Proof.Machine

open Sys2Proof

theorem State.busDrivePin_iff {s : State} (awake : s.inReset = false) :
    s.busDrivePin = .high ↔ ∃ x, s.transmission = some x ∧ ∀ m, x.stopAt = some m → s.time < m := by
  have pin : s.busDrivePin = .high ↔ s.sending = true := by
    rw [State.busDrivePin, awake]
    cases s.sending <;> simp
  rw [pin, State.sending]
  cases s.transmission with
  | none => simp
  | some x => cases stop : x.stopAt <;> simp [stop]

/-! ### The beginning (R113) -/

theorem exec_transmissionBegin {s : State} (awake : s.inReset = false) (dt : Nat) :
    exec (.transmissionBegin dt) s = .next (s.advance dt).beginTransmission :=
  congrArg Host.Outcome.next (State.event_of_awake awake dt State.beginTransmission)

theorem State.beginTransmission_of_nothing {s : State}
    (nothing : s.txQueue = [] ∨ ∃ x, s.transmission = some x ∧ x.stopAt = none) : s.beginTransmission = s := by
  unfold State.beginTransmission
  rcases nothing with empty | ⟨x, busy, goes⟩
  · rw [empty]
    rfl
  · split
    · split
      · exact if_pos (by simp [busy, goes])
      · rfl
    · rfl

theorem State.beginTransmission_of_front {s : State} {e : QueueEntry} {rest : List QueueEntry} {node : Byte}
    (free : ∀ x, s.transmission = some x → x.stopAt ≠ none) (queue : s.txQueue = e :: rest)
    (valved : (s.sec e.slot).config.valveNode = some node) :
    s.beginTransmission = (s.runTo (s.silentFrom + 3 * unitsPerChar)).beginSending e node := by
  have stopped : ¬ (s.transmission.any (·.stopAt.isNone)) = true := by
    rw [Option.any_eq_true]
    rintro ⟨x, is, goes⟩
    exact free x is (Option.isNone_iff_eq_none.mp goes)
  unfold State.beginTransmission
  rw [queue, List.head?_cons]
  dsimp only
  rw [valved]
  exact if_neg stopped

theorem State.silentFrom_eq (s : State) (stopped : ∀ x, s.transmission = some x → x.stopAt ≠ none) :
    s.silentFrom =
      match s.transmission with
      | some x => max s.busIdleFrom (x.stopAt.getD 0)
      | none => s.busIdleFrom := by
  unfold State.silentFrom
  cases busy : s.transmission with
  | none => rfl
  | some x =>
    obtain ⟨m, stop⟩ := Option.ne_none_iff_exists'.mp (stopped x busy)
    simp [stop]

/-! ### The end (R115) -/

theorem exec_transmissionEnd {s : State} (awake : s.inReset = false) (dt : Nat) (readBack : List BusChar)
    {x : Transmission} (busy : s.transmission = some x) :
    exec (.transmissionEnd dt readBack) s = .next ((s.advance dt).endTransmission x readBack) := by
  change Host.Outcome.next _ = _
  rw [busy]
  exact congrArg Host.Outcome.next (State.event_of_awake awake dt _)

/-- The characters sent are those that read back as sent, and the first that does not. -/
theorem echoLength_eq (telegram : List Byte) (readBack : List BusChar) :
    echoLength telegram readBack =
      min telegram.length
        (((telegram.zip readBack).takeWhile fun q => q.2.byte = q.1 ∧ q.2.stopOk).length + 1) := by
  induction telegram generalizing readBack with
  | nil => simp [echoLength]
  | cons sent telegram ih =>
    cases readBack with
    | nil => simp [echoLength]
    | cons read readBack =>
      rw [echoLength, List.zip_cons_cons, List.takeWhile_cons, List.length_cons]
      by_cases good : read.byte = sent ∧ read.stopOk = true
      · simp only [good, ih, and_self, if_true, decide_true, List.length_cons]
        omega
      · simp [good]

theorem State.endTransmission_of_removed {s : State} {x : Transmission} {m : Nat} (busy : s.transmission = some x)
    (stop : x.stopAt = some m) (readBack : List BusChar) :
    s.endTransmission x readBack =
      { s with time := max s.time m, transmission := none, busIdleFrom := max s.busIdleFrom m } := by
  have silent : (s.runTo m).silentFrom = max s.busIdleFrom m := by
    have bound : (s.runTo m).transmission.bind (·.stopAt) = some m := by
      show s.transmission.bind _ = _
      rw [busy]
      exact stop
    rw [State.silentFrom, bound]
    rfl
  unfold State.endTransmission
  rw [stop]
  dsimp only
  rw [silent]
  rfl

/-- The part at the end of a transmission that was not removed, before its entry is settled. -/
def State.sentUntil (s : State) (m : Nat) : State :=
  { s with time := max s.time m, transmission := none, busIdleFrom := max s.time m }

theorem State.endTransmission_of_going (s : State) {x : Transmission} (goes : x.stopAt = none)
    (readBack : List BusChar) :
    s.endTransmission x readBack = (s.sentUntil (x.endsAt readBack)).settleEntry x := by
  unfold State.endTransmission
  rw [goes]
  dsimp only
  cases x.echo readBack <;> rfl

theorem State.settleEntry_of_empty {s : State} (empty : s.txQueue = []) (x : Transmission) : s.settleEntry x = s := by
  unfold State.settleEntry
  rw [empty]

theorem State.settleEntry_of_other {s : State} {x : Transmission} {e : QueueEntry} {rest : List QueueEntry}
    (queue : s.txQueue = e :: rest) (other : e.slot ≠ x.slot ∨ e.command ≠ x.command) : s.settleEntry x = s := by
  unfold State.settleEntry
  rw [queue]
  exact if_neg fun same => other.elim (absurd same.1) (absurd same.2)

theorem State.settleEntry_of_sent {s : State} {x : Transmission} {e : QueueEntry} {rest : List QueueEntry}
    (queue : s.txQueue = e :: rest) (slot : e.slot = x.slot) (command : e.command = x.command) :
    let r := s.sec x.slot
    let meets := x.command = .toOpen ∧ r.slot = .retiring
    s.settleEntry x =
      { s with
        txQueue := rest
        sections :=
          if meets then
            tabSet s.sections x.slot (if r.fanDrained then .cleared else { r with valveDrained := true })
          else s.sections
        fans :=
          if meets ∧ r.fanDrained = true then
            tabSet s.fans x.slot
              { gen := .disable s.drive.fanPeriod (s.fanActiveLow x.slot), ramp := 0, rampTimer := none,
                ownStaged := 0 }
          else s.fans } := by
  intro r meets
  have same := And.intro slot command
  unfold State.settleEntry
  rw [queue]
  refine (if_pos same).trans ?_
  obtain closes | direction : x.command = .toClosed ∨ x.command = .toOpen := by cases x.command <;> simp
  · have not : ¬ meets := fun h => nomatch closes.symm.trans h.1
    rw [if_neg not, if_neg fun h => not h.1]
    simp only [closes]
  · simp only [direction]
    refine (State.meetValveDrain_eq _ _).trans ?_
    by_cases retiring : r.slot = .retiring
    · have now : meets := ⟨direction, retiring⟩
      refine (if_pos retiring).trans ?_
      rw [if_pos now]
      by_cases drained : r.fanDrained = true
      · have both := And.intro now drained
        refine (if_pos drained).trans ?_
        rw [if_pos drained, if_pos both]
        rfl
      · refine (if_neg drained).trans ?_
        rw [if_neg drained, if_neg fun h => drained h.2]
        rfl
    · have not : ¬ meets := fun h => retiring h.2
      refine (if_neg retiring).trans ?_
      rw [if_neg not, if_neg fun h => not h.1]

/-- Settles O37: the pin, the beginning by the front entry, and the end by the entry it finds. -/
theorem transmissionsSendTheFrontEntry : Obligations.TransmissionsSendTheFrontEntry := by
  intro s dt awake
  refine ⟨State.busDrivePin_iff awake, fun nothing => ?_, fun e rest node free queue valved => ?_,
    fun x readBack busy => ?_⟩
  · rw [exec_transmissionBegin awake, State.beginTransmission_of_nothing (s := s.advance dt) nothing]
    rfl
  · intro silent began
    have telegram := (telegramsDecodeBack (commandTelegram node e.command)).1
    refine ⟨encodeTelegram (commandTelegram node e.command), rfl, ?_, ?_⟩
    · rw [telegram, commandTelegram]
      cases e.command <;> rfl
    · rw [exec_transmissionBegin awake, State.beginTransmission_of_front (s := s.advance dt) free queue valved,
        State.silentFrom_eq (s.advance dt) free]
      rfl
  · intro command
    have run := exec_transmissionEnd awake dt readBack busy
    refine ⟨fun m stop => ?_, fun goes => ?_⟩
    · rw [run, State.endTransmission_of_removed (s := s.advance dt) busy stop]
      rfl
    · intro good sent moment ended
      have settles : (s.advance dt).endTransmission x readBack = ended.settleEntry x := by
        rw [State.endTransmission_of_going _ goes, Transmission.endsAt, echoLength_eq]
        rfl
      rw [run, settles]
      refine ⟨fun empty => ?_, fun e rest queue => ⟨fun other => ?_, fun slot direction => ?_⟩⟩
      · rw [State.settleEntry_of_empty (s := ended) empty]
      · rw [State.settleEntry_of_other (s := ended) queue other]
      · rw [State.settleEntry_of_sent (s := ended) queue slot direction]
        rfl

end Sys2Proof.Machine
end

section
/-! PROOF. A change of protection state and its hand-offs (R54, R55, R57 to R61). -/

namespace Sys2Proof.Machine

open Sys2Proof

/-! ### The change and what follows it outside the search -/

theorem State.setProtection_sections (s : State) (n : Slot) (p : Protection) :
    (s.setProtection n p).sections = tabSet s.sections n { s.sec n with protection := p } := by
  unfold State.setProtection
  simp only [State.evalLines_sections, State.decidePump_sections, State.restage_sections]
  rfl

theorem State.setProtection_restaged (s : State) (n : Slot) (p : Protection) : Restaged s (s.setProtection n p) n := by
  refine Restaged.of_restage s _ (s.modSec n fun r => { r with protection := p }) n (fun m => rfl) (fun m => ?_) ?_
    fun m => ?_
  all_goals simp [State.setProtection]

theorem State.setProtection_lines (s : State) (n : Slot) (p : Protection) :
    LinesEvaluated s (s.setProtection n p) n := by
  refine linesEvaluated_evalLines (fun k => ?_) n
  simp only [State.decidePump_line, State.restage_line]
  rfl

theorem State.setProtection_loop (s : State) (n : Slot) (p : Protection) :
    ((s.modSec n fun r => { r with protection := p }).sec n).config.loopOf = (s.sec n).config.loopOf := by
  rw [State.modSec_sec_self]

theorem State.setProtection_pumpDuty (s : State) (n : Slot) (p : Protection) (l : LoopId) :
    (s.setProtection n p).pumpDuty l =
      (((s.modSec n fun r => { r with protection := p }).restage n).pumpDuty l) := by
  refine State.pumpDuty_of_keys ?_ (fun m q _ => ?_) ?_
  all_goals simp [State.setProtection]

theorem State.setProtection_pumps (s : State) (n : Slot) (p : Protection) :
    let l := (s.sec n).config.loopOf
    (s.setProtection n p).pumps =
      if (s.loopRec l).isSet then
        tabSet s.pumps l { s.pump l with stagedDuty := (s.setProtection n p).pumpDuty l }
      else s.pumps := by
  intro l
  have pumps : (s.setProtection n p).pumps =
      (State.decidePump ((s.modSec n fun r => { r with protection := p }).restage n) l).pumps := by
    rw [State.setProtection, State.evalLines_pumps, State.setProtection_loop]
  have isSet : (((s.modSec n fun r => { r with protection := p }).restage n).loopRec l).isSet = (s.loopRec l).isSet := by
    simp
  rw [pumps, State.setProtection_pumpDuty, State.decidePump, isSet]
  split
  · rw [State.modPump, State.restage_pumps]
    rfl
  · rw [State.restage_pumps]
    rfl

theorem State.setProtection_frame (s : State) (n : Slot) (p : Protection) :
    let u := s.setProtection n p
    u = { s with sections := u.sections, fans := u.fans, pumps := u.pumps, lines := u.lines } := by
  intro u
  apply State.eq_of_fields
  case rest =>
    have rest : u.rest = s.rest := by simp [u, State.setProtection]
    rw [rest]
    simp only [State.rest]
  all_goals simp [u, State.setProtection]

/-! ### What the search is told -/

theorem State.changeProtection_eq (s : State) (n : Slot) (p : Protection) :
    s.changeProtection n p = (State.postEntry (s.setProtection n p) n p).tellSearch n p := rfl

/-- A section back in NORMAL concerns the search only where a suspended one waits for it (R147). -/
theorem State.changeProtection_normal (s : State) (n : Slot) :
    let u := s.setProtection n .normal
    s.changeProtection n .normal =
      if (s.search.state = .suspended ∧ n ∈ s.search.wait) ∧ (s.sec n).mark = .none then u.judgeSuspended else u := by
  intro u
  have mark : (u.sec n).mark = (s.sec n).mark := by rw [State.setProtection_sec, if_pos rfl]
  have search : u.search = s.search := by simp [u, State.setProtection]
  rw [State.changeProtection_eq]
  show u.tellSearch n .normal = _
  unfold State.tellSearch
  rw [mark, search]
  cases (s.sec n).mark <;> simp

/-- A suspended search judges its resumption. -/
theorem resumption_judgeSuspended {s u : State} (same : SameUnits s u)
    (valve : ∀ n, (u.sec n).valve = (s.sec n).valve) (search : u.search = s.search) {p : SearchParams}
    (params : s.search.params = some p) : Resumption s u.judgeSuspended p u.tenths := by
  have met_iff : (u.search.phaseTimer = none ∧ (∀ n ∈ u.search.wait, (u.sec n).protection = .normal) ∧
      ∀ n ∈ u.search.wait, (u.sec n).valve.reads 0 = true) ↔
      s.search.phaseTimer = none ∧
        ∀ n ∈ s.search.wait, (s.sec n).protection = .normal ∧ (s.sec n).valve.reads 0 = true := by
    simp only [search, same.protection, valve, forall_and]
  refine ⟨fun met => ?_, fun unmet => ?_⟩
  · obtain ⟨timer, normal, opened⟩ := met_iff.mpr met
    have made := State.judgeSuspended_of_met (s := u) (search ▸ params) timer normal opened
    rw [search] at made
    exact same.isolationMade made
  · rw [State.judgeSuspended_of_unmet (met_iff.not.mpr unmet)]
    exact ⟨search, same.mark⟩

/-! ### ACKNOWLEDGE TRIP (R54, R55) -/

theorem acknowledgeRequest_index {s : State} {n : Slot} (serves : (s.sec n).slot.inService = true) :
    let r := s.sec n
    acknowledgeRequest (indexByte n) [] s =
      if r.protection = .tripped then
        if r.integrator ≤ exitLevel r.config.iWatch then .ok (s.changeProtection n .normal) else .no .stillCold
      else .ok s := by
  intro r
  rw [acknowledgeRequest, onSlot_index, if_neg (fun h => h rfl)]
  refine (ifInService_of_inService _ _ serves).trans ?_
  show _ = if (s.sec n).protection = .tripped then _ else _
  cases (s.sec n).protection <;> simp [r]

/-- Settles O13: a trip released below its exit level is a change to NORMAL with its hand-offs. -/
theorem acknowledgementOfATrip : Obligations.AcknowledgementOfATrip := by
  intro s dt n taking serves r l
  have parts : requestParts (.acknowledgeTrip dt (indexByte n) []) = some (5, dt, indexByte n, []) := rfl
  have owner : requestOwner 5 (indexByte n) [] (s.atTake dt) =
      if r.protection = .tripped then
        if r.integrator ≤ exitLevel r.config.iWatch then .ok ((s.atTake dt).changeProtection n .normal)
        else .no .stillCold
      else .ok (s.atTake dt) := acknowledgeRequest_index (s := s.atTake dt) serves
  refine ⟨fun calm => ?_, fun tripped cold => ?_, fun tripped warm => ?_⟩
  · exact exec_request_of_ok parts taking (owner.trans (if_neg calm))
  · exact exec_request_of_no parts taking (owner.trans ((if_pos tripped).trans (if_neg (Nat.not_le.mpr cold))))
  have released : requestOwner 5 (indexByte n) [] (s.atTake dt) = .ok ((s.atTake dt).changeProtection n .normal) :=
    owner.trans ((if_pos tripped).trans (if_pos warm))
  have run := exec_request_of_ok parts taking released
  have step := (s.atTake dt).changeProtection_normal n
  have sections : ((s.atTake dt).setProtection n .normal).sections =
      tabSet s.sections n { r with protection := .normal } := State.setProtection_sections _ n .normal
  have sec : ((s.atTake dt).setProtection n .normal).sec n = { r with protection := .normal } := by
    rw [State.setProtection_sec, if_pos rfl]
    rfl
  have restaged := (s.atTake dt).setProtection_restaged n .normal
  have lines := (s.atTake dt).setProtection_lines n .normal
  have pumps := (s.atTake dt).setProtection_pumps n .normal
  have frame := (s.atTake dt).setProtection_frame n .normal
  generalize (s.atTake dt).setProtection n .normal = u at *
  by_cases awaited : (s.search.state = .suspended ∧ n ∈ s.search.wait) ∧ r.mark = .none
  · rw [step.trans (if_pos awaited)] at run
    have protection := u.judgeSuspended_keeps SectionRecord.protection (fun _ _ _ => rfl) n
    have integrator := u.judgeSuspended_keeps SectionRecord.integrator (fun _ _ _ => rfl) n
    rw [sec] at protection integrator
    refine ⟨_, run, protection, integrator, rfl,
      fun other => absurd ⟨awaited.1.1, awaited.1.2, awaited.2⟩ other, fun _ _ _ p params => ?_⟩
    have same : SameUnits { s with sections := tabSet s.sections n { r with protection := .normal } } u :=
      SameUnits.of_sections sections ((congrArg State.loops frame).trans rfl)
    have valve (m : Slot) : (u.sec m).valve = (tabGet (tabSet s.sections n { r with protection := .normal }) m).valve := by
      rw [State.sec, sections]
    have search : u.search = s.search := (congrArg State.search frame).trans rfl
    have tenths : u.tenths = (s.time + dt) / unitsPerTenth := (congrArg State.tenths frame).trans rfl
    have resumption := resumption_judgeSuspended same valve search params
    rw [tenths] at resumption
    exact resumption
  · rw [step.trans (if_neg awaited)] at run
    have protection : (u.sec n).protection = .normal := by rw [sec]
    have integrator : (u.sec n).integrator = r.integrator := by rw [sec]
    refine ⟨_, run, protection, integrator, rfl,
      fun _ => ⟨sections, restaged, lines, pumps, ?_⟩, fun suspended waits free => absurd ⟨⟨suspended, waits⟩, free⟩ awaited⟩
    rw [State.putReply, frame]
    rfl

end Sys2Proof.Machine
end

section
/-! PROOF. The stages of an evaluation (R31 to R45). -/

namespace Sys2Proof.Machine

open Sys2Proof

/-! ### The lowest of a list -/

theorem lowest_eq_some_iff (values : List Int) (a : Int) : lowest values = some a ↔ a ∈ values ∧ ∀ b ∈ values, a ≤ b := by
  induction values generalizing a with
  | nil => simp [lowest]
  | cons v rest ih =>
    rw [lowest, Option.some_inj]
    cases below : lowest rest with
    | none =>
      have empty : rest = [] := by
        cases rest with
        | nil => rfl
        | cons => simp [lowest] at below
      simp only [lowerOf, empty, List.mem_cons, List.not_mem_nil, or_false, forall_eq]
      exact ⟨fun is => ⟨is.symm, is.ge⟩, fun is => is.1.symm⟩
    | some w =>
      obtain ⟨member, least⟩ := (ih w).mp below
      simp only [lowerOf, List.mem_cons, forall_eq_or_imp]
      constructor
      · rintro rfl
        exact ⟨(min_choice v w).imp id (fun is => by rw [is]; exact member), Int.min_le_left v w,
          fun b within => Int.le_trans (Int.min_le_right v w) (least b within)⟩
      · rintro ⟨is, first, others⟩
        rcases is with rfl | within
        · exact Int.min_eq_left (others w member)
        · have same := Int.le_antisymm (others w member) (least a within)
          rw [← same]
          exact Int.min_eq_right first

/-! ### The inputs and their substitutes (R33 to R37) -/

theorem Destination.usable_eq (d : Destination) : d.usable = d.live := by
  unfold Destination.usable Destination.live
  cases d.status <;> simp

theorem Destination.lastValue_eq (d : Destination) : d.lastValue = d.last := by
  unfold Destination.lastValue Destination.last
  cases d.status <;> simp

theorem Destination.staleAge_eq (d : Destination) (now : Nat) : d.staleAge now = d.age now := by
  unfold Destination.staleAge Destination.age
  cases d.staleSince <;> simp

theorem Destination.lastWithin_eq (d : Destination) (now limit : Nat) : d.lastWithin now limit = d.recent now limit := by
  rw [Destination.lastWithin, Destination.recent, Destination.staleAge_eq, Destination.lastValue_eq]

theorem lowerOption_eq (x y : Option Int) : lowerOption x y = lowest ([x, y].filterMap id) := by
  cases x <;> cases y <;> simp [lowerOption, lowest, lowerOf]

theorem lowest_eq_none_iff (values : List Int) : lowest values = none ↔ values = [] := by
  cases values <;> simp [lowest]

/-- T_air used: the lowest usable air, else the lowest recent one, else the design frost air (R34). -/
theorem airUsed_eq (own loopAir : Destination) (frostAir : Int) (now : Nat) :
    let airs := [own.live, loopAir.live].filterMap id
    let lastAirs := [own.recent now 3000, loopAir.recent now 3000].filterMap id
    (airUsed own loopAir frostAir now).1 = ((lowest airs).or (lowest lastAirs)).getD frostAir ∧
      ((airUsed own loopAir frostAir now).2 = true ↔ airs = [] ∧ lastAirs = []) := by
  intro airs lastAirs
  unfold airUsed
  simp only [lowerOption_eq, Destination.usable_eq, Destination.lastWithin_eq]
  rw [← lowest_eq_none_iff airs, ← lowest_eq_none_iff lastAirs]
  show (match lowest airs with
    | some t => (t, false)
    | none => _).1 = _ ∧ _
  cases lowest airs with
  | some a => simp
  | none => cases lowest lastAirs <;> simp

/-- T_out used: the live value, the last one through the grace and degraded after it, the air while awaiting (R35). -/
theorem outletUsed_of_live {d : Destination} {v : Int} (live : d.live = some v) (tAir : Int) (grace penalty now : Nat) :
    outletUsed d tAir grace penalty now = { value := v, held := false, degraded := false } := by
  unfold outletUsed
  rw [Destination.usable_eq, live]

theorem outletUsed_of_last {d : Destination} {v : Int} (last : d.last = some v) (tAir : Int) (grace penalty now : Nat) :
    outletUsed d tAir grace penalty now =
      if d.age now - 10 * grace = 0 then { value := v, held := true, degraded := false }
      else
        { value := max tAir (v - ((d.age now - 10 * grace) * penalty / 100 : Nat)), held := false,
          degraded := true } := by
  have stale : d.status = .stale := by
    by_contra other
    rw [Destination.last, if_neg other] at last
    cases last
  have usable : d.usable = none := by
    unfold Destination.usable
    rw [stale]
  unfold outletUsed
  rw [usable, Destination.lastValue_eq, last, Destination.staleAge_eq]
  simp only [Nat.sub_eq_zero_iff_le]

theorem outletUsed_of_awaiting {d : Destination} (awaiting : d.status = .awaiting) (tAir : Int)
    (grace penalty now : Nat) :
    outletUsed d tAir grace penalty now = { value := tAir, held := false, degraded := true } := by
  have usable : d.usable = none := by
    unfold Destination.usable
    rw [awaiting]
  have last : d.lastValue = none := by
    unfold Destination.lastValue
    rw [awaiting]
  unfold outletUsed
  rw [usable, last]

/-- The loop flow used (R36). -/
theorem flowUsed_eq (d : Destination) (now : Nat) :
    (flowUsed d now).value = ((d.live.or (d.recent now 600)).getD 0).toNat ∧
      ((flowUsed d now).held = true ↔ d.live = none ∧ d.recent now 600 ≠ none) ∧
      ((flowUsed d now).zeroed = true ↔ d.live = none ∧ d.recent now 600 = none) := by
  unfold flowUsed
  simp only [Destination.usable_eq, Destination.lastWithin_eq]
  cases d.live with
  | some q => simp
  | none => cases d.recent now 600 <;> simp

/-- The concentration used (R37). -/
theorem concentrationUsed_eq (d : Destination) (declared : Nat) :
    (concentrationUsed d declared).1 =
        (match d.live with
          | some c => clampNat 0 600 (min declared c.toNat)
          | none => clampNat 0 600 declared) ∧
      ((concentrationUsed d declared).2 = true ↔ d.live = none) := by
  unfold concentrationUsed
  simp only [Destination.usable_eq]
  cases d.live <;> simp

/-! ### The stages (R39 to R45) -/

theorem State.weightSum_eq (s : State) (l : LoopId) :
    s.weightSum l =
      (allSlots.map fun m =>
        if (s.sec m).slot ≠ .vacant ∧ (s.sec m).config.loopOf = l ∧ (s.sec m).mark = .none then
          (s.sec m).config.weight
        else 0).sum := by
  have flows (m : Slot) : ((s.sec m).config.loopOf = l ∧ (s.sec m).inFlow = true) ↔
      (s.sec m).slot ≠ .vacant ∧ (s.sec m).config.loopOf = l ∧ (s.sec m).mark = .none := by
    simp only [SectionRecord.inFlow, Bool.and_eq_true, SlotState.enrolled_iff, beq_iff_eq, and_left_comm]
  simp only [State.weightSum, flows]

theorem flowShare_eq (mark : Mark) (qloop weight weightSum : Nat) :
    flowShare mark qloop weight weightSum = if mark = .none then qloop * weight / weightSum else 0 := by
  cases mark <;> rfl

theorem elapsedSince_eq (previous : Option EvalRecord) (now : PartTime) :
    (previous = none → elapsedSince previous now = 0) ∧
      ∀ before, previous = some before → elapsedSince previous now = min 300 (now - before.taken).toNat := by
  refine ⟨fun none => by rw [none]; rfl, fun before is => by rw [is]; rfl⟩

theorem State.curveOf_eq (s : State) (c : CurveName) : s.curveOf c = if c = .a then s.curveA else s.curveB := by
  cases c <;> rfl

end Sys2Proof.Machine
end

section
/-! PROOF. The take of an evaluation: its record, and what the decision makes of the section and of the search. -/

namespace Sys2Proof.Machine

open Sys2Proof

/-! ### The record (R31 to R45) -/

section
variable (s : State) (n : Slot)

theorem State.evaluation_tAir :
    let r := s.sec n
    let lp := s.loopRec r.config.loopOf
    let airs := [r.air.live, lp.air.live].filterMap id
    let lastAirs := [r.air.recent s.tenths 3000, lp.air.recent s.tenths 3000].filterMap id
    (s.evaluation n).tAir = ((lowest airs).or (lowest lastAirs)).getD lp.config.frostAir ∧
      ((s.evaluation n).flags.airSubstituted = true ↔ airs = [] ∧ lastAirs = []) :=
  airUsed_eq _ _ _ _

/-- The outlet value used, held and degraded of a record come from one place. -/
theorem State.evaluation_outlet {out : OutletUsed}
    (is : outletUsed (s.sec n).outlet (s.evaluation n).tAir (s.sec n).config.grace (s.sec n).config.penalty s.tenths =
      out) :
    (s.evaluation n).tOut = out.value ∧ (s.evaluation n).flags.outletHeld = out.held ∧
      (s.evaluation n).flags.outletDegraded = out.degraded := by
  subst is
  exact ⟨rfl, rfl, rfl⟩

theorem State.evaluation_flow :
    let flow := (s.loopRec (s.sec n).config.loopOf).flow
    ((s.evaluation n).flags.flowHeld = true ↔ flow.live = none ∧ flow.recent s.tenths 600 ≠ none) ∧
      ((s.evaluation n).flags.flowZeroed = true ↔ flow.live = none ∧ flow.recent s.tenths 600 = none) :=
  (flowUsed_eq _ _).2

theorem State.evaluation_share :
    let r := s.sec n
    let flow := (s.loopRec r.config.loopOf).flow
    (s.evaluation n).share =
      if r.mark = .none then
        ((flow.live.or (flow.recent s.tenths 600)).getD 0).toNat * r.config.weight /
          (allSlots.map fun m =>
            if (s.sec m).slot ≠ .vacant ∧ (s.sec m).config.loopOf = r.config.loopOf ∧ (s.sec m).mark = .none then
              (s.sec m).config.weight
            else 0).sum
      else 0 := by
  intro r flow
  rw [← State.weightSum_eq, ← (flowUsed_eq flow s.tenths).1, ← flowShare_eq]
  rfl

theorem State.evaluation_freeze :
    let lp := s.loopRec (s.sec n).config.loopOf
    (s.evaluation n).tFreeze =
        freezePoint (if lp.config.curve = .a then s.curveA else s.curveB)
          (match lp.concentration.live with
            | some c => clampNat 0 600 (min lp.config.concentration c.toNat)
            | none => clampNat 0 600 lp.config.concentration) ∧
      ((s.evaluation n).flags.concentrationDeclared = true ↔ lp.concentration.live = none) := by
  intro lp
  have used := concentrationUsed_eq lp.concentration lp.config.concentration
  rw [← State.curveOf_eq]
  exact ⟨congrArg (freezePoint (s.curveOf lp.config.curve)) used.1, used.2⟩

end

/-! ### What of a state the statements about the search read after it -/

/-- A state that the regime's decision reaches after the search has been told: the search, the marks, the queue and
the moment are as they were, no cause has left, and the leak windows stand. -/
structure SearchAgrees (t t' : State) : Prop where
  time : t'.time = t.time
  search : t'.search = t.search
  mark : ∀ n, (t'.sec n).mark = (t.sec n).mark
  queue : t'.txQueue = t.txQueue
  causes : ∀ c ∈ t.attention, c ∈ t'.attention
  leakTimer : ∀ l, (t'.loopRec l).leakTimer = (t.loopRec l).leakTimer
  leakLength : ∀ l, (t'.loopRec l).leakLength = (t.loopRec l).leakLength
  leakWindow : ∀ l, (t'.loopRec l).leakWindow = (t.loopRec l).leakWindow

namespace SearchAgrees

variable {s t t' : State} (agrees : SearchAgrees t t')
include agrees

theorem openPosted {slots : List Slot} (h : OpenPosted s t slots) : OpenPosted s t' slots := by
  simpa only [OpenPosted, agrees.queue] using h

theorem monitorBegins {loopOf : Option LoopId} (h : MonitorBegins s t loopOf) : MonitorBegins s t' loopOf := by
  simpa only [MonitorBegins, agrees.leakTimer, agrees.leakLength, agrees.leakWindow, agrees.time] using h

theorem searchEnded {result : SearchResult} (h : SearchEnded s t result) : SearchEnded s t' result := by
  obtain ⟨ended, posted, marks, opened, monitor⟩ := h
  exact ⟨agrees.search.trans ended, agrees.causes _ posted, fun n => (agrees.mark n).trans (marks n),
    agrees.openPosted opened, agrees.monitorBegins monitor⟩

theorem isolationMade {c : SearchContext} {p : SearchParams} {tenths : Nat} {marks : Slot → Mark}
    (h : IsolationMade s t c p tenths marks) : IsolationMade s t' c p tenths marks := by
  obtain ⟨suspends, ends, settles⟩ := h
  refine ⟨fun cold => ?_, fun calm bare => ?_, fun fit => ?_⟩
  · obtain ⟨search, marked⟩ := suspends cold
    exact ⟨agrees.search.trans search, fun n => (agrees.mark n).trans (marked n)⟩
  · obtain ⟨search, opened, monitor, ended, faults, marked⟩ := ends calm bare
    exact ⟨agrees.search.trans search, agrees.openPosted opened, agrees.monitorBegins monitor, agrees.causes _ ended,
      fun n member node => agrees.causes _ (faults n member node), fun n => (agrees.mark n).trans (marked n)⟩
  · obtain ⟨search, marked, posted⟩ := settles fit
    exact ⟨agrees.search.trans search, fun n => (agrees.mark n).trans (marked n), fun n member => by
      rw [agrees.queue]
      exact posted n member⟩

theorem resumption {p : SearchParams} {tenths : Nat} (h : Resumption s t p tenths) : Resumption s t' p tenths := by
  obtain ⟨resumes, waits⟩ := h
  refine ⟨fun met => agrees.isolationMade (resumes met), fun unmet => ?_⟩
  obtain ⟨search, marks⟩ := waits unmet
  exact ⟨agrees.search.trans search, fun n => (agrees.mark n).trans (marks n)⟩

end SearchAgrees

end Sys2Proof.Machine
end

section
/-! PROOF. What a change of protection state makes of the search (R60, R61, R146, R147). -/

namespace Sys2Proof.Machine

open Sys2Proof

/-- An ending seen from a state with the same search, marks, configurations and loops. -/
theorem searchEnded_congr {s u t : State} {result : SearchResult} (search : u.search = s.search)
    (mark : ∀ n, (u.sec n).mark = (s.sec n).mark) (config : ∀ n, (u.sec n).config = (s.sec n).config)
    (loop : ∀ l, (u.loopRec l).config = (s.loopRec l).config) (h : SearchEnded u t result) : SearchEnded s t result := by
  simpa only [SearchEnded, OpenPosted, MonitorBegins, search, mark, config, loop] using h

/-! ### What the search does when it is told -/

/-- A state of protection that pre-empts a search and freezes a held section. -/
def Protection.deep (p : Protection) : Prop := p = .defend ∨ p = .tripped

theorem State.tellSearch_of_probe {s : State} {n : Slot} {p : Protection} (mark : (s.sec n).mark = .probe)
    (deep : p.deep) (state : s.search.state = .settling ∨ s.search.state = .observing) :
    s.tellSearch n p = s.preempt := by
  unfold State.tellSearch
  rw [mark]
  exact if_pos ⟨deep, state⟩

theorem State.tellSearch_of_awaited {s : State} {n : Slot} (p : Protection) (mark : (s.sec n).mark = .none)
    (state : s.search.state = .suspended) (member : n ∈ s.search.wait) : s.tellSearch n p = s.judgeSuspended := by
  unfold State.tellSearch
  rw [mark]
  exact if_pos ⟨state, member⟩

theorem State.tellSearch_of_held {s : State} {n : Slot} {p : Protection} (mark : (s.sec n).mark = .held) (deep : p.deep) :
    s.tellSearch n p = s.post .frozenHold n.val := by
  unfold State.tellSearch
  rw [mark]
  exact if_pos deep

/-- The search takes no notice of a section that it neither probes nor awaits; a HELD one is posted. -/
theorem State.tellSearch_of_other {s : State} {n : Slot} {p : Protection}
    (quiet : ¬ (p.deep ∧ (s.sec n).mark = .probe ∧ (s.search.state = .settling ∨ s.search.state = .observing)))
    (free : ¬ ((s.sec n).mark = .none ∧ s.search.state = .suspended ∧ n ∈ s.search.wait)) :
    (s.tellSearch n p).search = s.search ∧ ∀ m, (s.tellSearch n p).sec m = s.sec m := by
  unfold State.tellSearch
  cases mark : (s.sec n).mark with
  | probe =>
    have other : ¬ ((p = .defend ∨ p = .tripped) ∧ (s.search.state = .settling ∨ s.search.state = .observing)) :=
      fun h => quiet ⟨h.1, mark, h.2⟩
    dsimp only
    rw [if_neg other]
    exact ⟨rfl, fun _ => rfl⟩
  | held =>
    dsimp only
    split <;> exact ⟨rfl, fun _ => rfl⟩
  | none =>
    dsimp only
    rw [if_neg fun h => free ⟨mark, h⟩]
    exact ⟨rfl, fun _ => rfl⟩

theorem State.preempt_of_last {s : State} (last : 3 ≤ s.search.preemptions) : s.preempt = s.endSearch .preempted :=
  if_neg (Nat.not_lt.mpr last)

/-- A pre-emption that suspends the search: its sections are released and awaited (R146). -/
theorem State.preempt_suspends {s : State} (again : s.search.preemptions < 3) {p : SearchParams}
    (params : s.search.params = some p) :
    s.preempt.search =
        { s.search with
          state := .suspended, preemptions := s.search.preemptions + 1, window := .empty,
          wait := s.search.isolated, isolated := [], deadline := none,
          phaseTimer := if p.rest = 0 then none else some (s.tenths + 10 * p.rest) } ∧
      OpenPosted s s.preempt s.search.isolated ∧
      ∀ n, (s.preempt.sec n).mark = if n ∈ s.search.isolated then .none else (s.sec n).mark := by
  have timer : s.restTimer = if p.rest = 0 then none else some (s.tenths + 10 * p.rest) := by
    rw [State.restTimer, params]
    rfl
  have released : s.preempt = s.release.modSearch fun c =>
      { c with
        state := .suspended, preemptions := c.preemptions + 1, window := .empty, wait := s.search.isolated,
        phaseTimer := s.restTimer, deadline := none } := if_pos again
  rw [released]
  refine ⟨?_, openPosted_release s, s.release_mark⟩
  rw [State.modSearch, timer, State.release_search]

/-! ### The change as a whole -/

/-- A change of protection state before the search is told. -/
def State.protected (s : State) (n : Slot) (p : Protection) : State := State.postEntry (s.setProtection n p) n p

theorem State.changeProtection_told (s : State) (n : Slot) (p : Protection) :
    s.changeProtection n p = (s.protected n p).tellSearch n p := rfl

theorem State.protected_sec (s : State) (n : Slot) (p : Protection) (m : Slot) :
    (s.protected n p).sec m = if m = n then { s.sec n with protection := p } else s.sec m := by
  rw [State.protected, State.postEntry_sec, State.setProtection_sec]

theorem State.protected_search (s : State) (n : Slot) (p : Protection) : (s.protected n p).search = s.search := by
  rw [State.protected, State.postEntry_search]
  simp [State.setProtection]

theorem State.protected_loops (s : State) (n : Slot) (p : Protection) : (s.protected n p).loops = s.loops := by
  rw [State.protected, State.postEntry_loops]
  simp [State.setProtection]

theorem State.protected_tenths (s : State) (n : Slot) (p : Protection) : (s.protected n p).tenths = s.tenths := by
  rw [State.protected, State.tenths, State.postEntry_time]
  simp [State.setProtection, State.tenths]

/-- The cause of an entry into a protection state is posted (R62). -/
theorem State.mem_protected (s : State) (n : Slot) (p : Protection) :
    (∀ c ∈ s.attention, c ∈ (s.protected n p).attention) ∧
      (p = .watch → { kind := .watch, subject := n.val } ∈ (s.protected n p).attention) ∧
      (p = .defend → { kind := .defend, subject := n.val } ∈ (s.protected n p).attention) ∧
      (p = .tripped → { kind := .trip, subject := n.val } ∈ (s.protected n p).attention) := by
  have before : (s.setProtection n p).attention = s.attention := by simp [State.setProtection]
  unfold State.protected State.postEntry
  cases p <;> simp [State.mem_post, before] <;> exact fun c member => .inl member

/-- No answer of the search removes a cause. -/
theorem searchStable_cause (c : Cause) : SearchStable fun s : State => c ∈ s.attention where
  mark s m n h := by
    show c ∈ (s.setMark m n).attention
    simpa using h
  context _ _ h := h
  post s k i _ h := (s.mem_post k i c).mpr (.inl h)
  window _ _ _ _ _ h := h

theorem SearchStable.tellSearch {I : State → Prop} (stable : SearchStable I) (s : State) (n : Slot) (p : Protection)
    (h : I s) : I (s.tellSearch n p) := by
  unfold State.tellSearch
  cases (s.sec n).mark <;> dsimp only <;> split
  · exact stable.judgeSuspended s h
  · exact h
  · exact stable.preempt s h
  · exact h
  · exact stable.post s .frozenHold n.val n.isLt h
  · exact h

end Sys2Proof.Machine
end

section
/-! PROOF. The regime after an evaluation (R77 to R79). -/

namespace Sys2Proof.Machine

open Sys2Proof

/-! ### The copy of the stored set into ACTIVE (R79) -/

theorem State.copyActive_sec (s : State) (l : LoopId) (g : Regime) (n m : Slot) :
    (s.copyActive l g n).sec m =
      if m = n ∧ (s.sec m).slot.inService = true ∧ (s.sec m).config.loopOf = l then
        { s.sec m with active := (s.sec m).config.stored g }
      else s.sec m := by
  unfold State.copyActive
  by_cases serves : (s.sec n).slot.inService = true ∧ (s.sec n).config.loopOf = l
  · rw [if_pos serves, State.restage_sec, State.modSec_sec_eq]
    by_cases same : m = n
    · rw [if_pos same, same, if_pos ⟨rfl, serves⟩]
    · rw [if_neg same, if_neg fun h => same h.1]
  · rw [if_neg serves, if_neg]
    rintro ⟨rfl, h⟩
    exact serves h

theorem foldl_copyActive_sec (s : State) (l : LoopId) (g : Regime) (m : Slot) :
    (allSlots.foldl (fun s n => s.copyActive l g n) s).sec m =
      if (s.sec m).slot.inService = true ∧ (s.sec m).config.loopOf = l then
        { s.sec m with active := (s.sec m).config.stored g }
      else s.sec m := by
  have copied := foldl_pointwise (fun s m => s.sec m) (fun s n => s.copyActive l g n)
    (fun s i j other => by
      rw [State.copyActive_sec, if_neg fun h => other h.1])
    (fun _ => True) (fun _ _ _ => trivial)
    (fun _ r =>
      if r.slot.inService = true ∧ r.config.loopOf = l then { r with active := r.config.stored g } else r)
    (fun s i _ => by
      rw [State.copyActive_sec]
      simp only [true_and])
    allSlots nodup_allSlots s trivial m
  rw [if_pos (mem_allSlots m)] at copied
  exact copied

theorem State.changeRegime_sec (s : State) (l : LoopId) (g : Regime) (m : Slot) :
    (s.changeRegime l g).sec m =
      if (s.sec m).slot.inService = true ∧ (s.sec m).config.loopOf = l then
        { s.sec m with active := (s.sec m).config.stored g }
      else s.sec m := by
  unfold State.changeRegime
  dsimp only
  rw [State.decidePump_sec, State.post_sec, foldl_copyActive_sec]
  rfl

theorem State.changeRegime_attention (s : State) (l : LoopId) (g : Regime) :
    (s.changeRegime l g).attention = insertCause { kind := .regime, subject := l.val } s.attention := by
  have copies := foldl_keeps State.attention (fun s n => s.copyActive l g n) (fun s n => s.copyActive_attention l g n)
    allSlots (s.modLoop l fun r => { r with regime := g, regimeEntry := s.partTime })
  unfold State.changeRegime
  dsimp only
  rw [State.decidePump_attention, State.post]
  dsimp only
  rw [copies]
  rfl

theorem State.decidePump_stagedDuty {s : State} {l : LoopId} (isSet : (s.loopRec l).isSet = true) :
    ((s.decidePump l).pump l).stagedDuty = (s.decidePump l).pumpDuty l := by
  rw [State.decidePump_eq isSet, State.modPump_pump, if_pos rfl]
  rfl

theorem State.changeRegime_stagedDuty {s : State} {l : LoopId} (isSet : (s.loopRec l).isSet = true) (g : Regime) :
    ((s.changeRegime l g).pump l).stagedDuty = (s.changeRegime l g).pumpDuty l := by
  refine State.decidePump_stagedDuty ?_
  rw [State.post_loopRec, foldl_keeps (fun s : State => s.loopRec l) _ fun s n => s.copyActive_loopRec l g n l,
    State.modLoop_loopRec_self]
  exact isSet

/-! ### The decision (R78) -/

/-- The regime decided for a loop from the coldest air of its sections. -/
def State.decidedRegime (s : State) (l : LoopId) : Regime :=
  match lowest (s.memberAir l) with
  | none => (s.loopRec l).regime
  | some a => decideRegime (s.loopRec l) a s.partTime

theorem State.decideLoopRegime_formed (s : State) (l : LoopId) :
    (s.formColdest l).decideLoopRegime l =
      if s.decidedRegime l = (s.loopRec l).regime then s.formColdest l
      else (s.formColdest l).changeRegime l (s.decidedRegime l) := by
  have record : (s.formColdest l).loopRec l = { s.loopRec l with coldest := lowest (s.memberAir l) } := by
    rw [State.formColdest, State.modLoop_loopRec_self]
  unfold State.decideLoopRegime State.decidedRegime
  rw [record]
  cases lowest (s.memberAir l) with
  | none => exact (if_pos rfl).symm
  | some a => rfl

/-- What the regime's decision leaves in the loop's record. -/
theorem State.decideLoopRegime_loopRec (s : State) (l k : LoopId) :
    let g := s.decidedRegime l
    let r := s.loopRec l
    ((s.formColdest l).decideLoopRegime l).loopRec k =
      if k = l then
        { r with
          coldest := lowest (s.memberAir l), regime := g,
          regimeEntry := if g = r.regime then r.regimeEntry else s.partTime }
      else s.loopRec k := by
  intro g r
  have formed : (s.formColdest l).loopRec k =
      if k = l then { r with coldest := lowest (s.memberAir l) } else s.loopRec k := by
    rw [State.formColdest, State.modLoop_loopRec]
    simp only [eq_comm, r]
  rw [State.decideLoopRegime_formed]
  by_cases stays : g = r.regime
  · rw [if_pos stays, if_pos stays, formed]
    split
    · rw [stays]
    · rfl
  · rw [if_neg stays, if_neg stays, State.changeRegime_loopRec_eq, formed]
    by_cases same : k = l
    · rw [if_pos same, if_pos same.symm, if_pos same]
      rfl
    · rw [if_neg same, if_neg (Ne.symm same), if_neg same]

theorem State.decideLoopRegime_active (s : State) (l : LoopId) (m : Slot) :
    let g := s.decidedRegime l
    (((s.formColdest l).decideLoopRegime l).sec m).active =
      if g ≠ (s.loopRec l).regime ∧ (s.sec m).slot.inService = true ∧ (s.sec m).config.loopOf = l then
        (s.sec m).config.stored g
      else (s.sec m).active := by
  intro g
  rw [State.decideLoopRegime_formed]
  by_cases stays : g = (s.loopRec l).regime
  · rw [if_pos stays, if_neg fun h => h.1 stays]
    rfl
  · rw [if_neg stays, State.changeRegime_sec]
    simp only [ne_eq, stays, not_false_eq_true, true_and]
    show (if (s.sec m).slot.inService = true ∧ (s.sec m).config.loopOf = l then _ else s.sec m).active = _
    split <;> rfl

/-- A change of regime is posted and the pump decided again (R79). -/
theorem State.decideLoopRegime_changes {s : State} {l : LoopId} (isSet : (s.loopRec l).isSet = true)
    (changes : s.decidedRegime l ≠ (s.loopRec l).regime) :
    let t := (s.formColdest l).decideLoopRegime l
    { kind := .regime, subject := l.val } ∈ t.attention ∧ (t.pump l).stagedDuty = t.pumpDuty l := by
  intro t
  have changed : t = (s.formColdest l).changeRegime l (s.decidedRegime l) :=
    (s.decideLoopRegime_formed l).trans (if_neg changes)
  rw [changed]
  refine ⟨?_, State.changeRegime_stagedDuty ?_ _⟩
  · rw [State.changeRegime_attention, mem_insertCause]
    exact .inr rfl
  · rw [State.formColdest, State.modLoop_loopRec_self]
    exact isSet

/-- Past the search the regime's decision changes nothing that the statements about the search read. -/
theorem State.decideLoopRegime_agrees (s : State) (l : LoopId) :
    SearchAgrees s ((s.formColdest l).decideLoopRegime l) where
  time := by simp
  search := by simp
  mark n := by
    rw [State.decideLoopRegime_keeps (·.mark) (fun _ _ => rfl)]
    rfl
  queue := by simp
  causes c member := by
    rw [State.decideLoopRegime_formed]
    split
    · exact member
    · rw [State.changeRegime_attention, mem_insertCause]
      exact .inl member
  leakTimer k := by
    rw [State.decideLoopRegime_loopRec]
    split <;> simp_all
  leakLength k := by
    rw [State.decideLoopRegime_loopRec]
    split <;> simp_all
  leakWindow k := by
    rw [State.decideLoopRegime_loopRec]
    split <;> simp_all

end Sys2Proof.Machine
end

section
/-! PROOF. The take of an evaluation as a whole (R30 to R32, R50 to R62, R77 to R79). -/

namespace Sys2Proof.Machine

open Sys2Proof

/-! ### The decision and the search -/

/-- A state of the take after a section's decision and before the search is told: of what the search reads, only
the section's protection state has changed. -/
structure Decided (s v : State) (n : Slot) (p : Protection) : Prop where
  mark : ∀ m, (v.sec m).mark = (s.sec m).mark
  config : ∀ m, (v.sec m).config = (s.sec m).config
  valve : ∀ m, (v.sec m).valve = (s.sec m).valve
  protection : ∀ m, (v.sec m).protection = if m = n then p else (s.sec m).protection
  search : v.search = s.search
  loops : v.loops = s.loops

/-- The part with another protection state of one section. -/
def State.moved (s : State) (n : Slot) (p : Protection) : State :=
  { s with sections := tabSet s.sections n { s.sec n with protection := p } }

theorem State.moved_sec (s : State) (n : Slot) (p : Protection) (m : Slot) :
    (s.moved n p).sec m = if m = n then { s.sec n with protection := p } else s.sec m := by
  simp only [State.moved, State.sec, tabGet_tabSet, eq_comm]

namespace Decided

variable {s v : State} {n : Slot} {p : Protection} (decided : Decided s v n p)
include decided

theorem loop (l : LoopId) : (v.loopRec l).config = (s.loopRec l).config := by
  rw [State.loopRec, decided.loops]
  rfl

theorem moved : SameUnits (s.moved n p) v where
  mark m := by rw [decided.mark, State.moved_sec]; split <;> simp_all
  protection m := by rw [decided.protection, State.moved_sec]; split <;> simp_all
  config m := by rw [decided.config, State.moved_sec]; split <;> simp_all
  loop := decided.loop

theorem moved_valve (m : Slot) : (v.sec m).valve = ((s.moved n p).sec m).valve := by
  rw [decided.valve, State.moved_sec]
  split <;> simp_all

/-- What the search makes of the decision: it takes no notice, it is pre-empted, or it judges its resumption. -/
theorem told (params : Option SearchParams) (is : s.search.params = params) :
    let t := v.tellSearch n p
    let c := s.search
    let preempts := p.deep ∧ (s.sec n).mark = .probe ∧ (c.state = .settling ∨ c.state = .observing)
    let judged := (s.sec n).mark = .none ∧ c.state = .suspended ∧ n ∈ c.wait
    (¬ preempts → ¬ judged → t.search = c ∧ ∀ m, (t.sec m).mark = (s.sec m).mark) ∧
      (∀ prm, params = some prm →
        (preempts → c.preemptions < 3 →
          t.search =
            { c with
              state := .suspended, preemptions := c.preemptions + 1, window := .empty,
              wait := c.isolated, isolated := [], deadline := none,
              phaseTimer := if prm.rest = 0 then none else some (v.tenths + 10 * prm.rest) } ∧
          OpenPosted s t c.isolated ∧ ∀ m, (t.sec m).mark = if m ∈ c.isolated then .none else (s.sec m).mark) ∧
        (judged → Resumption (s.moved n p) t prm v.tenths)) ∧
      (preempts → 3 ≤ c.preemptions → SearchEnded s t .preempted) := by
  intro t c preempts judged
  have search : c = v.search := decided.search.symm
  have preempted (h : preempts) : t = v.preempt :=
    State.tellSearch_of_probe ((decided.mark n).trans h.2.1) h.1 (search ▸ h.2.2)
  refine ⟨fun quiet free => ?_, fun prm some => ⟨fun now again => ?_, fun now => ?_⟩, fun now last => ?_⟩
  · obtain ⟨same, sec⟩ := State.tellSearch_of_other (s := v) (n := n) (p := p)
      (by rw [decided.mark, ← search]; exact quiet) (by rw [decided.mark, ← search]; exact free)
    exact ⟨same.trans search.symm, fun m => by rw [sec, decided.mark]⟩
  · obtain ⟨suspended, opened, marks⟩ := State.preempt_suspends (s := v) (search ▸ again) (p := prm)
      (decided.search ▸ is.trans some)
    rw [preempted now, search]
    refine ⟨suspended, fun m member node => opened m member (by rw [decided.config]; exact node), fun m => ?_⟩
    rw [marks, decided.mark]
  · obtain ⟨mark, state, member⟩ := now
    have judges : t = v.judgeSuspended :=
      State.tellSearch_of_awaited p ((decided.mark n).trans mark) (search ▸ state) (search ▸ member)
    rw [judges]
    exact resumption_judgeSuspended decided.moved decided.moved_valve decided.search (is.trans some)
  · rw [preempted now, State.preempt_of_last (search ▸ last)]
    exact searchEnded_congr decided.search decided.mark decided.config decided.loop (searchEnded_endSearch v .preempted)

end Decided

/-! ### The take -/

section
variable (s : State) (n : Slot)

/-- The part with the record of an evaluation written. -/
def State.evaluated : State := s.modSec n fun r => r.evaluated (s.evaluation n) s.tenths

/-- The protection state decided from an evaluation. -/
def State.decision : Protection :=
  decideProtection (s.sec n).protection (s.sec n).config (s.evaluation n).margin
    (integrate (s.sec n).integrator (s.evaluation n).margin (s.sec n).active.guard (s.evaluation n).elapsed)

/-- The part with an evaluation's decision made and told. -/
def State.evalDecided : State := (s.evaluated n).decideSection n (s.evaluation n).margin

theorem State.evaluate_eq :
    s.evaluate n =
      if ((s.evalDecided n).loopRec (s.sec n).config.loopOf).isSet then
        ((s.evalDecided n).formColdest (s.sec n).config.loopOf).decideLoopRegime (s.sec n).config.loopOf
      else s.evalDecided n := rfl

theorem State.evaluated_sec (m : Slot) :
    (s.evaluated n).sec m = if m = n then (s.sec n).evaluated (s.evaluation n) s.tenths else s.sec m :=
  State.modSec_sec_eq s n _ m

theorem State.evalDecided_eq :
    s.evalDecided n =
      if s.decision n = (s.sec n).protection then s.evaluated n
      else ((s.evaluated n).protected n (s.decision n)).tellSearch n (s.decision n) := by
  have record : (s.evaluated n).sec n = (s.sec n).evaluated (s.evaluation n) s.tenths := by
    rw [State.evaluated_sec, if_pos rfl]
  unfold State.evalDecided State.decideSection
  rw [record]
  rfl

theorem State.evaluated_protected_sec (p : Protection) (m : Slot) :
    ((s.evaluated n).protected n p).sec m =
      if m = n then { (s.sec n).evaluated (s.evaluation n) s.tenths with protection := p } else s.sec m := by
  rw [State.protected_sec, State.evaluated_sec, State.evaluated_sec, if_pos rfl]
  split <;> rfl

theorem State.evaluated_decided (p : Protection) : Decided s ((s.evaluated n).protected n p) n p where
  mark m := by rw [State.evaluated_protected_sec]; split <;> simp_all [SectionRecord.evaluated]
  config m := by rw [State.evaluated_protected_sec]; split <;> simp_all [SectionRecord.evaluated]
  valve m := by rw [State.evaluated_protected_sec]; split <;> simp_all [SectionRecord.evaluated]
  protection m := by rw [State.evaluated_protected_sec]; split <;> rfl
  search := (s.evaluated n).protected_search n p
  loops := (s.evaluated n).protected_loops n p

/-- The regime's decision leaves what the statements about the search read. -/
theorem State.evaluate_agrees : SearchAgrees (s.evalDecided n) (s.evaluate n) := by
  rw [State.evaluate_eq]
  split
  · exact State.decideLoopRegime_agrees _ _
  · exact ⟨rfl, rfl, fun _ => rfl, rfl, fun _ member => member, fun _ => rfl, fun _ => rfl, fun _ => rfl⟩

/-- The other sections, for every reading that looks at none of mark, refresh timer and ACTIVE. -/
theorem State.evaluate_others {β : Type} (g : SectionRecord → β) (blind : MarkBlind g) (active : ActiveBlind g) {m : Slot}
    (other : m ≠ n) : g ((s.evaluate n).sec m) = g (s.sec m) := by
  have decided : g ((s.evalDecided n).sec m) = g (s.sec m) := by
    rw [State.evalDecided_eq]
    split
    · rw [State.evaluated_sec, if_neg other]
    · rw [State.tellSearch_keeps g blind, State.protected_sec, if_neg other, State.evaluated_sec, if_neg other]
  rw [State.evaluate_eq]
  split
  · rw [State.decideLoopRegime_keeps g active, State.formColdest_sec]
    exact decided
  · exact decided

end

/-! ### The loop's record up to the regime -/

/-- What the regime's decision reads of a loop's record. -/
def LoopRecord.regimeKey (r : LoopRecord) : Bool × LoopConfig × Regime × PartTime :=
  (r.isSet, r.config, r.regime, r.regimeEntry)

theorem searchStable_regimeKey (l : LoopId) (key : Bool × LoopConfig × Regime × PartTime) :
    SearchStable fun s : State => (s.loopRec l).regimeKey = key where
  mark s m n h := by
    rw [State.setMark_loopRec]
    exact h
  context _ _ h := h
  post _ _ _ _ h := h
  window s k _ _ _ h := by
    rw [State.modLoop_loopRec]
    split
    · next same =>
      subst same
      exact h
    · exact h

theorem State.evalDecided_regimeKey (s : State) (n : Slot) (l : LoopId) :
    ((s.evalDecided n).loopRec l).regimeKey = (s.loopRec l).regimeKey := by
  rw [State.evalDecided_eq]
  split
  · rfl
  · refine (searchStable_regimeKey l (s.loopRec l).regimeKey).tellSearch _ n _ ?_
    rw [State.loopRec, State.protected_loops]
    rfl

end Sys2Proof.Machine
end

section
/-! PROOF. The take of an evaluation assembled: the search, the causes, the coldest air and the regime. -/

namespace Sys2Proof.Machine

open Sys2Proof

section
variable (s : State) (n : Slot)

/-- A reading of a section that looks neither at what a take writes nor at its mark and its refresh timer. -/
theorem State.evalDecided_keeps {β : Type} (g : SectionRecord → β) (blind : MarkBlind g)
    (unwritten : ∀ r e now p, g { SectionRecord.evaluated r e now with protection := p } = g r) (m : Slot) :
    g ((s.evalDecided n).sec m) = g (s.sec m) := by
  have written (p : Protection) : g (((s.evaluated n).protected n p).sec m) = g (s.sec m) := by
    rw [State.evaluated_protected_sec]
    split
    · next same => rw [unwritten, same]
    · rfl
  rw [State.evalDecided_eq]
  split
  · rw [State.evaluated_sec]
    split
    · next same => exact (unwritten (s.sec n) (s.evaluation n) s.tenths (s.sec n).protection).trans (by rw [same])
    · rfl
  · rw [State.tellSearch_keeps g blind, written]

theorem State.evalDecided_partTime : (s.evalDecided n).partTime = s.partTime := by
  simp [State.evalDecided, State.evaluated, State.partTime, State.tenths]

/-- What the search makes of a take. -/
theorem State.evalDecided_search :
    let r := s.sec n
    let p := s.decision n
    let t := s.evalDecided n
    let c := s.search
    let preempts := p ≠ r.protection ∧ p.deep ∧ r.mark = .probe ∧ (c.state = .settling ∨ c.state = .observing)
    let judged := p ≠ r.protection ∧ r.mark = .none ∧ c.state = .suspended ∧ n ∈ c.wait
    (¬ preempts → ¬ judged → t.search = c ∧ ∀ m, (t.sec m).mark = (s.sec m).mark) ∧
      (∀ prm, c.params = some prm →
        (preempts → c.preemptions < 3 →
          t.search =
            { c with
              state := .suspended, preemptions := c.preemptions + 1, window := .empty,
              wait := c.isolated, isolated := [], deadline := none,
              phaseTimer := if prm.rest = 0 then none else some (s.tenths + 10 * prm.rest) } ∧
          OpenPosted s t c.isolated ∧ ∀ m, (t.sec m).mark = if m ∈ c.isolated then .none else (s.sec m).mark) ∧
        (judged → Resumption (s.moved n p) t prm s.tenths)) ∧
      (preempts → 3 ≤ c.preemptions → SearchEnded s t .preempted) := by
  intro r p t c preempts judged
  have whole : t = if p = r.protection then s.evaluated n
      else ((s.evaluated n).protected n p).tellSearch n p := s.evalDecided_eq n
  by_cases stays : p = r.protection
  · rw [if_pos stays] at whole
    refine ⟨fun _ _ => ⟨by rw [whole]; rfl, fun m => ?_⟩, fun prm _ => ⟨fun now => absurd stays now.1,
      fun now => absurd stays now.1⟩, fun now => absurd stays now.1⟩
    rw [whole, State.evaluated_sec]
    split
    · next same => rw [same]; rfl
    · rfl
  · rw [if_neg stays] at whole
    obtain ⟨quiet, told, last⟩ := (s.evaluated_decided n p).told c.params rfl
    have tenths : ((s.evaluated n).protected n p).tenths = s.tenths := State.protected_tenths _ n p
    rw [← whole, tenths] at told
    rw [← whole] at quiet last
    refine ⟨fun no free => quiet (fun h => no ⟨stays, h⟩) (fun h => free ⟨stays, h⟩), fun prm is =>
      ⟨fun now => (told prm is).1 now.2, fun now => (told prm is).2 now.2⟩, fun now => last now.2⟩

/-- The causes that a change of protection state posts (R61, R62). -/
theorem State.mem_evalDecided (changes : s.decision n ≠ (s.sec n).protection) :
    let p := s.decision n
    let causes := (s.evalDecided n).attention
    (p = .watch → { kind := .watch, subject := n.val } ∈ causes) ∧
      (p = .defend → { kind := .defend, subject := n.val } ∈ causes) ∧
      (p = .tripped → { kind := .trip, subject := n.val } ∈ causes) ∧
      (p = .defend ∨ p = .tripped → (s.sec n).mark = .held → { kind := .frozenHold, subject := n.val } ∈ causes) := by
  intro p causes
  have whole : s.evalDecided n = ((s.evaluated n).protected n p).tellSearch n p :=
    (s.evalDecided_eq n).trans (if_neg changes)
  have keeps (c : Cause) (posted : c ∈ ((s.evaluated n).protected n p).attention) : c ∈ causes := by
    show c ∈ (s.evalDecided n).attention
    rw [whole]
    exact (searchStable_cause c).tellSearch _ n p posted
  obtain ⟨-, watch, defend, trip⟩ := (s.evaluated n).mem_protected n p
  refine ⟨fun is => keeps _ (watch is), fun is => keeps _ (defend is), fun is => keeps _ (trip is), fun deep held => ?_⟩
  show _ ∈ (s.evalDecided n).attention
  rw [whole, State.tellSearch_of_held (((s.evaluated_decided n p).mark n).trans held) deep, State.mem_post]
  exact .inr rfl

end

/-! ### The coldest air and the regime -/

theorem decideRegime_of_key {r r' : LoopRecord} (key : r'.regimeKey = r.regimeKey) (a : Int) (now : PartTime) :
    decideRegime r' a now = decideRegime r a now := by
  obtain ⟨-, config, regime, entry⟩ := by simpa [LoopRecord.regimeKey] using key
  simp only [decideRegime, config, regime, entry]

theorem decideRegime_of_mild {r : LoopRecord} (mild : r.regime = .mild) (a : Int) (now : PartTime) :
    decideRegime r a now = if a < r.config.frostEntry then .frost else .mild := by
  unfold decideRegime
  rw [mild]

theorem decideRegime_of_frost {r : LoopRecord} (frost : r.regime = .frost) (a : Int) (now : PartTime) :
    decideRegime r a now =
      if r.config.frostExit < a ∧ 10 * r.config.dwell ≤ (now - r.regimeEntry).toNat then .mild else .frost := by
  unfold decideRegime
  rw [frost]
  rfl

/-- The coldest air is formed from records that the regime's decision leaves. -/
theorem State.decideLoopRegime_memberAir (s : State) (l k : LoopId) :
    ((s.formColdest l).decideLoopRegime l).memberAir k = s.memberAir k := by
  have reads (m : Slot) := State.decideLoopRegime_keeps (fun r => (r.slot, r.config.loopOf, r.lastEval)) (fun _ _ => rfl)
    (s.formColdest l) l m
  unfold State.memberAir
  refine List.filterMap_congr fun m _ => ?_
  obtain ⟨slot, loop, record⟩ := by simpa using reads m
  rw [slot, loop, record]

/-- The regime after a take, with what follows a change of it (R77 to R79). -/
theorem State.evaluate_regime (s : State) (n : Slot) :
    let l := (s.sec n).config.loopOf
    let lp := s.loopRec l
    let t := s.evaluate n
    let regime := (t.loopRec l).regime
    let coldest := (t.loopRec l).coldest
    (lp.isSet = true →
      coldest = lowest (t.memberAir l) ∧
      (coldest = none → regime = lp.regime) ∧
      (∀ a, coldest = some a → regime = decideRegime lp a s.partTime) ∧
      (regime ≠ lp.regime →
        (t.loopRec l).regimeEntry = s.partTime ∧ { kind := .regime, subject := l.val } ∈ t.attention ∧
          (t.pump l).stagedDuty = t.pumpDuty l)) ∧
    (lp.isSet = false → regime = lp.regime) ∧
    ∀ m,
      (t.sec m).active =
        if regime ≠ lp.regime ∧ (s.sec m).slot.inService = true ∧ (s.sec m).config.loopOf = l then
          (s.sec m).config.stored regime
        else (s.sec m).active := by
  intro l lp t regime coldest
  have key := s.evalDecided_regimeKey n l
  obtain ⟨isSet, -, before, -⟩ := by simpa [LoopRecord.regimeKey] using key
  have active (m : Slot) := s.evalDecided_keeps n (·.active) (fun _ _ _ => rfl) (fun _ _ _ _ => rfl) m
  have slot (m : Slot) := s.evalDecided_keeps n (·.slot) (fun _ _ _ => rfl) (fun _ _ _ _ => rfl) m
  have config (m : Slot) := s.evalDecided_keeps n (·.config) (fun _ _ _ => rfl) (fun _ _ _ _ => rfl) m
  have now := s.evalDecided_partTime n
  have whole := s.evaluate_eq n
  generalize s.evalDecided n = u at *
  by_cases set : lp.isSet = true
  · have formed : t = (u.formColdest l).decideLoopRegime l := whole.trans (if_pos (isSet.trans set))
    have record : t.loopRec l = _ := formed ▸ u.decideLoopRegime_loopRec l l
    rw [if_pos rfl] at record
    have air : t.memberAir l = u.memberAir l := by rw [formed, State.decideLoopRegime_memberAir]
    have is : regime = u.decidedRegime l := congrArg LoopRecord.regime record
    have lowest_is : coldest = lowest (u.memberAir l) := congrArg LoopRecord.coldest record
    refine ⟨fun _ => ⟨air ▸ lowest_is, fun none => ?_, fun a some => ?_, fun changes => ?_⟩,
      fun unset => absurd (set.symm.trans unset) Bool.true_eq_false.mp, fun m => ?_⟩
    · rw [is, State.decidedRegime, ← lowest_is, none]
      exact before
    · rw [is, State.decidedRegime, ← lowest_is, some]
      show decideRegime (u.loopRec l) a u.partTime = _
      rw [decideRegime_of_key key, now]
    · have changed : u.decidedRegime l ≠ (u.loopRec l).regime := by rwa [before, ← is]
      have entry : (t.loopRec l).regimeEntry = u.partTime := by
        rw [record]
        exact if_neg changed
      rw [entry, now, formed]
      exact ⟨rfl, State.decideLoopRegime_changes (isSet.trans set) changed⟩
    · rw [formed, State.decideLoopRegime_active, ← is, before, active, slot, config]
  · have same : t = u := whole.trans (if_neg (isSet ▸ set))
    have stays : regime = lp.regime := by
      show (t.loopRec l).regime = _
      rw [same]
      exact before
    refine ⟨fun is => absurd is set, fun _ => stays, fun m => ?_⟩
    rw [if_neg fun h => h.1 stays, same]
    exact active m

end Sys2Proof.Machine
end

section
/-! PROOF. The statement of the take. -/

namespace Sys2Proof.Machine

open Sys2Proof

/-- Settles O25: the record by its stages, the decision by what the search is told, the regime by the coldest air. -/
theorem evaluationsAreTakenWhole : Obligations.EvaluationsAreTakenWhole := by
  refine ⟨lowest_eq_some_iff, fun s dt n rest awake front => ?_⟩
  intro tenths r l lp e i airs lastAirs excess lastFlow weights declared p deep preempts judged
  have run := exec_evaluationTake s dt n rest awake front
  obtain ⟨quiet, told, last⟩ := State.evalDecided_search { s with time := s.time + dt, evalQueue := rest } n
  have causes := State.mem_evalDecided { s with time := s.time + dt, evalQueue := rest } n
  obtain ⟨set, unset, active⟩ := State.evaluate_regime { s with time := s.time + dt, evalQueue := rest } n
  have agrees := State.evaluate_agrees { s with time := s.time + dt, evalQueue := rest } n
  have outlet {out : OutletUsed} :=
    State.evaluation_outlet { s with time := s.time + dt, evalQueue := rest } n (out := out)
  refine ⟨State.evaluation_tAir _ n, fun v live => ?_, fun v stale => ⟨fun fresh => ?_, fun aged => ?_⟩, fun awaiting => ?_,
    (State.evaluation_flow _ n).1, (State.evaluation_flow _ n).2, (State.evaluation_freeze _ n).2,
    State.evaluation_share _ n, rfl, rfl, rfl, (State.evaluation_freeze _ n).1, rfl, rfl,
    (elapsedSince_eq r.lastEval _).1, (elapsedSince_eq r.lastEval _).2, ?_⟩
  · exact outlet (outletUsed_of_live live _ _ _ _)
  · exact outlet ((outletUsed_of_last stale _ _ _ _).trans (if_pos fresh))
  · exact outlet ((outletUsed_of_last stale _ _ _ _).trans (if_neg (Nat.pos_iff_ne_zero.mp aged)))
  · exact outlet (outletUsed_of_awaiting awaiting _ _ _ _)
  have reads {β : Type} (g : SectionRecord → β) (blind : MarkBlind g) (unlimited : ActiveBlind g) :=
    State.evaluate_reads g blind unlimited { s with time := s.time + dt, evalQueue := rest } n
  have others {m : Slot} (other : m ≠ n) := State.evaluate_others { s with time := s.time + dt, evalQueue := rest } n
    (fun r => (r.lastEval, r.integrator, r.protection, r.evalTimer)) (fun _ _ _ => rfl) (fun _ _ => rfl) other
  refine ⟨_, run, ?_, reads (·.lastEval) (fun _ _ _ => rfl) (fun _ _ => rfl),
    reads (·.integrator) (fun _ _ _ => rfl) (fun _ _ => rfl), reads (·.evalTimer) (fun _ _ _ => rfl) (fun _ _ => rfl),
    reads (·.protection) (fun _ _ _ => rfl) (fun _ _ => rfl), fun changes => ?_, fun m other => ?_, fun no free => ?_,
    fun prm is => ⟨fun now again => ?_, fun now => ?_⟩, fun now many => agrees.searchEnded (last now many), fun isSet => ?_,
    unset, active⟩
  · exact State.evaluate_evalQueue _ n
  · obtain ⟨watch, defend, trip, frozen⟩ := causes changes
    exact ⟨fun is => agrees.causes _ (watch is), fun is => agrees.causes _ (defend is),
      fun is => agrees.causes _ (trip is), fun is held => agrees.causes _ (frozen is held)⟩
  · obtain ⟨record, rest⟩ := Prod.mk.inj (others other)
    obtain ⟨integral, rest⟩ := Prod.mk.inj rest
    exact ⟨record, integral, Prod.mk.inj rest⟩
  · obtain ⟨search, marks⟩ := quiet no free
    exact ⟨agrees.search.trans search, fun m => (agrees.mark m).trans (marks m)⟩
  · obtain ⟨search, opened, marks⟩ := (told prm is).1 now again
    exact ⟨agrees.search.trans search, agrees.openPosted opened, fun m => (agrees.mark m).trans (marks m)⟩
  · exact agrees.resumption ((told prm is).2 now)
  · obtain ⟨coldest, stays, decided, changes⟩ := set isSet
    exact ⟨coldest, coldest, stays, fun a is mild => (decided a is).trans (decideRegime_of_mild mild a _),
      fun a is frost => (decided a is).trans (decideRegime_of_frost frost a _), changes⟩

end Sys2Proof.Machine
end

section
/-! PROOF. What the retirement of a candidate member leaves of the candidate list and of the suspect range (R152). -/

namespace Sys2Proof.Machine

open Sys2Proof

/-! ### Units without a member -/

theorem SearchUnit.without_of_not_mem {u : SearchUnit} {n : Slot} (outside : n ∉ u.members) :
    u.without n = some u := by
  obtain ⟨lead, follower⟩ := u
  cases follower <;> simp_all [SearchUnit.without, SearchUnit.members, eq_comm]

theorem SearchUnit.not_mem_without {u v : SearchUnit} {n : Slot} (distinct : u.members.Nodup)
    (left : u.without n = some v) : n ∉ v.members := by
  obtain ⟨lead, follower⟩ := u
  unfold SearchUnit.without at left
  split at left
  · next leads =>
    obtain ⟨f, rfl, rfl⟩ := Option.map_eq_some_iff.mp left
    simp_all [SearchUnit.members]
  · next other =>
    split at left
    · next follows =>
      cases left
      simpa [SearchUnit.members] using Ne.symm other
    · next apart =>
      cases left
      cases follower <;> simp_all [SearchUnit.members, eq_comm]

/-! ### Segments of a list -/

theorem filterMap_eq_self {α : Type} {f : α → Option α} {l : List α} (kept : ∀ a ∈ l, f a = some a) :
    l.filterMap f = l := by
  rw [List.filterMap_congr kept, List.filterMap_some]

/-- A segment of a list, one element taken out, is the segment of the list without it whose bounds beyond it have
moved. -/
theorem filterMap_segment {α : Type} {f : α → Option α} {pre post : List α} {u : α} (gone : f u = none)
    (before : ∀ a ∈ pre, f a = some a) (after : ∀ a ∈ post, f a = some a) (lo hi : Nat) :
    (((pre ++ u :: post).take hi).drop lo).filterMap f =
      ((pre ++ post).take (shiftBound pre.length hi)).drop (shiftBound pre.length lo) := by
  have kept (a b : Nat) (l : List α) (all : ∀ x ∈ l, f x = some x) :
      ((l.take a).drop b).filterMap f = (l.take a).drop b :=
    filterMap_eq_self fun x member => all x (List.mem_of_mem_take (List.mem_of_mem_drop member))
  unfold shiftBound
  by_cases inside : pre.length < hi
  · obtain ⟨h, rfl⟩ := Nat.exists_eq_add_of_lt inside
    have cut : (pre ++ u :: post).take (pre.length + h + 1) = pre ++ u :: post.take h := by
      rw [Nat.add_assoc, List.take_length_add_append, List.take_succ_cons]
    rw [if_pos inside, cut, Nat.add_sub_cancel, List.take_length_add_append]
    by_cases beyond : pre.length < lo
    · obtain ⟨k, rfl⟩ := Nat.exists_eq_add_of_lt beyond
      rw [if_pos beyond, Nat.add_assoc, List.drop_length_add_append, List.drop_succ_cons, kept h k post after,
        ← Nat.add_assoc, Nat.add_sub_cancel, List.drop_length_add_append]
    · have low : lo ≤ pre.length := Nat.le_of_not_lt beyond
      have front := kept pre.length lo pre before
      rw [List.take_length] at front
      rw [if_neg beyond, List.drop_append_of_le_length low, List.drop_append_of_le_length low, List.filterMap_append,
        List.filterMap_cons_none gone, front]
      exact congrArg _ (kept h 0 post after)
  · have low : hi ≤ pre.length := Nat.le_of_not_lt inside
    rw [if_neg inside, List.take_append_of_le_length low, List.take_append_of_le_length low, kept hi lo pre before]
    split
    · next beyond =>
      have short : (pre.take hi).length ≤ lo - 1 := by rw [List.length_take]; omega
      rw [List.drop_eq_nil_of_le short, List.drop_eq_nil_of_le (short.trans (Nat.sub_le lo 1))]
    · rfl

/-- Where every element stays, segments keep their bounds. -/
theorem filterMap_segment_of_isSome {α : Type} {f : α → Option α} {l : List α} (all : ∀ a ∈ l, (f a).isSome = true)
    (lo hi : Nat) : ((l.take hi).drop lo).filterMap f = ((l.filterMap f).take hi).drop lo := by
  have mapped (k : List α) (sub : ∀ a ∈ k, a ∈ l) : k.filterMap f = k.map fun a => (f a).getD a := by
    rw [← List.filterMap_eq_map]
    refine List.filterMap_congr fun a member => ?_
    obtain ⟨b, is⟩ := Option.isSome_iff_exists.mp (all a (sub a member))
    simp [is]
  rw [mapped l fun _ => id, mapped _ fun a member => List.mem_of_mem_take (List.mem_of_mem_drop member), List.map_drop,
    List.map_take]

theorem SearchContext.range_take (c : SearchContext) (k : Nat) :
    c.range.take k = (c.candidates.take (min c.rangeHi (c.rangeLo + k))).drop c.rangeLo := by
  rw [SearchContext.range, List.take_drop, List.take_take, Nat.min_comm]

/-! ### The context without a member -/

/-- A unit holds a section. -/
def SearchContext.lists (c : SearchContext) (n : Slot) : Prop := ∃ u ∈ c.candidates, n ∈ u.members

theorem SearchContext.without_candidates (c : SearchContext) (n : Slot) :
    c.without n =
      { c with
        candidates := c.candidates.filterMap (·.without n), rangeLo := (c.without n).rangeLo
        rangeHi := (c.without n).rangeHi, probed := (c.without n).probed } := by
  unfold SearchContext.without
  split
  · next none =>
    have outside (u : SearchUnit) (member : u ∈ c.candidates) : u.without n = some u :=
      SearchUnit.without_of_not_mem (by simpa using List.findIdx?_eq_none_iff.mp none u member)
    rw [filterMap_eq_self outside]
  · dsimp only
    split <;> rfl

/-- With every section in one unit at most, a list that holds a section splits at the unit that does. -/
theorem split_at_unit {l : List SearchUnit} {n : Slot} (distinct : (l.flatMap SearchUnit.members).Nodup) {i : Nat}
    (found : l.findIdx? (fun u => u.members.contains n) = some i) :
    ∃ pre u post, l = pre ++ u :: post ∧ pre.length = i ∧ (∀ v ∈ pre, n ∉ v.members) ∧
      ∀ v ∈ post, n ∉ v.members := by
  obtain ⟨bound, holds, -⟩ := List.findIdx?_eq_some_iff_getElem.mp found
  have split : l = l.take i ++ l[i] :: l.drop (i + 1) := by
    rw [← List.drop_eq_getElem_cons bound, List.take_append_drop]
  have member : n ∈ l[i].members := by simpa using holds
  rw [split, List.flatMap_append, List.flatMap_cons] at distinct
  obtain ⟨-, rest, apart⟩ := List.nodup_append.mp distinct
  obtain ⟨-, -, behind⟩ := List.nodup_append.mp rest
  refine ⟨_, _, _, split, List.length_take_of_le bound.le, fun v of in_ => ?_, fun v of in_ => ?_⟩
  · exact apart n (List.mem_flatMap.mpr ⟨v, of, in_⟩) n (List.mem_append_left _ member) rfl
  · exact behind n member n (List.mem_flatMap.mpr ⟨v, of, in_⟩) rfl

/-- The suspect range without a retired section keeps the other units, and so do the units under probe. -/
theorem SearchContext.range_without {c : SearchContext} {n : Slot}
    (distinct : (c.candidates.flatMap SearchUnit.members).Nodup) :
    (c.without n).range = c.range.filterMap (·.without n) ∧
      (c.without n).range.take (c.without n).probed = (c.range.take c.probed).filterMap (·.without n) := by
  have kept (list : List SearchUnit) (all : ∀ u ∈ c.candidates, (u.without n).isSome = true)
      (is : list = c.candidates.filterMap (·.without n)) :
      ({ c with candidates := list } : SearchContext).range = c.range.filterMap (·.without n) ∧
        ({ c with candidates := list } : SearchContext).range.take c.probed =
          (c.range.take c.probed).filterMap (·.without n) := by
    rw [SearchContext.range_take, SearchContext.range_take, SearchContext.range, SearchContext.range,
      filterMap_segment_of_isSome all, filterMap_segment_of_isSome all, is]
    exact ⟨rfl, rfl⟩
  cases found : c.candidates.findIdx? fun u => u.members.contains n with
  | none =>
    have outside (u : SearchUnit) (member : u ∈ c.candidates) : u.without n = some u :=
      SearchUnit.without_of_not_mem (by simpa using List.findIdx?_eq_none_iff.mp found u member)
    have same : c.without n = c := by rw [SearchContext.without, found]
    rw [same]
    exact kept c.candidates (fun u member => by rw [outside u member]; rfl) (filterMap_eq_self outside).symm
  | some i =>
    by_cases shorter : (c.candidates.filterMap (·.without n)).length < c.candidates.length
    · obtain ⟨pre, u, post, split, rfl, before, after⟩ := split_at_unit distinct found
      have left v (member : v ∈ pre) := SearchUnit.without_of_not_mem (before v member)
      have right v (member : v ∈ post) := SearchUnit.without_of_not_mem (after v member)
      have gone : u.without n = none := by
        refine Option.not_isSome_iff_eq_none.mp fun stays => absurd shorter (Nat.not_lt_of_le (Nat.le_of_eq ?_))
        refine (List.filterMap_length_eq_length.mpr fun v member => ?_).symm
        rw [split, List.mem_append, List.mem_cons] at member
        rcases member with front | rfl | behind
        · rw [left v front]; rfl
        · exact stays
        · rw [right v behind]; rfl
      have others : c.candidates.filterMap (·.without n) = pre ++ post := by
        rw [split, List.filterMap_append, List.filterMap_cons_none (f := fun v : SearchUnit => v.without n) gone,
          filterMap_eq_self left, filterMap_eq_self right]
      have segment (lo hi : Nat) : ((c.candidates.take hi).drop lo).filterMap (·.without n) =
          ((pre ++ post).take (shiftBound pre.length hi)).drop (shiftBound pre.length lo) := by
        rw [split, filterMap_segment (f := fun v : SearchUnit => v.without n) gone left right]
      have bound : min (shiftBound pre.length c.rangeHi) (shiftBound pre.length c.rangeLo +
          if c.rangeLo ≤ pre.length ∧ pre.length < c.rangeLo + c.probed then c.probed - 1 else c.probed) =
          shiftBound pre.length (min c.rangeHi (c.rangeLo + c.probed)) := by
        unfold shiftBound
        split_ifs <;> omega
      have is : c.without n =
          { c with
            candidates := pre ++ post, rangeLo := shiftBound pre.length c.rangeLo
            rangeHi := shiftBound pre.length c.rangeHi
            probed := if c.rangeLo ≤ pre.length ∧ pre.length < c.rangeLo + c.probed then c.probed - 1
              else c.probed } := by
        rw [← others, SearchContext.without, found]
        exact if_pos shorter
      rw [is, SearchContext.range_take, SearchContext.range_take, SearchContext.range, SearchContext.range, segment,
        segment, bound]
      exact ⟨rfl, rfl⟩
    · have all := List.filterMap_length_eq_length.mp
        (le_antisymm (List.length_filterMap_le _ _) (Nat.le_of_not_lt shorter))
      have is : c.without n = { c with candidates := c.candidates.filterMap (·.without n) } := by
        rw [SearchContext.without, found]
        exact if_neg shorter
      rw [is]
      exact kept _ all rfl

/-- No unit that is left holds the section. -/
theorem SearchContext.not_mem_without {c : SearchContext} {n : Slot}
    (distinct : (c.candidates.flatMap SearchUnit.members).Nodup) {u : SearchUnit}
    (member : u ∈ (c.without n).candidates) : n ∉ u.members := by
  rw [SearchContext.without_candidates] at member
  obtain ⟨v, of, left⟩ := List.mem_filterMap.mp member
  exact SearchUnit.not_mem_without ((List.nodup_flatMap.mp distinct).1 v of) left

end Sys2Proof.Machine
end

section
/-! PROOF. What RETIRE leaves of a section and of the tables that refer to it, whatever its mark (R24 to R26). -/

namespace Sys2Proof.Machine

open Sys2Proof

theorem State.retire_eq (s : State) (n : Slot) :
    s.retire n = ((s.retireRecords n).retireFromSearch n).checkFanDrain n := rfl

theorem State.retire_drains (s : State) (n : Slot) :
    Drain ((s.retireRecords n).retireFromSearch n) n (s.retire n) := State.checkFanDrain_drains _ n

theorem retireRequest_index {s : State} {n : Slot} (service : (s.sec n).slot.inService = true) :
    retireRequest (indexByte n) [] s =
      if (s.sec n).mark = .probe then .no .held else .accept (s.retire n) .accepted [] := by
  rw [retireRequest, onSlot_index, if_neg (fun h => h rfl)]
  exact ifInService_of_inService _ _ service

/-- RETIRE of a section that is not under probe is accepted. -/
theorem exec_retire {s : State} (taking : s.taking) {n : Slot} (service : (s.sec n).slot.inService = true) (dt : Nat)
    (unprobed : (s.sec n).mark ≠ .probe) :
    exec (.retire dt (indexByte n) []) s =
      .next (((s.atTake dt).retire n).putReply { status := .accepted, kind := 6, payload := [] }) := by
  refine exec_request_of_accept (c := .retire dt (indexByte n) []) rfl taking ?_
  exact (retireRequest_index (s := s.atTake dt) service).trans (if_neg unprobed)

theorem exec_retire_of_probe {s : State} (taking : s.taking) {n : Slot} (service : (s.sec n).slot.inService = true)
    (dt : Nat) (probed : (s.sec n).mark = .probe) :
    exec (.retire dt (indexByte n) []) s = .next (s.answered dt 6 .held []) := by
  refine exec_request_of_no (c := .retire dt (indexByte n) []) rfl taking ?_
  exact (retireRequest_index (s := s.atTake dt) service).trans (if_pos probed)

/-! ### The record (R24, R26) -/

/-- Whatever does not look at marks, refresh timers and drain conditions reads what RETIRE wrote, or the slot is
cleared. -/
theorem State.retire_keeps {β : Type} (g : SectionRecord → β) (blind : ValveBlind g)
    (fan : ∀ r b, g { r with fanDrained := b } = g r) (s : State) (n m : Slot) :
    g ((s.retire n).sec m) = g (s.retiredSec n m) ∨ m = n ∧ (s.retire n).sec m = .cleared := by
  have before : g (((s.retireRecords n).retireFromSearch n).sec m) = g (s.retiredSec n m) := by
    rw [State.retireFromSearch_keeps g blind.mark, State.retireRecords_keeps g blind]
  rcases (s.retire_drains n).sec m with same | ⟨rfl, -, cleared | ⟨f, v, met⟩⟩
  · exact .inl (same ▸ before)
  · exact .inr ⟨rfl, cleared⟩
  · refine .inl ?_
    rw [met, ← before]
    exact (blind.drained _ v).trans (fan _ f)

theorem State.retiredSec_slot (s : State) (n : Slot) : (s.retiredSec n n).slot = .retiring := by
  unfold State.retiredSec
  dsimp only
  rw [if_pos rfl]

theorem State.retiredSec_gangFlag (s : State) (n : Slot) : (s.retiredSec n (leadOf n)).config.gangFlag = false := by
  unfold State.retiredSec
  dsimp only
  rw [if_pos rfl]
  split <;> rfl

theorem State.retire_slot (s : State) (n : Slot) :
    ((s.retire n).sec n).slot = .retiring ∨ (s.retire n).sec n = .cleared := by
  rcases s.retire_keeps (·.slot) ⟨fun _ _ _ => rfl, fun _ _ => rfl⟩ (fun _ _ => rfl) n n with kept | ⟨-, cleared⟩
  · exact .inl (kept.trans (s.retiredSec_slot n))
  · exact .inr cleared

theorem State.retire_gangFlag (s : State) (n : Slot) : ((s.retire n).sec (leadOf n)).config.gangFlag = false := by
  rcases s.retire_keeps (·.config.gangFlag) ⟨fun _ _ _ => rfl, fun _ _ => rfl⟩ (fun _ _ => rfl) n (leadOf n) with
    kept | ⟨-, cleared⟩
  · exact kept.trans (s.retiredSec_gangFlag n)
  · rw [cleared]; rfl

/-! ### The tables (R24, R161) -/

theorem State.retire_evalQueue (s : State) (n : Slot) : (s.retire n).evalQueue = s.evalQueue.filter (· != n) := by
  rw [State.retire_eq, State.checkFanDrain_evalQueue, State.retireFromSearch_evalQueue, State.retireRecords_evalQueue]

theorem State.retire_binding (s : State) (n : Slot) (b : BindingId) :
    (s.retire n).binding b = if (s.binding b).feedsSection n then .empty else s.binding b := by
  rw [State.retire_eq, State.checkFanDrain_binding, State.retireFromSearch_binding, State.retireRecords_binding]

/-- Taking a bit out of a mask that does not hold it leaves the mask. -/
theorem BitVec.and_not_bit_of_getLsbD {w : Nat} (mask : BitVec w) {i : Nat} (out : mask.getLsbD i = false) :
    mask &&& ~~~(1#w <<< i) = mask := by
  refine BitVec.eq_of_getLsbD_eq fun j low => ?_
  by_cases same : j = i
  · subst same
    simp [out]
  · have apart : (1#w <<< i).getLsbD j = false := by
      rw [BitVec.getLsbD_shiftLeft, BitVec.getLsbD_one]
      by_cases before : j < i
      · simp [before]
      · have beyond : j - i ≠ 0 := by omega
        simp [beyond]
    rw [BitVec.getLsbD_and, BitVec.getLsbD_not, apart, decide_eq_true low]
    simp

theorem State.retire_mask (s : State) (n : Slot) (k : LineId) :
    ((s.retire n).line k).mask = (s.line k).mask &&& ~~~(1#24 <<< n.val) := by
  rw [State.retire_eq, State.checkFanDrain_line, State.retireFromSearch_mask, State.retireRecords_mask]
  split
  · rfl
  · next out => exact (BitVec.and_not_bit_of_getLsbD _ (Bool.eq_false_of_not_eq_true out)).symm

/-! ### The search where it is not concerned -/

/-- RETIRE of a section that no unit of a search holds leaves the search. -/
theorem State.retireFromSearch_of_unlisted {s : State} {n : Slot}
    (unlisted : ¬ (s.search.state ≠ .idle ∧ s.search.lists n)) : s.retireFromSearch n = s := by
  refine if_pos ?_
  by_cases idle : s.search.state = .idle
  · exact .inl idle
  · refine .inr (List.all_eq_true.mpr fun u member => ?_)
    have out : n ∉ u.members := fun holds => unlisted ⟨idle, u, member, holds⟩
    simpa using out

/-! ### The drain conditions (R26) -/

theorem State.checkFanDrain_sec_self {s : State} {n : Slot} (retiring : (s.sec n).slot = .retiring) :
    (s.checkFanDrain n).sec n =
      if (s.fan n).gen.dutyInForce = 0 then
        if (s.sec n).valveDrained then .cleared else { s.sec n with fanDrained := true }
      else s.sec n := by
  rw [State.checkFanDrain_eq]
  by_cases idle : (s.fan n).gen.dutyInForce = 0
  · rw [if_pos ⟨retiring, idle⟩, if_pos idle]
    split
    · exact State.modSec_sec_self _ n _
    · exact State.modSec_sec_self _ n _
  · rw [if_neg fun both => idle both.2, if_neg idle]

theorem State.checkFanDrain_sec_other (s : State) {n m : Slot} (other : m ≠ n) : (s.checkFanDrain n).sec m = s.sec m := by
  rcases (s.checkFanDrain_drains n).sec m with same | ⟨same, -⟩
  · exact same
  · exact absurd same other

theorem State.checkFanDrain_fan {s : State} {n : Slot} (retiring : (s.sec n).slot = .retiring) (m : Slot) :
    (s.checkFanDrain n).fan m =
      if m = n ∧ (s.fan n).gen.dutyInForce = 0 ∧ (s.sec n).valveDrained = true then
        { gen := Channel.disable s.drive.fanPeriod (s.fanActiveLow n), ramp := 0, rampTimer := none, ownStaged := 0 }
      else s.fan m := by
  rw [State.checkFanDrain_eq]
  by_cases idle : (s.fan n).gen.dutyInForce = 0
  · rw [if_pos ⟨retiring, idle⟩]
    split
    · next drained =>
      rw [State.modSec_fan, State.disableFan, State.modFan_fan]
      simp only [idle, drained, and_true, eq_comm]
    · next closed =>
      rw [State.modSec_fan, if_neg fun all => closed all.2.2]
  · rw [if_neg fun both => idle both.2, if_neg fun all => idle all.2.1]

end Sys2Proof.Machine
end

section
/-! PROOF. RETIRE of a section marked HELD (R25). -/

namespace Sys2Proof.Machine

open Sys2Proof

/-- What RETIRE makes of the record of a section whose valve stays closed. -/
def SectionRecord.shut (r : SectionRecord) : SectionRecord :=
  { r with mark := .none, refreshTimer := none, valveDrained := true }

theorem State.retireValve_of_held {s : State} {n : Slot} (held : (s.sec n).mark = .held) :
    s.retireValve n =
      (((s.removeEntry n).modSec n SectionRecord.shut).setMarks .none
        (s.search.isolated.filter (· != n))).modSearch SearchContext.toIdle := by
  unfold State.retireValve
  dsimp only
  rw [held]
  rfl

theorem State.slot_ne_of_mem_removeEntry (s : State) {n : Slot} {e : QueueEntry}
    (member : e ∈ (s.removeEntry n).txQueue) : e.slot ≠ n := by
  simpa using (List.mem_filter.mp member).2

theorem State.retireLinks_dutyInForce (s : State) (n m : Slot) :
    ((s.retireLinks n).fan m).gen.dutyInForce = (s.fan m).gen.dutyInForce := by
  rw [State.retireLinks, State.restagePair, State.restage_dutyInForce, State.restage_dutyInForce]
  simp

theorem State.retireRecords_search (s : State) (n : Slot) :
    (s.retireRecords n).search = ((s.retireLinks n).retireValve n).search := by
  rw [State.retireRecords_eq, State.formColdest_search, State.decidePump_search, State.leaveMasks_search]

theorem State.retireRecords_txQueue (s : State) (n : Slot) :
    (s.retireRecords n).txQueue = ((s.retireLinks n).retireValve n).txQueue := by
  rw [State.retireRecords_eq, State.formColdest_txQueue, State.decidePump_txQueue, State.leaveMasks_txQueue]

theorem State.retireRecords_sec (s : State) (n m : Slot) :
    (s.retireRecords n).sec m = ((s.retireLinks n).retireValve n).sec m := by
  rw [State.retireRecords_eq, State.formColdest_sec, State.decidePump_sec, State.leaveMasks_sec]

theorem State.retireRecords_fan (s : State) (n m : Slot) :
    (s.retireRecords n).fan m = ((s.retireLinks n).retireValve n).fan m := by
  rw [State.retireRecords_eq, State.formColdest_fan, State.decidePump_fan, State.leaveMasks_fan]

theorem State.retiredSec_valveNode (s : State) (n m : Slot) :
    (s.retiredSec n m).config.valveNode = (s.sec m).config.valveNode := by
  unfold State.retiredSec
  dsimp only
  split
  · split <;> rfl
  · split <;> rfl

/-- A HELD section that retires: the search goes to IDLE, the section's entry leaves the queue and its valve stays
closed, and the other sections of its unit are released. -/
theorem State.retire_of_held {s : State} {n : Slot} (held : (s.sec n).mark = .held) :
    (s.retire n).search = s.search.ended s.search.result ∧
      (∀ e ∈ (s.retire n).txQueue, e.slot ≠ n) ∧
      (if (s.fan n).gen.dutyInForce = 0 then (s.retire n).sec n = .cleared
      else (s.retire n).sec n = (s.retiredSec n n).shut) ∧
      ∀ m ∈ s.search.isolated, m ≠ n →
        ((s.retire n).sec m).mark = .none ∧
          ((s.sec m).config.valveNode.isSome = true → { slot := m, command := .toOpen } ∈ (s.retire n).txQueue) := by
  have mark : ((s.retireLinks n).sec n).mark = .held := by rw [State.retireLinks_sec, State.retiredSec_mark, held]
  have valve := State.retireValve_of_held mark
  rw [State.retireLinks_search] at valve
  have search := (s.retireRecords_search n).trans (congrArg State.search valve)
  have queue := (s.retireRecords_txQueue n).trans (congrArg State.txQueue valve)
  have sec (m : Slot) := (s.retireRecords_sec n m).trans (congrArg (State.sec · m) valve)
  have fan (m : Slot) := (s.retireRecords_fan n m).trans (congrArg (State.fan · m) valve)
  have ended : (s.retireRecords n).search = s.search.ended s.search.result := by
    rw [search, State.modSearch_search, State.setMarks_search, State.modSec_search, State.removeEntry_search,
      State.retireLinks_search]
    rfl
  have step : s.retire n = (s.retireRecords n).checkFanDrain n := by
    rw [State.retire_eq, State.retireFromSearch_of_unlisted fun listed => listed.1 (by rw [ended]; rfl)]
  rw [step]
  have outside : n ∉ s.search.isolated.filter (· != n) := by simp
  have record : (s.retireRecords n).sec n = (s.retiredSec n n).shut := by
    rw [sec, State.modSearch_sec, State.setMarks_sec_other _ _ _ _ outside, State.modSec_sec_self, State.removeEntry_sec,
      State.retireLinks_sec]
  have duty : ((s.retireRecords n).fan n).gen.dutyInForce = (s.fan n).gen.dutyInForce := by
    rw [fan, State.modSearch_fan, State.setMarks_dutyInForce, State.modSec_fan, State.removeEntry_fan,
      State.retireLinks_dutyInForce]
  have retiring : ((s.retireRecords n).sec n).slot = .retiring := by rw [record]; exact s.retiredSec_slot n
  refine ⟨(State.checkFanDrain_search _ n).trans ended, fun e member => ?_, ?_,
    fun m member other => ⟨?_, fun node => ?_⟩⟩
  · rw [State.checkFanDrain_txQueue, queue] at member
    rcases State.setMarks_entry_slot _ _ _ e member with others | old
    · rintro rfl
      exact outside others
    · rw [State.modSec_txQueue] at old
      exact State.slot_ne_of_mem_removeEntry _ old
  · rw [State.checkFanDrain_sec_self retiring, duty, record]
    split <;> rfl
  · rw [State.checkFanDrain_sec_other _ other, sec, State.modSearch_sec, State.setMarks_mark,
      if_pos (List.mem_filter.mpr ⟨member, by simpa using other⟩)]
  · rw [State.checkFanDrain_txQueue, queue]
    refine State.setMarks_posts .none _ _ m (List.mem_filter.mpr ⟨member, by simpa using other⟩) ?_
    rw [State.modSec_sec_ne _ _ other, State.removeEntry_sec, State.retireLinks_sec, State.retiredSec_valveNode]
    exact node

end Sys2Proof.Machine
end

section
/-! PROOF. RETIRE of an unmarked section: its record, its channel, and the tables and lines it leaves (R24, R25). -/

namespace Sys2Proof.Machine

open Sys2Proof

/-! ### The valve (R25) -/

/-- What RETIRE makes of the record of a section whose valve opens: the condition is met where there is none. -/
def SectionRecord.opening (r : SectionRecord) : SectionRecord :=
  { r with refreshTimer := none, valveDrained := r.config.valveNode.isNone }

theorem State.retireValve_of_unmarked {s : State} {n : Slot} (unmarked : (s.sec n).mark = .none) :
    s.retireValve n =
      (if (s.sec n).config.valveNode.isSome then s.postValve n .toOpen else s).modSec n SectionRecord.opening := by
  unfold State.retireValve
  dsimp only
  rw [unmarked]
  dsimp only
  have write (u : State) (sec : u.sec n = s.sec n) {f : SectionRecord → SectionRecord}
      (same : f (s.sec n) = (s.sec n).opening) : u.modSec n f = u.modSec n SectionRecord.opening := by
    have record : f (u.sec n) = SectionRecord.opening (u.sec n) := by rw [sec, same]
    exact congrArg (fun r => { u with sections := tabSet u.sections n r }) record
  cases node : (s.sec n).config.valveNode with
  | none =>
    rw [if_neg (by simp), if_neg (by simp)]
    refine write s rfl ?_
    rw [SectionRecord.opening, node]
    rfl
  | some address =>
    rw [if_pos Option.isSome_some, if_pos Option.isSome_some]
    refine write _ (s.postValve_sec n .toOpen n) ?_
    rw [SectionRecord.opening, node]
    rfl

section
variable {s : State} {n : Slot} (unmarked : (s.sec n).mark = .none)
include unmarked

theorem State.retireLinks_valve :
    (s.retireLinks n).retireValve n =
      (if (s.sec n).config.valveNode.isSome then (s.retireLinks n).postValve n .toOpen
      else s.retireLinks n).modSec n SectionRecord.opening := by
  have mark : ((s.retireLinks n).sec n).mark = .none := by rw [State.retireLinks_sec, State.retiredSec_mark, unmarked]
  rw [State.retireValve_of_unmarked mark, State.retireLinks_sec, State.retiredSec_valveNode]

/-! ### The record (R24) -/

theorem State.retireRecords_sec_of_unmarked (m : Slot) :
    (s.retireRecords n).sec m = if m = n then (s.retiredSec n n).opening else s.retiredSec n m := by
  rw [State.retireRecords_sec, State.retireLinks_valve unmarked, State.modSec_sec_eq]
  split
  · split
    · rw [State.postValve_sec, State.retireLinks_sec]
    · rw [State.retireLinks_sec]
  · split
    · rw [State.postValve_sec, State.retireLinks_sec]
    · rw [State.retireLinks_sec]

theorem State.retireRecords_txQueue_of_unmarked :
    (s.retireRecords n).txQueue =
      if (s.sec n).config.valveNode.isSome then Machine.postEntry n .toOpen s.txQueue else s.txQueue := by
  rw [State.retireRecords_txQueue, State.retireLinks_valve unmarked, State.modSec_txQueue]
  split
  · rw [State.postValve, s.retireLinks_txQueue n]
  · exact s.retireLinks_txQueue n

theorem State.retireRecords_search_of_unmarked : (s.retireRecords n).search = s.search := by
  rw [State.retireRecords_search, State.retireLinks_valve unmarked, State.modSec_search]
  split
  · rw [State.postValve_search, State.retireLinks_search]
  · rw [State.retireLinks_search]

theorem State.retireRecords_transmission_of_unmarked : (s.retireRecords n).transmission = s.transmission := by
  have links : (s.retireLinks n).transmission = s.transmission := by simp [State.retireLinks]
  rw [State.retireRecords_eq, State.formColdest_transmission, State.decidePump_transmission,
    State.leaveMasks_transmission, State.retireLinks_valve unmarked, State.modSec_transmission]
  split
  · rw [State.postValve_transmission, links]
  · exact links

end

/-! ### The channels (R131) -/

/-- The channels after a section has left its pair: both members hand on their own staged duties. -/
theorem State.retireLinks_fan (s : State) (n m : Slot) :
    (s.retireLinks n).fan m =
      if m = n ∨ m = neighbourOf n then
        { s.fan m with
          ownStaged := min (s.fan m).ramp (fanCeiling (s.retiredSec n m))
          gen :=
            { (s.fan m).gen with
              stagedDuty := if s.stopLow then 0 else min (s.fan m).ramp (fanCeiling (s.retiredSec n m)) } }
      else s.fan m := by
  obtain ⟨u, linked, sec, fan, stop⟩ : ∃ u : State, s.retireLinks n = u.restagePair n ∧
      (∀ m, u.sec m = s.retiredSec n m) ∧ (∀ m, u.fan m = s.fan m) ∧ u.stopLow = s.stopLow := by
    refine ⟨_, rfl, fun m => ?_, fun m => ?_, ?_⟩
    · rw [← State.retireLinks_sec, State.retireLinks, State.restagePair_sec]
    · simp
    · simp
  have apart : u.gangFormed n = false := by
    refine State.gangFormed_eq_false (n := n) ?_ (mem_pair n)
    rw [sec, State.retiredSec_slot]
    rfl
  have pair : (m = leadOf n ∨ m = followerOf n) ↔ (m = n ∨ m = neighbourOf n) := by
    rw [mem_pair_iff, eq_comm (a := n), eq_comm (a := neighbourOf n)]
  rw [linked]
  by_cases member : m = leadOf n ∨ m = followerOf n
  · simp only [State.restagePair_fan _ _ _ member, if_pos (pair.mp member), apart, fan, sec, stop,
      Bool.false_eq_true, if_false]
  · rw [State.restagePair_fan_other _ _ _ (fun h => member (.inl h)) (fun h => member (.inr h)),
      if_neg fun h => member (pair.mpr h), fan]

theorem State.retireRecords_fan_of_unmarked {s : State} {n : Slot} (unmarked : (s.sec n).mark = .none) (m : Slot) :
    (s.retireRecords n).fan m = (s.retireLinks n).fan m := by
  rw [State.retireRecords_fan, State.retireLinks_valve unmarked, State.modSec_fan]
  split
  · rw [State.postValve_fan]
  · rfl

/-! ### The attention set (R24) -/

theorem State.retireRecords_attention_iff (s : State) (n : Slot) (c : Cause) :
    c ∈ (s.retireRecords n).attention ↔
      c ∈ s.attention ∧ ¬ (c.kind.isSectionKind = true ∧ c.subject = n.val) ∧
        ¬ (c.kind = .stale ∧ ∃ b, (s.binding b).feedsSection n = true ∧ c.subject = b.val) := by
  have links : (s.retireRecords n).attention = (s.retireLinks n).attention := by
    rw [State.retireRecords_eq, State.formColdest_attention, State.decidePump_attention, State.leaveMasks_attention,
      State.retireValve_attention]
  rw [links, State.retireLinks, State.restagePair_attention, State.leaveQueue_attention, State.dropSectionCauses,
    State.dropCauses]
  simp only [List.mem_filter, State.unbindSection_attention, State.modSec_attention, State.modSec_binding,
    Bool.not_eq_true', Bool.and_eq_false_imp, beq_eq_false_iff_ne, ne_eq, not_and, and_assoc]
  tauto

/-! ### The loop and its pump (R77, R82) -/

/-- Coldest air looks at LIVE sections only. -/
theorem State.memberAir_of_live {s t : State}
    (sec : ∀ m, t.sec m = s.sec m ∨ (t.sec m).slot ≠ .live ∧ (s.sec m).slot ≠ .live) (l : LoopId) :
    t.memberAir l = s.memberAir l := by
  refine List.filterMap_congr fun m _ => ?_
  rcases sec m with same | ⟨after, before⟩
  · rw [same]
  · rw [if_neg fun h => after h.1, if_neg fun h => before h.1]

theorem Drain.memberAir {s : State} {n : Slot} {t : State} (drains : Drain s n t) (l : LoopId) :
    t.memberAir l = s.memberAir l := by
  refine State.memberAir_of_live (fun m => ?_) l
  rcases drains.sec m with same | ⟨rfl, retiring, cleared | ⟨fan, valve, met⟩⟩
  · exact .inl same
  · exact .inr ⟨by rw [cleared]; decide, by rw [retiring]; decide⟩
  · exact .inr ⟨by rw [met]; simp [retiring], by rw [retiring]; decide⟩

theorem Drain.loops {s : State} {n : Slot} {t : State} (drains : Drain s n t) : t.loops = s.loops := by
  cases drains <;> simp

theorem Drain.pumpDuty {s : State} {n : Slot} {t : State} (drains : Drain s n t) (l : LoopId) :
    t.pumpDuty l = s.pumpDuty l :=
  State.pumpDuty_of_keys (by rw [drains.loopRec]) (fun m p _ => drains.isIn l p m) drains.stopLow

/-- The state in which RETIRE of a section decides its loop's pump and coldest air. -/
def State.leftMasks (s : State) (n : Slot) : State := ((s.retireLinks n).retireValve n).leaveMasks n

theorem State.leftMasks_loops (s : State) (n : Slot) : (s.leftMasks n).loops = s.loops := by
  rw [State.leftMasks, State.leaveMasks_loops, State.retireValve_loops, State.retireLinks_loops]

theorem State.leftMasks_pumps (s : State) (n : Slot) : (s.leftMasks n).pumps = s.pumps := by
  rw [State.leftMasks, State.leaveMasks_pumps, State.retireValve_pumps]
  simp [State.retireLinks]

theorem State.retireRecords_loops (s : State) (n : Slot) :
    (s.retireRecords n).loops =
      tabSet s.loops (s.sec n).config.loopOf
        { s.loopRec (s.sec n).config.loopOf with
          coldest := lowest ((s.retireRecords n).memberAir (s.sec n).config.loopOf) } := by
  generalize loop : (s.sec n).config.loopOf = l
  have step : s.retireRecords n = ((s.leftMasks n).decidePump l).formColdest l := by rw [← loop]; rfl
  have air : (s.retireRecords n).memberAir l = ((s.leftMasks n).decidePump l).memberAir l :=
    State.memberAir_of_live (fun m => .inl (by rw [step, State.formColdest_sec])) l
  have record : ((s.leftMasks n).decidePump l).loops = s.loops := by
    rw [State.decidePump_loops, State.leftMasks_loops]
  have entry : ((s.leftMasks n).decidePump l).loopRec l = s.loopRec l := congrArg (tabGet · l) record
  rw [air, step]
  show tabSet ((s.leftMasks n).decidePump l).loops l
    { ((s.leftMasks n).decidePump l).loopRec l with coldest := lowest (((s.leftMasks n).decidePump l).memberAir l) } = _
  rw [record, entry]

theorem State.retireRecords_pumps (s : State) (n : Slot) :
    let l := (s.sec n).config.loopOf
    (s.retireRecords n).pumps =
      if (s.loopRec l).isSet then
        tabSet s.pumps l { s.pump l with stagedDuty := (s.retireRecords n).pumpDuty l }
      else s.pumps := by
  intro l
  have step : s.retireRecords n = ((s.leftMasks n).decidePump l).formColdest l := rfl
  have record : (s.leftMasks n).loopRec l = s.loopRec l := by rw [State.loopRec, State.leftMasks_loops]; rfl
  have duty : (s.retireRecords n).pumpDuty l = (s.leftMasks n).pumpDuty l := by
    refine State.pumpDuty_of_keys ?_ (fun m p _ => ?_) ?_
    · rw [State.retireRecords_loopRec, if_pos rfl, record]
      rfl
    · rw [step, State.formColdest_sec, State.decidePump_sec]
    · rw [step, State.formColdest_stopLow, State.decidePump_stopLow]
  rw [duty, step, State.formColdest_pumps, State.decidePump, record]
  split
  · rw [State.modPump, State.pump, State.leftMasks_pumps]
  · exact s.leftMasks_pumps n

/-! ### The lines (R161) -/

theorem State.retireRecords_line_of_unmarked {s : State} {n : Slot} (unmarked : (s.sec n).mark = .none) (k : LineId) :
    let without := (s.line k).mask &&& ~~~(1#24 <<< n.val)
    (s.retireRecords n).line k =
      if (s.line k).mask.getLsbD n.val then
        { s.line k with mask := without }.act ((s.retireRecords n).maskSafe without)
          (s.expiryIn (delaySeconds (s.line k).delayCode))
      else s.line k := by
  intro without
  have line : ((s.retireLinks n).retireValve n).line k = s.line k := by
    rw [State.retireLinks_valve unmarked, State.modSec_line]
    split
    · rw [State.postValve_line, State.retireLinks_line]
    · exact s.retireLinks_line n k
  have safe (mask : BitVec 24) : ((s.retireLinks n).retireValve n).maskSafe mask = (s.retireRecords n).maskSafe mask :=
    State.maskSafe_congr (fun m => congrArg SectionRecord.safe (s.retireRecords_sec n m).symm) mask
  have time : ((s.retireLinks n).retireValve n).time = s.time := by simp [State.retireLinks]
  have step : (s.retireRecords n).line k = (((s.retireLinks n).retireValve n).leaveMasks n).line k := by
    rw [State.retireRecords_eq, State.formColdest_line, State.decidePump_line]
  rw [step, State.leaveMasks_line, line, safe, State.expiryIn, State.tenths, time]
  rfl

end Sys2Proof.Machine
end

section
/-! PROOF. The whole next state of RETIRE of an unmarked section that no search lists (R24 to R26). -/

namespace Sys2Proof.Machine

open Sys2Proof

theorem State.opening_retiredSec (s : State) (n : Slot) :
    (s.retiredSec n n).opening =
      { s.sec n with
        slot := .retiring
        config :=
          { (s.sec n).config with gangFlag := if n = leadOf n then false else (s.sec n).config.gangFlag }
        evalTimer := none, refreshTimer := none, outlet := .awaiting, air := .awaiting, valve := .awaiting
        fanDrained := false, valveDrained := (s.sec n).config.valveNode.isNone } := by
  unfold State.retiredSec SectionRecord.opening
  dsimp only
  rw [if_pos rfl]
  by_cases lead : n = leadOf n
  · rw [if_pos lead, if_pos lead]
  · rw [if_neg lead, if_neg lead]

theorem State.retiredSec_other (s : State) {n m : Slot} (other : m ≠ n) :
    s.retiredSec n m =
      if m = leadOf n then { s.sec m with config := { (s.sec m).config with gangFlag := false } } else s.sec m := by
  unfold State.retiredSec
  dsimp only
  rw [if_neg other]

theorem State.fanCeiling_retiredSec_other (s : State) {n m : Slot} (other : m ≠ n) :
    fanCeiling (s.retiredSec n m) = fanCeiling (s.sec m) := by
  rw [State.retiredSec_other s other]
  split <;> rfl

section
variable {s : State} {n : Slot} (unmarked : (s.sec n).mark = .none)
include unmarked

theorem State.retireRecords_retiring : ((s.retireRecords n).sec n).slot = .retiring := by
  rw [State.retireRecords_sec_of_unmarked unmarked, if_pos rfl]
  exact s.retiredSec_slot n

theorem State.retireRecords_dutyInForce :
    ((s.retireRecords n).fan n).gen.dutyInForce = (s.fan n).gen.dutyInForce := by
  rw [State.retireRecords_fan_of_unmarked unmarked, State.retireLinks_dutyInForce]

theorem State.retireRecords_valveDrained :
    ((s.retireRecords n).sec n).valveDrained = true ↔ (s.sec n).config.valveNode = none := by
  rw [State.retireRecords_sec_of_unmarked unmarked, if_pos rfl, State.opening_retiredSec]
  exact Option.isNone_iff_eq_none

theorem State.retireRecords_drained_self :
    ((s.retireRecords n).checkFanDrain n).sec n =
      if (s.fan n).gen.dutyInForce = 0 ∧ (s.sec n).config.valveNode = none then .cleared
      else
        { s.sec n with
          slot := .retiring
          config :=
            { (s.sec n).config with gangFlag := if n = leadOf n then false else (s.sec n).config.gangFlag }
          evalTimer := none, refreshTimer := none, outlet := .awaiting, air := .awaiting, valve := .awaiting
          fanDrained := decide ((s.fan n).gen.dutyInForce = 0)
          valveDrained := (s.sec n).config.valveNode.isNone } := by
  rw [State.checkFanDrain_sec_self (State.retireRecords_retiring unmarked), State.retireRecords_dutyInForce unmarked]
  have drained := State.retireRecords_valveDrained unmarked
  by_cases idle : (s.fan n).gen.dutyInForce = 0
  · by_cases bare : (s.sec n).config.valveNode = none
    · rw [if_pos idle, if_pos (drained.mpr bare), if_pos ⟨idle, bare⟩]
    · rw [if_pos idle, if_neg fun valve => bare (drained.mp valve), if_neg fun both => bare both.2,
        State.retireRecords_sec_of_unmarked unmarked, if_pos rfl, State.opening_retiredSec, decide_eq_true idle]
  · rw [if_neg idle, if_neg fun both => idle both.1, State.retireRecords_sec_of_unmarked unmarked, if_pos rfl,
      State.opening_retiredSec, decide_eq_false idle]

theorem State.retireRecords_drained_other {m : Slot} (other : m ≠ n) :
    ((s.retireRecords n).checkFanDrain n).sec m =
      if m = leadOf n then { s.sec m with config := { (s.sec m).config with gangFlag := false } } else s.sec m := by
  rw [State.checkFanDrain_sec_other _ other, State.retireRecords_sec_of_unmarked unmarked, if_neg other,
    State.retiredSec_other s other]

theorem State.retireRecords_drained_fan_self :
    ((s.retireRecords n).checkFanDrain n).fan n =
      if (s.fan n).gen.dutyInForce = 0 ∧ (s.sec n).config.valveNode = none then
        { gen := Channel.disable s.drive.fanPeriod (s.fanActiveLow n), ramp := 0, rampTimer := none, ownStaged := 0 }
      else { s.fan n with ownStaged := 0, gen := { (s.fan n).gen with stagedDuty := 0 } } := by
  have drive : (s.retireRecords n).drive = s.drive := by
    rw [State.retireRecords_eq, State.formColdest_drive, State.decidePump_drive, State.leaveMasks_drive,
      State.retireValve_drive]
    simp [State.retireLinks]
  have ceiling : fanCeiling (s.retiredSec n n) = 0 := by
    unfold fanCeiling
    rw [State.retiredSec_slot]
  have fan : (s.retireRecords n).fan n =
      { s.fan n with ownStaged := 0, gen := { (s.fan n).gen with stagedDuty := 0 } } := by
    rw [State.retireRecords_fan_of_unmarked unmarked, State.retireLinks_fan, if_pos (Or.inl rfl), ceiling,
      Nat.min_zero, ite_self]
  have low : (s.retireRecords n).fanActiveLow n = s.fanActiveLow n := by
    rw [State.fanActiveLow, drive]
    rfl
  rw [State.checkFanDrain_fan (State.retireRecords_retiring unmarked), State.retireRecords_dutyInForce unmarked, fan,
    drive, low]
  simp only [State.retireRecords_valveDrained unmarked, true_and]

theorem State.retireRecords_drained_fan_other {m : Slot} (other : m ≠ n) :
    ((s.retireRecords n).checkFanDrain n).fan m =
      if m = neighbourOf n then
        { s.fan m with
          ownStaged := min (s.fan m).ramp (fanCeiling (s.sec m))
          gen :=
            { (s.fan m).gen with
              stagedDuty := if s.stopLow then 0 else min (s.fan m).ramp (fanCeiling (s.sec m)) } }
      else s.fan m := by
  rw [State.checkFanDrain_fan (State.retireRecords_retiring unmarked), if_neg fun same => other same.1,
    State.retireRecords_fan_of_unmarked unmarked, State.retireLinks_fan, State.fanCeiling_retiredSec_other s other]
  simp only [other, false_or]

/-- The whole state after RETIRE but for the tables that the section leaves. -/
theorem State.retireRecords_drained_frame {t : State} (is : t = (s.retireRecords n).checkFanDrain n) :
    t =
      { s with
        sections := t.sections, fans := t.fans, loops := t.loops, pumps := t.pumps, evalQueue := t.evalQueue
        bindings := t.bindings, txQueue := t.txQueue, lines := t.lines, attention := t.attention } := by
  refine State.eq_of_fields ?time ?resetPin ?stopLow rfl rfl rfl rfl ?drive rfl ?seen rfl rfl ?transmission ?search rfl
    rfl ?rest
  case transmission =>
    exact (congrArg State.transmission is).trans
      ((State.checkFanDrain_transmission _ n).trans (State.retireRecords_transmission_of_unmarked unmarked))
  case search =>
    exact (congrArg State.search is).trans
      ((State.checkFanDrain_search _ n).trans (State.retireRecords_search_of_unmarked unmarked))
  case rest =>
    have rest : t.rest = s.rest := by simp [is, State.retireRecords_eq, State.retireLinks]
    exact rest
  all_goals simp [is, State.retireRecords_eq, State.retireLinks]

/-- RETIRE of a section that no search lists does no more than its records and its drain. -/
theorem State.retire_of_unlisted (unlisted : ¬ (s.search.state ≠ .idle ∧ s.search.lists n)) :
    s.retire n = (s.retireRecords n).checkFanDrain n := by
  have search := State.retireRecords_search_of_unmarked unmarked
  rw [State.retire_eq, State.retireFromSearch_of_unlisted (by rw [search]; exact unlisted)]

end

/-! ### What the drain leaves (R26) -/

theorem Drain.maskSafe {s : State} {n : Slot} {t : State} (drains : Drain s n t) (mask : BitVec 24) :
    t.maskSafe mask = s.maskSafe mask := State.maskSafe_congr drains.safe mask

end Sys2Proof.Machine
end

section
/-! PROOF. RETIRE of a candidate member of a search in flight (R152). -/

namespace Sys2Proof.Machine

open Sys2Proof

/-! ### The context -/

/-- The context of a search whose candidate member has retired. -/
def SearchContext.retired (c : SearchContext) (n : Slot) : SearchContext :=
  { c.without n with wait := c.wait.filter (· != n) }

theorem SearchContext.retired_eq (c : SearchContext) (n : Slot) :
    c.retired n =
      { c with
        candidates := c.candidates.filterMap (·.without n), rangeLo := (c.retired n).rangeLo
        rangeHi := (c.retired n).rangeHi, probed := (c.retired n).probed, wait := c.wait.filter (· ≠ n) } := by
  have waits : c.wait.filter (· != n) = c.wait.filter (· ≠ n) :=
    List.filter_congr fun m _ => by rw [bne, Bool.beq_eq_decide_eq, decide_not]
  exact (congrArg (fun e : SearchContext => { e with wait := c.wait.filter (· != n) })
    (c.without_candidates n)).trans
      (congrArg
        (fun wait : List Slot =>
          { c with
            candidates := c.candidates.filterMap fun u : SearchUnit => u.without n, rangeLo := (c.without n).rangeLo
            rangeHi := (c.without n).rangeHi, probed := (c.without n).probed, wait := wait })
        waits)

theorem SearchContext.ne_of_mem_retired_wait {c : SearchContext} {n m : Slot} (member : m ∈ (c.retired n).wait) :
    m ≠ n := by
  simpa using (List.mem_filter.mp member).2

/-- An isolation marks no section that is in no unit. -/
theorem IsolationMade.unmarked {s t : State} {c : SearchContext} {p : SearchParams} {tenths : Nat}
    {marks : Slot → Mark} (made : IsolationMade s t c p tenths marks) {n : Slot} (before : marks n = .none)
    (out : ∀ u ∈ c.candidates, n ∉ u.members) : (t.sec n).mark = .none := by
  obtain ⟨suspends, ends, settles⟩ := made
  generalize all : (c.range.take ((c.range.length + 1) / 2)).flatMap SearchUnit.members = members at *
  have outside : n ∉ members := by
    rw [← all]
    intro member
    obtain ⟨u, of, holds⟩ := List.mem_flatMap.mp member
    exact out u (List.mem_of_mem_take (List.mem_of_mem_drop (List.mem_of_mem_take of))) holds
  by_cases cold : ∃ m ∈ members, (s.sec m).protection ≠ .normal
  · exact ((suspends cold).2 n).trans before
  · have calm : ∀ m ∈ members, (s.sec m).protection = .normal := fun m member =>
      of_not_not fun other => cold ⟨m, member, other⟩
    by_cases bare : ∃ m ∈ members, (s.sec m).config.valveNode = none
    · obtain ⟨-, -, -, -, -, marked⟩ := ends calm bare
      rw [marked n, before, ite_self]
    · obtain ⟨-, marked, -⟩ := settles fun m member => ⟨calm m member, fun none => bare ⟨m, member, none⟩⟩
      rw [marked n, if_neg outside, before]

/-! ### What the search reads after the records -/

/-- The part after a candidate member has left its structures, when the search is about to judge what is left. -/
def State.delisted (s : State) (n : Slot) : State := (s.retireRecords n).modSearch fun c => c.retired n

section
variable {s : State} {n : Slot}

theorem State.delisted_keeps {β : Type} (g : SectionRecord → β) (blind : ValveBlind g) (m : Slot) :
    g ((s.delisted n).sec m) = g (s.retiredSec n m) := s.retireRecords_keeps g blind n m

theorem State.delisted_protection (m : Slot) : ((s.delisted n).sec m).protection = (s.sec m).protection := by
  rw [State.delisted_keeps (·.protection) ⟨fun _ _ _ => rfl, fun _ _ => rfl⟩, State.retiredSec]
  dsimp only
  split
  · split <;> rfl
  · split <;> rfl

theorem State.delisted_valveNode (m : Slot) :
    ((s.delisted n).sec m).config.valveNode = (s.sec m).config.valveNode := by
  rw [State.delisted_keeps (·.config.valveNode) ⟨fun _ _ _ => rfl, fun _ _ => rfl⟩, State.retiredSec_valveNode]

theorem State.delisted_valve {m : Slot} (other : m ≠ n) : ((s.delisted n).sec m).valve = (s.sec m).valve := by
  rw [State.delisted_keeps (·.valve) ⟨fun _ _ _ => rfl, fun _ _ => rfl⟩, State.retiredSec_other s other]
  split <;> rfl

theorem State.delisted_loop (l : LoopId) : ((s.delisted n).loopRec l).config = (s.loopRec l).config := by
  rw [State.delisted, State.modSearch_loopRec, State.retireRecords_loopRec]
  split <;> rfl

theorem State.delisted_tenths : (s.delisted n).tenths = s.tenths := by
  rw [State.tenths, State.tenths, State.delisted, State.modSearch_time, State.retireRecords_eq]
  simp [State.retireLinks]

section
variable (unmarked : (s.sec n).mark = .none)
include unmarked

theorem State.delisted_mark (m : Slot) : ((s.delisted n).sec m).mark = (s.sec m).mark := by
  rw [State.delisted, State.modSearch_sec, State.retireRecords_sec_of_unmarked unmarked]
  split
  · next same =>
    subst same
    exact s.retiredSec_mark m m
  · exact s.retiredSec_mark n m

theorem State.delisted_search : (s.delisted n).search = s.search.retired n := by
  rw [State.delisted, State.modSearch_search, State.retireRecords_search_of_unmarked unmarked]

theorem State.retireFromSearch_of_listed (flight : s.search.state ≠ .idle) (listed : s.search.lists n) :
    (s.retireRecords n).retireFromSearch n =
      if (s.search.retired n).rangeHi ≤ (s.search.retired n).rangeLo then (s.delisted n).endSearch .inconclusive
      else if n ∈ s.search.wait then (s.delisted n).judgeWait
      else s.delisted n := by
  have search := State.retireRecords_search_of_unmarked unmarked
  have context := State.delisted_search unmarked
  have seeks : ¬ ((s.retireRecords n).search.state = .idle ∨
      (s.retireRecords n).search.candidates.all (fun u => !u.members.contains n) = true) := by
    rw [search]
    rintro (idle | outside)
    · exact flight idle
    · obtain ⟨u, member, holds⟩ := listed
      have out := List.all_eq_true.mp outside u member
      simp [holds] at out
  rw [← context, ← search]
  exact if_neg seeks

end

/-! ### The three outcomes -/

/-- The drain leaves everything that the statements about the search read. -/
theorem Drain.searchAgrees {x t : State} (drains : Drain x n t) (unmarked : (x.sec n).mark = .none) :
    SearchAgrees x t where
  time := by cases drains <;> simp
  search := drains.search
  mark m := by
    rcases drains.sec m with same | ⟨rfl, -, cleared | ⟨fan, valve, met⟩⟩
    · rw [same]
    · rw [cleared, unmarked]; rfl
    · rw [met]
  queue := drains.txQueue
  causes := fun c member => drains.attention.symm ▸ member
  leakTimer l := by rw [drains.loopRec]
  leakLength l := by rw [drains.loopRec]
  leakWindow l := by rw [drains.loopRec]

variable (unmarked : (s.sec n).mark = .none) (flight : s.search.state ≠ .idle) (listed : s.search.lists n)
include unmarked flight listed

/-- An empty suspect range ends the search INCONCLUSIVE. -/
theorem State.retire_ends (empty : (s.search.retired n).rangeHi ≤ (s.search.retired n).rangeLo) :
    (s.retire n).search = (s.search.retired n).ended .inconclusive ∧ OpenPosted s (s.retire n) s.search.isolated ∧
      MonitorBegins s (s.retire n) s.search.loopOf ∧
      { kind := .searchEnd, subject := 0 } ∈ (s.retire n).attention ∧
      ∀ m, ((s.retire n).sec m).mark = if m ∈ s.search.isolated then .none else (s.sec m).mark := by
  have step := State.retireFromSearch_of_listed unmarked flight listed
  rw [if_pos empty] at step
  have drains := s.retire_drains n
  rw [step] at drains
  have context := State.delisted_search unmarked
  have kept := s.search.retired_eq n
  have isolated : (s.delisted n).search.isolated = s.search.isolated := by rw [context, kept]
  have loopOf : (s.delisted n).search.loopOf = s.search.loopOf := by rw [context, kept]
  obtain ⟨search, posted, marks, opened, monitor⟩ := searchEnded_endSearch (s.delisted n) .inconclusive
  rw [isolated] at marks opened
  rw [loopOf] at monitor
  have freed : (((s.delisted n).endSearch .inconclusive).sec n).mark = .none := by
    rw [marks n, State.delisted_mark unmarked, unmarked, ite_self]
  have agrees := drains.searchAgrees freed
  refine ⟨?_, agrees.openPosted ?_, agrees.monitorBegins ?_, agrees.causes _ posted, fun m => ?_⟩
  · rw [agrees.search, search, context]
  · simpa only [OpenPosted, State.delisted_valveNode] using opened
  · simpa only [MonitorBegins, State.delisted_loop] using monitor
  · rw [agrees.mark, marks, State.delisted_mark unmarked]

/-- With a range left and no wait met by the removal the search is as it then stands. -/
theorem State.retire_stands (left : (s.search.retired n).rangeLo < (s.search.retired n).rangeHi)
    (unmet : n ∈ s.search.wait → s.search.state = .resting ∨ s.search.state = .suspended → ¬ (s.delisted n).waitMet) :
    (s.retire n).search = s.search.retired n := by
  have step := State.retireFromSearch_of_listed unmarked flight listed
  rw [if_neg (Nat.not_le_of_lt left)] at step
  have context := State.delisted_search unmarked
  have state : (s.delisted n).search.state = s.search.state := by rw [context, s.search.retired_eq n]
  have stands : (s.retireRecords n).retireFromSearch n = s.delisted n := by
    rw [step]
    split
    · next waited =>
      by_cases waits : s.search.state = .resting ∨ s.search.state = .suspended
      · exact State.judgeWait_of_unmet (unmet waited waits)
      · unfold State.judgeWait
        rw [state]
        cases now : s.search.state with
        | resting => exact absurd (.inl now) waits
        | suspended => exact absurd (.inr now) waits
        | _ => rfl
    · rfl
  rw [State.retire_eq, State.checkFanDrain_search, stands, context]

/-- A wait met by the removal makes its isolation. -/
theorem State.retire_resumes (left : (s.search.retired n).rangeLo < (s.search.retired n).rangeHi)
    (waited : n ∈ s.search.wait) (state : s.search.state = .resting ∨ s.search.state = .suspended)
    (met : (s.delisted n).waitMet) {p : SearchParams} (params : s.search.params = some p)
    (distinct : (s.search.candidates.flatMap SearchUnit.members).Nodup) :
    IsolationMade s (s.retire n) (s.search.retired n).resumed p s.tenths fun m => (s.sec m).mark := by
  have step := State.retireFromSearch_of_listed unmarked flight listed
  rw [if_neg (Nat.not_le_of_lt left), if_pos waited] at step
  have drains := s.retire_drains n
  rw [step] at drains
  have context := State.delisted_search unmarked
  have kept := s.search.retired_eq n
  have same : (s.delisted n).search.params = s.search.params ∧ (s.delisted n).search.state = s.search.state := by
    rw [context, kept]
    exact ⟨rfl, rfl⟩
  have made := State.judgeWait_of_met (same.1.trans params) (same.2.symm ▸ state) met
  have marks : (fun m => ((s.delisted n).sec m).mark) = fun m => (s.sec m).mark :=
    funext (State.delisted_mark unmarked)
  rw [context, State.delisted_tenths, marks] at made
  have freed : ((s.delisted n).judgeWait.sec n).mark = .none := by
    refine made.unmarked unmarked fun u member => SearchContext.not_mem_without (c := s.search) distinct ?_
    unfold SearchContext.resumed at member
    split at member <;> exact member
  exact (drains.searchAgrees freed).isolationMade
    (isolationMade_congr s (s.delisted n) _ _ p s.tenths _
      (fun m => ⟨(State.delisted_protection m).symm, (State.delisted_valveNode m).symm⟩)
      (fun l => by rw [State.delisted_loop]) made)

end

/-- What the wait that is left reads. -/
theorem State.delisted_waitMet {s : State} {n : Slot} (unmarked : (s.sec n).mark = .none) :
    (s.delisted n).waitMet ↔
      ((s.search.retired n).phaseTimer = none ∧
        ∀ m ∈ (s.search.retired n).wait, (s.sec m).valve.reads 0 = true) ∧
        (s.search.state = .suspended → ∀ m ∈ (s.search.retired n).wait, (s.sec m).protection = .normal) := by
  have state : (s.search.retired n).state = s.search.state := by rw [s.search.retired_eq n]
  have opened : (∀ m ∈ (s.search.retired n).wait, ((s.delisted n).sec m).valve.reads 0 = true) ↔
      ∀ m ∈ (s.search.retired n).wait, (s.sec m).valve.reads 0 = true :=
    forall₂_congr fun m member => by rw [State.delisted_valve (SearchContext.ne_of_mem_retired_wait member)]
  rw [State.waitMet, State.delisted_search unmarked, opened, state, and_assoc]
  simp only [State.delisted_protection]

end Sys2Proof.Machine
end

section
/-! PROOF. RETIRE (R23 to R26, R152): the obligation, from the parts that the rules name. -/

namespace Sys2Proof.Machine

open Sys2Proof

section
variable {s : State} {n : Slot} (unmarked : (s.sec n).mark = .none) (listed : s.search.lists n)
  (left : (s.search.retired n).rangeLo < (s.search.retired n).rangeHi) (waited : n ∈ s.search.wait)
  (met : (s.delisted n).waitMet) {p : SearchParams} (params : s.search.params = some p)
  (distinct : (s.search.candidates.flatMap SearchUnit.members).Nodup)
include unmarked listed left waited met params distinct

/-- RESTING whose wait the removal has met begins a new step. -/
theorem State.retire_begins (resting : s.search.state = .resting) :
    IsolationMade s (s.retire n) { s.search.retired n with steps := min 255 (s.search.steps + 1) } p s.tenths
      fun m => (s.sec m).mark := by
  have flight : s.search.state ≠ .idle := fun idle => nomatch idle.symm.trans resting
  have kept := s.search.retired_eq n
  have state : (s.search.retired n).state = .resting := ((congrArg SearchContext.state kept).trans rfl).trans resting
  have steps : (s.search.retired n).steps = s.search.steps := (congrArg SearchContext.steps kept).trans rfl
  have made := State.retire_resumes unmarked flight listed left waited (.inl resting) met params distinct
  rw [SearchContext.resumed, if_pos state, steps] at made
  exact made

/-- SUSPENDED whose wait the removal has met repeats its step. -/
theorem State.retire_repeats (suspended : s.search.state = .suspended) :
    IsolationMade s (s.retire n) (s.search.retired n) p s.tenths fun m => (s.sec m).mark := by
  have flight : s.search.state ≠ .idle := fun idle => nomatch idle.symm.trans suspended
  have state : (s.search.retired n).state ≠ .resting := fun resting =>
    nomatch ((congrArg SearchContext.state (s.search.retired_eq n)).symm.trans resting).symm.trans suspended
  have made := State.retire_resumes unmarked flight listed left waited (.inr suspended) met params distinct
  rw [SearchContext.resumed, if_neg state] at made
  exact made

end

/-- Settles O14: the records first, then the mark decides what becomes of the valve and of the search. -/
theorem retirementTakesASectionOut : Obligations.RetirementTakesASectionOut := by
  intro s dt n taking service r l command idle feeds without c listed
  refine ⟨exec_retire_of_probe taking service dt, fun unprobed => ?_⟩
  have run := exec_retire taking service dt unprobed
  have slot := (s.atTake dt).retire_slot n
  have flag := (s.atTake dt).retire_gangFlag n
  have queue := (s.atTake dt).retire_evalQueue n
  have binding := (s.atTake dt).retire_binding n
  have mask := (s.atTake dt).retire_mask n
  generalize op : (s.atTake dt).retire n = after at run slot flag queue binding mask
  refine ⟨_, run, rfl, slot, flag, queue, binding, mask, fun held => ?_, fun unmarked unlisted => ?_,
    fun unmarked listing => ?_⟩
  · obtain ⟨search, queue, record, others⟩ := State.retire_of_held (s := s.atTake dt) held
    rw [op] at search queue record others
    refine ⟨search, queue, ?_, others⟩
    by_cases now : idle
    · rw [if_pos now]
      exact (if_pos now).mp record
    · rw [if_neg now]
      have shut : after.sec n = ((s.atTake dt).retiredSec n n).shut := (if_neg now).mp record
      show (after.sec n).slot = .retiring ∧ (after.sec n).mark = .none ∧ (after.sec n).valveDrained = true ∧
        (after.sec n).refreshTimer = none
      rw [shut]
      exact ⟨(s.atTake dt).retiredSec_slot n, rfl, rfl, rfl⟩
  · have plain : ((s.atTake dt).sec n).mark = .none := unmarked
    have step := op.symm.trans (State.retire_of_unlisted plain unlisted)
    have drains : Drain ((s.atTake dt).retireRecords n) n after := step ▸ State.checkFanDrain_drains _ n
    have frame := State.retireRecords_drained_frame plain step
    have loops := drains.loops.trans ((s.atTake dt).retireRecords_loops n)
    have pumps := (congrArg State.pumps step).trans
      ((State.checkFanDrain_pumps _ n).trans ((s.atTake dt).retireRecords_pumps n))
    have line (k : LineId) := (drains.line k).trans (State.retireRecords_line_of_unmarked plain k)
    have time : after.time = (s.atTake dt).time := (congrArg State.time frame).trans rfl
    rw [← drains.memberAir] at loops
    simp only [← drains.pumpDuty] at pumps
    simp only [← drains.maskSafe] at line
    refine ⟨(congrArg (State.sec · n) step).trans (State.retireRecords_drained_self plain), fun m other => ?_,
      (congrArg (State.fan · n) step).trans (State.retireRecords_drained_fan_self plain), fun m other => ?_,
      drains.txQueue.trans (State.retireRecords_txQueue_of_unmarked plain), fun c => ?_, loops, pumps, fun k => ?_, ?_⟩
    · exact (congrArg (State.sec · m) step).trans (State.retireRecords_drained_other plain other)
    · exact (congrArg (State.fan · m) step).trans (State.retireRecords_drained_fan_other plain other)
    · show c ∈ after.attention ↔ _
      rw [drains.attention]
      exact (s.atTake dt).retireRecords_attention_iff n c
    · have expiry (seconds : Nat) : after.expiryIn seconds = (s.atTake dt).expiryIn seconds := by
        rw [State.expiryIn, State.tenths, time]
        rfl
      simp only [← expiry] at line
      exact line k
    · exact (congrArg (State.putReply · { status := .accepted, kind := 6, payload := [] }) frame).trans rfl
  · have plain : ((s.atTake dt).sec n).mark = .none := unmarked
    have lists : (s.atTake dt).search.lists n := listing.2
    have met := State.delisted_waitMet plain
    refine ⟨c.retired n, c.retired_eq n, fun distinct => SearchContext.range_without distinct, fun empty => ?_,
      fun left => ?_⟩
    · have ends := State.retire_ends plain listing.1 lists empty
      rw [op] at ends
      exact ends
    · intro opened normal rests resumes
      refine ⟨fun still held => ?_, fun p params distinct => ?_⟩
      · have stands := State.retire_stands plain listing.1 lists left fun waited state now => by
          obtain ⟨opens, calm⟩ := met.mp now
          rcases state with resting | suspended
          · exact still ⟨waited, resting, opens⟩
          · exact held ⟨waited, suspended, opens, calm suspended⟩
        rw [op] at stands
        exact stands
      · intro tenths
        refine ⟨fun ⟨waited, resting, opens⟩ => ?_, fun ⟨waited, suspended, opens, calm⟩ => ?_⟩
        · have now := met.mpr ⟨opens, fun other => nomatch resting.symm.trans other⟩
          have made := State.retire_begins plain lists left waited now params distinct resting
          rw [op] at made
          exact made
        · have now := met.mpr ⟨opens, fun _ => calm⟩
          have made := State.retire_repeats plain lists left waited now params distinct suspended
          rw [op] at made
          exact made

end Sys2Proof.Machine
end
